-- ==== Sys2Proof/Word.lean ====
section
/-! DEFINITION. The word types of the NV1024 and the index types of its hierarchies. -/

namespace Sys2Proof

/-- A 32-bit register, CPM, table or store word. -/
abbrev Word := BitVec 32

/-- One byte. -/
abbrev Byte := BitVec 8

/-- A unit-wide group number, 0 to 63 (01 R9). -/
abbrev GroupIx := Fin 64

/-- A lane of a group, 0 to 15 (01 R9). -/
abbrev LaneIx := Fin 16

/-- A set of lanes of one group, lane l in bit l (05 R124). -/
abbrev LaneMask := BitVec 16

/-- A tile, 0 to 3 (01 R9). -/
abbrev TileIx := Fin 4

/-- A quad of a group, 0 to 3 (06, quad j of group g). -/
abbrev QuadIx := Fin 4

/-- A pattern stream, 0 to 15 (07). -/
abbrev StreamIx := Fin 16

/-- A trigger line, 0 to 3 (10). -/
abbrev LineIx := Fin 4

/-- A fusee class: 0 FG, 1 RMT, 2 RES, 3 CAL, 4 WEAR, 5 TEL, 6 MIR, 7 HOST (02 R40). -/
abbrev ClassIx := Fin 8

/-- A 48-bit frame number (02 R21). -/
abbrev FrameNo := BitVec 48

/-- A register number X0 to X31 of an engine (05 R131). -/
abbrev RegIx := Fin 32

/-- A sparse store: key and value pairs, keys strictly rising, no value equal to what an
unlisted key reads as. -/
abbrev Table (α : Type) := List (Nat × α)

end Sys2Proof
end

