-- ==== Sys2Proof/Syntax.lean ====
section
/-! DEFINITION. The commands the block takes: one constructor of `Instr` per row of the opcode table,
with the operands that the row's rule names (log entry 1). -/

namespace Sys2Proof

/-- The six supplies (21 R523). -/
inductive Supply where
  | vddCore | vddLink | vddIo | vdda | vpos | vneg
  deriving DecidableEq, Repr

/-- The clock sources (13 R316). -/
inductive ClockSource where
  | rco | xo | ref | root
  deriving DecidableEq, Repr

/-- State of a force stage (03 R53). -/
inductive StageState where
  | hiz | fv | fi
  deriving DecidableEq, Repr

/-- What a force stage follows: its setpoint, the waveform source or the quad's PI output (05 R133). -/
inductive ForceLink where
  | none | wave | pi
  deriving DecidableEq, Repr

/-- The eight major modes (14 R339). -/
inductive Mode where
  | reset | boot | enumerate | configure | run | mirror | safe | factory
  deriving DecidableEq, Repr

/-- Where a command comes from: the MC takes it from its queue, or it arrives on a path (05 R157). -/
inductive CommandFrom where
  | mcQueue | msp | kwenlink
  deriving DecidableEq, Repr

/-- An MSP frame as clocked in (15 R364, R365). -/
structure MspFrame where
  quiet    : Bool          -- SEL_n had been high for 2 µs before the frame (R384)
  bits     : Nat           -- bits clocked
  addr     : Byte
  op       : BitVec 4
  alive    : BitVec 4
  reg      : BitVec 16
  len      : Byte
  reserved : BitVec 7      -- header word 1 [23:17]
  noInc    : Bool
  low      : BitVec 16     -- header word 1 [15:0]
  payload  : List Word
  crc      : BitVec 16
  deriving DecidableEq, Repr

/-- One selection of the port: how it came after the one before, and how many bits it clocked (15 R362, R384). -/
structure Selection where
  quiet : Bool             -- SEL_n had been high for 2 µs before it
  bits  : Nat
  deriving DecidableEq, Repr

/-- How a packet's context reaches the receiver (16 R387, R388, R393). -/
inductive KlContext where
  | whole | aborted | blockError
  deriving DecidableEq, Repr

/-- A Kwenlink packet at KL_RX (16 R389 to R391). -/
structure KlPacket where
  context : KlContext
  dest    : Byte
  src     : Byte
  kind    : BitVec 4       -- TYPE
  urg     : Bool
  resp    : Bool
  len     : BitVec 10
  hop     : Byte
  seq     : BitVec 16
  payload : List (BitVec 64)
  crc     : BitVec 32
  deriving DecidableEq, Repr

/-- A 66-bit block as the receiver's block coder gives it (16 R387): its sync header says data, control, or neither. -/
inductive KlBlock where
  | data (w : BitVec 64)
  | control (w : BitVec 64)
  | invalid
  deriving DecidableEq, Repr

/-- What comes at KL_RX: a packet in a context of its own, or one block (16 R387, R389, R395). -/
inductive KlArrival where
  | packet (p : KlPacket)
  | block (b : KlBlock)
  deriving DecidableEq, Repr

/-- A REGW or REGR request (16 R403). -/
structure RegRequest where
  broadcast : Bool
  seq       : BitVec 16
  addr      : BitVec 16
  noInc     : Bool
  command   : Bool
  reserved  : Bool         -- a reserved field is not 0
  k         : Byte
  len       : Nat          -- payload blocks
  data      : List Word
  deriving DecidableEq, Repr

/-- A pair heartbeat (17 R417). -/
structure Heartbeat where
  valid    : Bool          -- passes its CRC-32 (R413)
  frame    : FrameNo
  pairId   : Bool
  serial   : BitVec 64
  mode     : Mode
  ownOut   : Bool
  compatOk : Bool
  imgVer   : BitVec 16
  vrVer    : BitVec 16
  frameLen : Nat
  div      : Nat
  mirror   : Bool
  deriving DecidableEq, Repr

/-- Channel state of a mirror snapshot (17 R419). -/
structure ChannelSnap where
  stage   : StageState
  range   : BitVec 3
  code    : BitVec 18
  link    : ForceLink
  closed  : Bool           -- commanded relay state
  outSel  : Bool
  limitHi : Bool
  limitLo : Bool
  deriving DecidableEq, Repr

/-- Quad state of a mirror snapshot (17 R419). -/
structure QuadSnap where
  qstat  : Word
  u      : BitVec 18
  eI     : Int
  eV     : Int
  rI     : Int
  rV     : Int
  hold   : Nat             -- holdoff counter
  qual   : List Nat        -- QUAL counters
  succ   : Option (BitVec 7)
  deriving DecidableEq, Repr

/-- One lane's integrator image: Q, E, S and the two counts (04 R102). -/
structure IntegImage where
  q     : BitVec 64
  e     : BitVec 64
  s     : BitVec 64
  miss  : Word
  stale : Word
  deriving DecidableEq, Repr

/-- A mirror snapshot with its slice (17 R419). -/
structure Snapshot where
  valid    : Bool          -- received whole in time (R420)
  bad      : Nat := 0      -- parts that failed their CRC (R413)
  frame    : FrameNo
  seq      : Word
  frontier : FrameNo
  closes   : FrameNo
  chans    : List ChannelSnap
  quads    : List QuadSnap
  sliceInt : List IntegImage
  sliceQ   : List (List Word)
  deriving DecidableEq, Repr

/-- What BOOT's self-test found (14 R348): bad bits per item. -/
structure BistResult where
  sram  : Bool
  desc  : Bool
  link  : BitVec 4
  hs    : BitVec 4
  store : BitVec 64
  cpm   : BitVec 64
  step  : BitVec 64
  slice : BitVec 64
  thr   : BitVec 64
  wdac  : BitVec 64
  deriving DecidableEq, Repr

/-- The commands. `g` group, `m` lane mask CHMASK, `a` and `b` REG_A and REG_B. -/
inductive Instr where
  -- supplies, reset, BOOT (14, 21)
  | supplyRise (k : Supply)
  | supplyMonitorRelease
  | supplyOutOfRange (k : Supply)
  | rstNAssert
  | rstNRelease (bootSrc : BitVec 2) (pairId : Bool)
  | bootMram
  | bootRefWindow
  | noReference
  | bootClock
  | bootImage (flash : List Byte)
  | bootImageTimeout
  | imageFrame (x : Selection) (bytes : List Byte)
  | bootImgDataWrite (v : Word)
  | bootVerify
  | bootLoad
  | bootCompat
  | bootBist (r : BistResult)
  | masterArbitration (bus : BitVec 64)
  | arbitrationSeen
  -- clocks (13, 09)
  | rcoReady
  | xoReady
  | refReady
  | rootLock
  | readyLoss (src : ClockSource)
  | refHoldoverMove
  | clockMonitorTrip
  | clockReturn (root : Bool)
  | domainSwitchDone
  | forcedSwitch
  | regulatorInterval (counted : Nat)
  | hsLock (t : TileIx)
  | hsUnlock (t : TileIx)
  -- frame and escapement (02)
  | frameTick
  | syncHold
  | admissionCutoff
  | routineRelease (g : GroupIx)
  | cycleGuardExpiry (g : GroupIx)
  | commitLen (g : GroupIx)
  | interrupt (g : GroupIx)
  | linkXfer (g : GroupIx)
  | tileLink (t : TileIx)
  | timerExpire (g : GroupIx) (t : Fin 4)
  | resultArrival (g : GroupIx) (l : LaneIx)
  -- SEQ (05 R125)
  | next (g : GroupIx)
  | branch (g : GroupIx) (cond : BitVec 6) (target : BitVec 12) (m : LaneMask) (a : RegIx)
  | call (g : GroupIx) (cond : BitVec 6) (target : BitVec 12) (m : LaneMask) (a : RegIx)
  | return (g : GroupIx) (cond : BitVec 6) (m : LaneMask) (a : RegIx)
  | wait (g : GroupIx) (cond : BitVec 6) (m : LaneMask) (a : RegIx)
  | waitTo (g : GroupIx) (cond : BitVec 6) (target : BitVec 12) (m : LaneMask) (a : RegIx)
  | loop (g : GroupIx) (target : BitVec 12)
  | endSeq (g : GroupIx)
  | commit (g : GroupIx)
  -- ALU (05 R131, R539)
  | mov (g : GroupIx) (a b : RegIx)
  | movi (g : GroupIx) (a : RegIx) (imm : BitVec 24)
  | moviu (g : GroupIx) (a : RegIx) (imm : BitVec 24)
  | add (g : GroupIx) (a b : RegIx)
  | addi (g : GroupIx) (a : RegIx) (imm : BitVec 24)
  | sub (g : GroupIx) (a b : RegIx)
  | and (g : GroupIx) (a b : RegIx)
  | or (g : GroupIx) (a b : RegIx)
  | xor (g : GroupIx) (a b : RegIx)
  | shl (g : GroupIx) (a : RegIx) (imm : BitVec 24)
  | shr (g : GroupIx) (a : RegIx) (imm : BitVec 24)
  | sar (g : GroupIx) (a : RegIx) (imm : BitVec 24)
  | cmp (g : GroupIx) (a b : RegIx)
  | cmpi (g : GroupIx) (a : RegIx) (imm : BitVec 24)
  | ldlc (g : GroupIx) (a : RegIx)
  | mul (g : GroupIx) (a b : RegIx)
  | mulh (g : GroupIx) (a b : RegIx)
  | ldcpm (g : GroupIx) (a : RegIx) (imm : BitVec 24)
  | stcpm (g : GroupIx) (a : RegIx) (imm : BitVec 24)
  | ldres (g : GroupIx) (a : RegIx) (imm : BitVec 24)
  | ldtbl (g : GroupIx) (a : RegIx) (imm : BitVec 24)
  | sttbl (g : GroupIx) (a : RegIx) (imm : BitVec 24)
  | ldfrm (g : GroupIx) (a : RegIx)
  | ldpos (g : GroupIx) (a : RegIx)
  -- timers (05 R130)
  | timerLoadVal (g : GroupIx) (t : Fin 4) (v : BitVec 20)
  | timerLoadReg (g : GroupIx) (t : Fin 4) (b : RegIx)
  | timerStop (g : GroupIx) (t : Fin 4)
  -- force, relay, levels (05 R133, R134)
  | forceHiz (g : GroupIx) (m : LaneMask)
  | forceFv (g : GroupIx) (m : LaneMask) (src : BitVec 4) (b : RegIx) (imm : BitVec 24)
  | forceFi (g : GroupIx) (m : LaneMask) (src : BitVec 4) (b : RegIx) (imm : BitVec 24)
  | forceRange (g : GroupIx) (m : LaneMask)
  | rlyClose (g : GroupIx) (m : LaneMask)
  | rlyOpen (g : GroupIx) (m : LaneMask)
  | forceSafe (g : GroupIx) (m : LaneMask)
  | levelLoad (g : GroupIx) (m : LaneMask) (bits : BitVec 8)
  -- converter (05 R135)
  | adcStart (g : GroupIx) (m : LaneMask) (set : Bool) (dly : BitVec 12)
  | adcUrgent (g : GroupIx) (m : LaneMask) (set : Bool)
  | adcArmPw (g : GroupIx) (m : LaneMask) (set : Bool)
  | adcDisarmPw (g : GroupIx) (m : LaneMask)
  | adcStop (g : GroupIx) (m : LaneMask)
  | adcRead (g : GroupIx) (m : LaneMask)
  | intCapture (g : GroupIx) (m : LaneMask)
  | intCaptureClear (g : GroupIx) (m : LaneMask)
  -- comparators (05 R136)
  | cmpClear (g : GroupIx) (m : LaneMask) (sel : BitVec 2)
  | cmpOff (g : GroupIx) (m : LaneMask) (sel : BitVec 2)
  | cmpThrSel (g : GroupIx) (m : LaneMask) (bits : BitVec 4)
  -- pattern and stamper (05 R137)
  | patStart (g : GroupIx) (seg : BitVec 16)
  | patStop (g : GroupIx)
  | jumpReq (g : GroupIx) (seg : BitVec 16)
  | failRead (g : GroupIx) (a : RegIx)
  | failClr (g : GroupIx)
  | tdcOpen (g : GroupIx) (m : LaneMask)
  | tdcClose (g : GroupIx) (m : LaneMask)
  | tdcRead (g : GroupIx) (m : LaneMask)
  | tdcClear (g : GroupIx) (m : LaneMask)
  -- records and events (05 R138)
  | recWrite (g : GroupIx) (m : LaneMask) (fmt : BitVec 4) (tag : Byte) (a b : RegIx) (imm : BitVec 24)
  | evtWrite (g : GroupIx) (e : BitVec 4) (a : RegIx)
  -- MC micro-operations (05 R156)
  | mcArith (w : Word)
  | mcRegMap (w : Word)
  | mcFlow (w : Word)
  | mcWait (w : Word)
  | mcMessage (w : Word)
  | mcGroupControl (w : Word)
  | mcMode (w : Word)
  | mcReservedOp (w : Word)
  -- vendor routines (12 R298)
  | fpCommit (g : GroupIx)
  | fpReq (g : GroupIx)
  | tbMatch (g : GroupIx)
  | thrCheck (g : GroupIx) (reading : BitVec 20)
  | wearFlush (g : GroupIx)
  | telGather (g : GroupIx)
  -- measurement events (04)
  | scheduledStartEffect (g : GroupIx) (l : LaneIx)
  | urgentStartEffect (g : GroupIx) (l : LaneIx)
  | pwPulseQualified (g : GroupIx) (l : LaneIx) (low : Bool) (released : Bool) (width : Nat)
  | pwStartEffect (g : GroupIx) (l : LaneIx)
  | slicePowerUp (g : GroupIx) (l : LaneIx)
  | conversionComplete (g : GroupIx) (l : LaneIx) (codes : BitVec 20 × BitVec 20)  -- of the live slice and the spare
  | tbShadowDone (g : GroupIx) (n : Nat) (live spare : List (BitVec 20)) (lost : List Nat) (src : BitVec 3)
  | tbHandover (g : GroupIx)
  | tbRecalDone (g : GroupIx) (sumG sumS : Nat)
  | wdacCalDone (g : GroupIx) (sumLo sumHi : Nat)
  | holdBegin (g : GroupIx)
  | fpPointDone (g : GroupIx) (reading : BitVec 20) (slots : Nat)
  | holdEnd (g : GroupIx)
  | fpTimeout (g : GroupIx)
  | comparatorChange (g : GroupIx) (l : LaneIx) (low : Bool) (tripped : Bool) (bins : BitVec 7)
  | tripQualified (g : GroupIx) (l : LaneIx) (low : Bool)
  | relaySettled (g : GroupIx) (l : LaneIx)
  | limitRestore (g : GroupIx) (l : LaneIx)
  -- quads (06)
  | piBoundary (g : GroupIx)
  | holdoffExpiry (g : GroupIx) (j : QuadIx)
  | quadTermination (g : GroupIx) (j : QuadIx)
  | pulsePeriodEnd (g : GroupIx) (j : QuadIx)
  | quadSatTimeout (g : GroupIx) (j : QuadIx)
  | tempLaneTimeout (g : GroupIx) (j : QuadIx)
  | quadStepStart (g : GroupIx) (j : QuadIx)
  | periodicRecordDue (g : GroupIx) (j : QuadIx)
  -- streams (07)
  | vectorBoundary (i : StreamIx)
  | segmentEnd (i : StreamIx)
  | underrun (i : StreamIx)
  | patDone (g : GroupIx)
  | refill (i : StreamIx) (seq : BitVec 16) (offset : Word) (data : List Byte)
  | residentLoad (i : StreamIx) (seq : BitVec 16) (offset : Word) (data : List Byte)
  | ingressWrite (i : StreamIx)
  -- waveform sources (08)
  | wavArm (g : GroupIx) (v : Word)
  | wavArmCheck (g : GroupIx)
  | wavStart (g : GroupIx)
  | wavStop (g : GroupIx) (v : Word)
  | wavStopEffect (g : GroupIx)
  | wavEnd (g : GroupIx)
  | tdcTimedClose (g : GroupIx) (l : LaneIx)
  -- trigger and capture (10)
  | arm (from_ : CommandFrom) (param : BitVec 24)
  | armPacket (frame : FrameNo) (auto : BitVec 16) (l : LineIx) (disarm : Bool)
  | trgFire (v : Word)
  | firePacket (mask : BitVec 4)
  | fireIssue (l : LineIx)
  | trigPulseEnd (l : LineIx)
  | trigEdge (l : LineIx) (bins : BitVec 7)
  | autoTimeout (l : LineIx)
  | captureDone (g : GroupIx)
  -- drain and Kwenlink (11, 16)
  | drainPacket
  | replayTimeout
  | creditResult (ackSeq : BitVec 16) (limit : Word)
  | resultNak (ackSeq : BitVec 16) (limit : Word)
  | klRxUp
  | klRxDown
  | klForward (x : KlArrival)
  | tickMark (n : FrameNo)
  | regw (r : RegRequest)
  | regr (r : RegRequest)
  | urgentStop
  -- modes and commands (02, 14)
  | start (from_ : CommandFrom) (param : BitVec 24)
  | runEntry
  | stop (from_ : CommandFrom) (param : BitVec 24)
  | configureEntry
  | configureRelayStep
  | configureValuesStep
  | powerupValuesApply
  | recover (from_ : CommandFrom) (param : BitVec 24)
  | calNow (from_ : CommandFrom) (param : BitVec 24)
  | enumAssign (from_ : CommandFrom) (word : Word)
  | resume (from_ : CommandFrom) (param : BitVec 24)
  | snapAll (from_ : CommandFrom) (param : BitVec 24)
  | factory (from_ : CommandFrom) (param : BitVec 24)
  | factoryEntry
  | enumInRise
  | enumInFall
  | enumOutRaise
  | syncEdge (stamp : BitVec 43)
  -- management port (15)
  | mspWrite (f : MspFrame)
  | mspRead (f : MspFrame)
  | mspBurstRead (f : MspFrame)
  | mspBurstWrite (f : MspFrame)
  | mspNop (f : MspFrame)
  | rawFrame (x : Selection) (bytes : List Byte)
  | pacingTimeout (addr : BitVec 16) (v : Word)
  -- pair (17)
  | heartbeatReceive (h : Heartbeat)
  | snapshotReceive (p : Snapshot)
  | ownInChange (high : Bool)
  | takeover
  | takeoverComplete
  | ownConflict
  | release
  | releaseEffect
  -- faults, wear, thermal, telemetry (12, 18)
  | faultMessage
  | faultPulseEnd
  | wearMcFlush
  | sensorReading (i : Fin 5) (v : BitVec 16) (selfOk : Bool)
  | graceEnd
  | stepIntTimer
  | telCycle
  | telRecordWrite
  -- completions (11, 19, 20)
  | descWriteEffect
  | postedWriteComplete (page : Nat)
  | nvmCommitDone
  | factTestDone (fail : Bool) (loc : BitVec 24)
  -- register rows (02 to 20)
  | frameLenWrite (v : Word)
  | shareWrite (x : Fin 4) (c : ClassIx) (v : Word)
  | hostStepWrite (v : Word)
  | grpArm (g : GroupIx) (v : Word)
  | armAdmission (g : GroupIx)
  | grpDisarm (g : GroupIx) (v : Word)
  | cpmDataWrite (g : GroupIx) (v : Word)
  | cpmDataRead (g : GroupIx)
  | ucDataWrite (g : GroupIx) (v : Word)
  | ucDataRead (g : GroupIx)
  | tblDataWrite (g : GroupIx) (v : Word)
  | tblDataRead (g : GroupIx)
  | cmpClrWrite (g : GroupIx) (v : Word)
  | gangWrite (g : GroupIx) (k : Fin 4) (v : Word)
  | intSelWrite (g : GroupIx) (v : Word)
  | coefCommitWrite (g : GroupIx) (v : Word)
  | geIrqEnWrite (g : GroupIx) (v : Word)
  | gstopClr (g : GroupIx) (v : Word)
  | descSubmit (v : Word)
  | descLoad
  | descStepRead
  | fmtDataWrite (v : Word)
  | fmtDataRead
  | maskDataWrite (g : GroupIx) (v : Word)
  | maskDataRead (g : GroupIx)
  | rdRst (g : GroupIx) (v : Word)
  | streamFlush (i : StreamIx) (v : Word)
  | tbEnable (v : Word)
  | refSelWrite (v : Word)
  | rcoTrimWrite (v : Word)
  | firstClr (v : Word)
  | faultPinAssert (v : Word)
  | injMsg (v : Word)
  | injMem (v : Word)
  | sevDataRead
  | logLoad
  | logStepRead
  | thmLimitWrite (off : Fin 6) (v : Word)
  | rawCountWrite (v : Word)
  | drainRsvWrite (v : Word)
  | pairEnWrite (v : Word)
  | tokDataRead
  | nvmDataWrite (v : Word)
  | nvmDataRead
  | nvmCommit (v : Word)
  | factTestRun (v : Word)
  | evtClr (page : Nat) (v : Word)
  | snapWrite (page : Nat)
  | busyFlagClear (page : Nat) (v : Word)
  | registerWrite (addr : BitVec 16) (v : Word)
  -- test access port (21 R535)
  | extest (cells : BitVec 18)
  | samplePreload (cells : BitVec 18)
  | bypass (code : BitVec 4)
  -- rows added at the table's end
  | groupConversionClockEdge (g : GroupIx)
  | klBlockLock
  | klAlignFound
  | pairLinkUp
  | pairLinkDown
  | wavOutputSample (g : GroupIx)
  | enumOutFollow
  deriving DecidableEq, Repr

end Sys2Proof
end

