-- ==== Sys2Proof/Config.lean ====
section
/-! DEFINITION. Values the spec leaves open: each is an opaque constant, so no proof can see one. -/

namespace Sys2Proof.Config

/-- Form of the first correction of a sample (04 R83): from the slice's gain and offset words
and the raw code to the sample in 1/16 codes. The spec gives the coefficient, not the form. -/
opaque sliceCorrect : BitVec 24 → BitVec 24 → BitVec 20 → Int

/-- Slice coefficients a RECAL derives from its sums at VREF_G and VREF_S (04 R110): gain and offset. -/
opaque recalGain : Nat → Nat → BitVec 24

/-- See `recalGain`. -/
opaque recalOffset : Nat → Nat → BitVec 24

/-- WAV CAL word the DAC readings at codes 2,048 and 14,336 give (12 R304). -/
opaque wdacCal : Nat → Nat → BitVec 32

/-- Slice coefficients that MRAM's factory constants give at BOOT (14 R342, 20 R497): which BOOT, which slice of the
unit. Their layout is internal to the maker. -/
opaque sliceGain : Nat → Nat → BitVec 24

/-- See `sliceGain`. -/
opaque sliceOffset : Nat → Nat → BitVec 24

/-- Coefficient word w (0 to 15) that the readings of a force-path hold give (12 R301). -/
opaque fpCoef : List (BitVec 20) → Nat → BitVec 24

/-- Ball-to-stamper delay a hold measures for a channel (12 R301): which hold, which channel. -/
opaque fpDelay : Nat → Nat → BitVec 16

/-- Which way a quotient that is not whole rounds where the spec states no rounding, or no rule for ties: the
place (0 the sine's interpolation, 08 R223; 1 and 2 a match's gain and offset error, 04 R107; 3 the steering
value, 13 R332; 4 the regulator's error, 5 the ties of its step, 13 R329; 6 the ties of a coarse step, 13 R333),
the two numbers. True is up. -/
opaque roundsUp : Nat → Int → Nat → Bool

/-- Error word of a match whose value its field does not hold, or has none (04 R107): gain or offset, and the
counts and sums of the live and the spare samples. -/
opaque matchWord : Bool → Nat → Int → Int → Int → Int → BitVec 24

/-- RDC of a pulse step whose quotient does not fit its 32 bits (06 R171): differences of V_SUM and of I_SUM. -/
opaque rdcWord : Int → Int → BitVec 32

/-- `CLK.RCO_ERR` for an error the field does not hold (13 R337): the periods counted and twice those expected. -/
opaque rcoErrWord : Nat → Nat → BitVec 16

/-- Output code of the stored-waveform resampler (08 R227): the sixteen samples of the window,
the filter phase 0 to 1,023. The spec gives no coefficients. -/
opaque resample : List Nat → Nat → Int

/-- The nonce drawn at RESET and after a FACTORY command (14 R358): the n-th draw. -/
opaque nonce : Nat → BitVec 64

/-- Lanes whose clamp holds the output at an instant (03 R57): an analog fact no command brings. -/
opaque clampSense : Nat → Nat → LaneMask

/-- Levels of the scanned balls that no command brings, at a capture of the boundary register (21 R535). -/
opaque ballLevels : Nat → BitVec 18

/-- `TILE.HS_ERR` at an instant (20 R512): tile, instant. -/
opaque hairspringError : Nat → Nat → BitVec 16

/-- Words of copy B that a commit had rewritten when RESET interrupted it (14 R343, 20 R498). -/
opaque commitCopied : Nat → Nat

/-- Time in µs that `BOOT.TIME` shows (14 R360): the n-th measurement. -/
opaque bootTime : Nat → BitVec 32

/-- Supply voltage and current words of a SUPPLY telemetry record (12 R309): supply, instant. -/
opaque supplyWord : Nat → Nat → BitVec 32

/-- Whether a forcing stage carries at most 1.6 mA at an instant (12 R300): channel, instant. -/
opaque currentSmall : Nat → Nat → Bool

/-- Which operands an MC micro-operation takes (05 R156): its OP, and what is asked of it. -/
opaque mcForm : Nat → Nat → Nat

/-- Result of an MC micro-operation whose operands the spec does not give in full (05 R156):
the micro-operation, two register values, a draw. -/
opaque mcResult : BitVec 32 → BitVec 32 → BitVec 32 → Nat → BitVec 32

/-- Condition an MC wait or branch-on-flag sees (05 R156): the micro-operation, a draw. -/
opaque mcFlag : BitVec 32 → Nat → Bool

end Sys2Proof.Config
end

