-- ==== Sys2Proof/Machine/Crypto.lean ====
section
/-! DEFINITION. The checks of start-up that the spec takes from published standards (14 R343, R346, R358): the CRC-32 of
IEEE 802.3, SHA-256, ECDSA on P-256. -/

namespace Sys2Proof.Machine

open Sys2Proof

/-- A function of a number, the number evaluated first: the kernel then carries a numeral, not the sum it came from. -/
def evalFirst {α : Type} (n : Nat) (f : Nat → α) : α :=
  match n with
  | 0 => f 0
  | m + 1 => f (m + 1)

/-- Evaluating first changes nothing. -/
theorem evalFirst_eq {α : Type} (n : Nat) (f : Nat → α) : evalFirst n f = f n := by cases n <;> rfl

/-! ## CRC-32 (R343) -/

/-- One bit of the CRC, in its reflected form: 0xEDB88320 is the IEEE 802.3 polynomial 0x04C11DB7, bit 0 first. -/
def crc32Bit (c : Nat) : Nat := Nat.xor (Nat.div c 2) (Nat.mul 0xEDB88320 (Nat.mod c 2))

/-- Four bits of the CRC. -/
def crc32Nibble (c : Nat) : Nat := crc32Bit (crc32Bit (crc32Bit (crc32Bit c)))

/-- Sixteen bits of the CRC. -/
def crc32Half (c : Nat) : Nat := crc32Nibble (crc32Nibble (crc32Nibble (crc32Nibble c)))

/-- A word enters the CRC, its least significant bit first. -/
def crc32Word (c : Nat) (w : Word) : Nat := crc32Half (crc32Half (Nat.xor c w.toNat))

/-- Words enter one after another. -/
def crc32Words : Nat → List Word → Nat
  | c, [] => c
  | c, w :: r => evalFirst (crc32Word c w) fun c => crc32Words c r

/-- CRC-32 of a list of words: register of ones at the start, inverted at the end. -/
def crc32 (l : List Word) : Word := BitVec.ofNat 32 (crc32Words 0xFFFFFFFF l ^^^ 0xFFFFFFFF)

/-! ## SHA-256 (R346, R358) -/

/-- Round constants. -/
def shaK : List Word :=
  [0x428A2F98, 0x71374491, 0xB5C0FBCF, 0xE9B5DBA5, 0x3956C25B, 0x59F111F1, 0x923F82A4, 0xAB1C5ED5,
   0xD807AA98, 0x12835B01, 0x243185BE, 0x550C7DC3, 0x72BE5D74, 0x80DEB1FE, 0x9BDC06A7, 0xC19BF174] ++
  [0xE49B69C1, 0xEFBE4786, 0x0FC19DC6, 0x240CA1CC, 0x2DE92C6F, 0x4A7484AA, 0x5CB0A9DC, 0x76F988DA,
   0x983E5152, 0xA831C66D, 0xB00327C8, 0xBF597FC7, 0xC6E00BF3, 0xD5A79147, 0x06CA6351, 0x14292967] ++
  [0x27B70A85, 0x2E1B2138, 0x4D2C6DFC, 0x53380D13, 0x650A7354, 0x766A0ABB, 0x81C2C92E, 0x92722C85,
   0xA2BFE8A1, 0xA81A664B, 0xC24B8B70, 0xC76C51A3, 0xD192E819, 0xD6990624, 0xF40E3585, 0x106AA070] ++
  [0x19A4C116, 0x1E376C08, 0x2748774C, 0x34B0BCB5, 0x391C0CB3, 0x4ED8AA4A, 0x5B9CCA4F, 0x682E6FF3,
   0x748F82EE, 0x78A5636F, 0x84C87814, 0x8CC70208, 0x90BEFFFA, 0xA4506CEB, 0xBEF9A3F7, 0xC67178F2]

/-- The eight words of the chaining value and of the working registers, a to h. -/
structure Sha where
  a : Word
  b : Word
  c : Word
  d : Word
  e : Word
  f : Word
  g : Word
  h : Word
  deriving DecidableEq, Repr

/-- Initial chaining value. -/
def Sha.init : Sha := ⟨0x6A09E667, 0xBB67AE85, 0x3C6EF372, 0xA54FF53A,
  0x510E527F, 0x9B05688C, 0x1F83D9AB, 0x5BE0CD19⟩

/-- One round: constant and schedule word in one. -/
def Sha.round (s : Sha) (kw : Word) : Sha :=
  let s1 := s.e.rotateRight 6 ^^^ s.e.rotateRight 11 ^^^ s.e.rotateRight 25
  let ch := (s.e &&& s.f) ^^^ (~~~s.e &&& s.g)
  let t1 := s.h + s1 + ch + kw
  let s0 := s.a.rotateRight 2 ^^^ s.a.rotateRight 13 ^^^ s.a.rotateRight 22
  let maj := (s.a &&& s.b) ^^^ (s.a &&& s.c) ^^^ (s.b &&& s.c)
  ⟨t1 + s0 + maj, s.a, s.b, s.c, s.d + t1, s.e, s.f, s.g⟩

/-- The next word of the message schedule, from the last sixteen with the newest first. -/
def shaNext (l : List Word) : Word :=
  let x := l.getD 14 0
  let y := l.getD 1 0
  (y.rotateRight 17 ^^^ y.rotateRight 19 ^^^ (y >>> 10)) + l.getD 6 0 +
    (x.rotateRight 7 ^^^ x.rotateRight 18 ^^^ (x >>> 3)) + l.getD 15 0

/-- The message schedule of a block of sixteen words, newest first. -/
def shaSchedule (block : List Word) : List Word :=
  (List.range 48).foldl (fun l _ => shaNext l :: l) block.reverse

/-- One block enters the chaining value. -/
def Sha.block (s : Sha) (block : List Word) : Sha :=
  let r := (shaK.zip (shaSchedule block).reverse).foldl (fun t kw => t.round (kw.1 + kw.2)) s
  ⟨s.a + r.a, s.b + r.b, s.c + r.c, s.d + r.d, s.e + r.e, s.f + r.f, s.g + r.g, s.h + r.h⟩

/-- Words of a byte string, the most significant byte first; bytes beyond the last whole word are dropped. -/
def beWords : List Byte → List Word
  | a :: b :: c :: d :: r => (a ++ b ++ c ++ d) :: beWords r
  | _ => []

/-- A message with its padding and its length in bits. -/
def shaPad (m : List Byte) : List Byte :=
  let len := 8 * m.length
  m ++ [(0x80 : Byte)] ++ List.replicate ((119 - m.length % 64) % 64) (0 : Byte) ++
    (List.range 8).map fun i => BitVec.ofNat 8 (len >>> (8 * (7 - i)))

/-- Blocks of sixteen words enter one after another. -/
def Sha.blocks : Nat → Sha → List Word → Sha
  | 0, s, _ => s
  | n + 1, s, l => Sha.blocks n (s.block (l.take 16)) (l.drop 16)

/-- SHA-256 of a byte string. -/
def sha256 (m : List Byte) : BitVec 256 :=
  let l := beWords (shaPad m)
  let s := Sha.blocks (l.length / 16) Sha.init l
  s.a ++ s.b ++ s.c ++ s.d ++ s.e ++ s.f ++ s.g ++ s.h

/-! ## ECDSA on P-256 (R346, R358) -/

/-- The prime of the field. -/
def p256 : Nat := 0xFFFFFFFF00000001000000000000000000000000FFFFFFFFFFFFFFFFFFFFFFFF

/-- The order of the group. -/
def n256 : Nat := 0xFFFFFFFF00000000FFFFFFFFFFFFFFFFBCE6FAADA7179E84F3B9CAC2FC632551

/-- The constant of y² = x³ - 3x + b. -/
def b256 : Nat := 0x5AC635D8AA3A93E7B3EBBD55769886BC651D06B0CC53B0F63BCE3C3E27D2604B

/-- a^e modulo m, e below 2^256. -/
def powMod (m a e : Nat) : Nat :=
  (List.range 256).foldl (fun r i =>
    let q := r * r % m
    if e.testBit (255 - i) then q * a % m else q) 1

/-- a - b modulo p, both below p. -/
def subP (a b : Nat) : Nat := (a + (p256 - b)) % p256

/-- A point in Jacobian coordinates: x / z², y / z³; z = 0 at infinity. -/
structure Point where
  x : Nat
  y : Nat
  z : Nat
  deriving DecidableEq, Repr

/-- The point at infinity. -/
def Point.zero : Point := ⟨1, 1, 0⟩

/-- The generator. -/
def Point.base : Point :=
  ⟨0x6B17D1F2E12C4247F8BCE6E563A440F277037D812DEB33A0F4A13945D898C296,
   0x4FE342E2FE1A7F9B8EE7EB4A7C0F9E162BCE33576B315ECECBB6406837BF51F5, 1⟩

/-- Twice a point. -/
def Point.double (q : Point) : Point :=
  let y2 := q.y * q.y % p256
  let z2 := q.z * q.z % p256
  let s := 4 * q.x * y2 % p256
  let m := 3 * subP q.x z2 * (q.x + z2) % p256
  let x := subP (m * m % p256) (2 * s % p256)
  ⟨x, subP (m * subP s x % p256) (8 * y2 * y2 % p256), 2 * q.y * q.z % p256⟩

/-- Sum of two points. -/
def Point.add (q r : Point) : Point :=
  if q.z = 0 then r else if r.z = 0 then q
  else
    let z1 := q.z * q.z % p256
    let z2 := r.z * r.z % p256
    let u1 := q.x * z2 % p256
    let s1 := q.y * z2 * r.z % p256
    let h := subP (r.x * z1 % p256) u1
    let t := subP (r.y * z1 * q.z % p256) s1
    if h = 0 then (if t = 0 then q.double else Point.zero)
    else
      let h2 := h * h % p256
      let v := u1 * h2 % p256
      let x := subP (subP (t * t % p256) (h2 * h % p256)) (2 * v % p256)
      ⟨x, subP (t * subP v x % p256) (s1 * h2 * h % p256), h * q.z * r.z % p256⟩

/-- k times a point, k below 2^256. -/
def Point.mul (k : Nat) (q : Point) : Point :=
  (List.range 256).foldl (fun r i =>
    let d := r.double
    if k.testBit (255 - i) then d.add q else d) Point.zero

/-- Affine x of a point other than infinity. -/
def Point.affineX (q : Point) : Nat := q.x * powMod p256 (q.z * q.z % p256) (p256 - 2) % p256

/-- Affine y of a point other than infinity. -/
def Point.affineY (q : Point) : Nat := q.y * powMod p256 (q.z * q.z * q.z % p256) (p256 - 2) % p256

/-- Big-endian number of a byte string. -/
def beNat (l : List Byte) : Nat := l.foldl (fun n b => 256 * n + b.toNat) 0

/-- x³ - 3x + b. -/
def curveRhs (x : Nat) : Nat := (x * x * x + (p256 - 3) * x + b256) % p256

/-- Whether affine coordinates are those of a point of the curve. -/
def onCurve (x y : Nat) : Bool := decide (x < p256) && decide (y < p256) && y * y % p256 == curveRhs x

/-- u1 · G + u2 · Q for a digest, a number r and a number s: the point whose x is r where the signature is valid. -/
def ecdsaPoint (x y e r s : Nat) : Point :=
  let w := powMod n256 s (n256 - 2)
  (Point.base.mul (e * w % n256)).add (Point.mul (r * w % n256) ⟨x, y, 1⟩)

/-- ECDSA P-256 verification (R346, R358): public key X, Y; digest; signature r, s, each 32 bytes. -/
def ecdsaP256 (key : List Byte) (digest : BitVec 256) (sig : List Byte) : Bool :=
  let x := beNat (key.take 32)
  let y := beNat (key.drop 32)
  let r := beNat (sig.take 32)
  let s := beNat (sig.drop 32)
  if onCurve x y && decide (0 < r) && decide (r < n256) && decide (0 < s) && decide (s < n256) then
    let q := ecdsaPoint x y digest.toNat r s
    q.z != 0 && q.affineX % n256 == r
  else false

/-- 32 bytes of a number, the most significant first. -/
def beBytes (n : Nat) : List Byte := (List.range 32).map fun i => BitVec.ofNat 8 (n >>> (8 * (31 - i)))

/-- The public keys under which a signature could be valid: one for each point whose x is r modulo the order
(R358 names the factory key by its hash only). -/
def ecdsaKeys (digest : BitVec 256) (sig : List Byte) : List (List Byte) :=
  let r := beNat (sig.take 32)
  let s := beNat (sig.drop 32)
  let w := powMod n256 r (n256 - 2)
  let u := (n256 - digest.toNat % n256) * w % n256
  [r, r + n256].flatMap fun x =>
    let y := powMod p256 (curveRhs x) ((p256 + 1) / 4)
    if onCurve x y then
      [y, subP 0 y].map fun y =>
        let q := (Point.base.mul u).add (Point.mul (s * w % n256) ⟨x, y, 1⟩)
        beBytes q.affineX ++ beBytes q.affineY
    else []

end Sys2Proof.Machine
end

