-- ==== Sys2Proof/Machine/State.lean ====
section
/-! DEFINITION. The state of the NV1024 as plain data, the closed lists of faults and refusals, and the
state after reset. Rule numbers R<n> are the spec's. -/

namespace Sys2Proof.Machine

open Sys2Proof

/-! ## Channel front end (03) -/

/-- Relay states as `GRP.RLY_STATE` codes them (R64). -/
inductive RelayState where
  | opened | closing | closed | opening
  deriving DecidableEq, Repr

/-- What the pattern driver does (R65, R66, R75, R190). -/
inductive DriveState where
  | off | low | high | term
  deriving DecidableEq, Repr

/-- Safe-path action in force on a channel, weakest first (R77). -/
inductive SafeAction where
  | none | cutoff | safeState | disconnect
  deriving DecidableEq, Repr

/-- A clear of latch bits on its way to the tile: the SEQ cycle, counted from the root count, in which it arrives (R71). -/
structure LatchClear where
  arrives : Nat
  hi      : LaneMask
  lo      : LaneMask
  deriving DecidableEq, Repr

/-- One comparator of a channel: the loaded threshold set, its raw output and its latches (R67 to R73). -/
structure Comparator where
  thr       : BitVec 16 := 0
  hyst      : BitVec 7 := 0
  mode      : BitVec 3 := 0
  swClear   : Bool := false     -- LATCH
  fromI     : Bool := false     -- SRC: current monitor
  tripped   : Bool := false     -- raw output
  blanking  : Bool := false     -- persistence timer running
  blankTo   : Nat := 0          -- root count at which it ends (R70)
  blank     : Nat := 0          -- its length in root cycles, as loaded with the set (R70)
  qualified : Bool := false
  latch     : Bool := false
  limit     : Bool := false     -- the latch was set by a LIMIT trip (R73)
  deriving DecidableEq, Repr

/-- Force stage (R53 to R58). -/
structure Stage where
  st     : StageState := .hiz
  range  : BitVec 3 := 0
  code   : BitVec 18 := 0
  link   : ForceLink := .none
  mag    : BitVec 16 := 0
  vclamp : Word := 0
  was    : BitVec 3 := 0        -- range before the last change of range under drive (R58)
  moved  : Option Nat := none   -- root count of that change
  deriving DecidableEq, Repr

/-- Pattern driver (R65, R66, R220). -/
structure Driver where
  st      : DriveState := .off
  vih     : BitVec 16 := 0
  vil     : BitVec 16 := 0
  vt      : BitVec 16 := 0
  linkVih : Bool := false
  linkVil : Bool := false
  termEn  : Bool := false
  prev    : DriveState := .off  -- what KEEP repeats (R190)
  deriving DecidableEq, Repr

/-- Isolation relay and its wear counts not yet flushed (R63, R64, 12 R305). -/
structure Relay where
  st    : RelayState := .opened
  beamB : Bool := false         -- beam of the last close (`RLY_BEAM`)
  used  : Bool := false         -- a close has been made since RESET
  retA  : Bool := false         -- retired flags, as BOOT loaded them and a flush left them (12 R306, 20 R498)
  retB  : Bool := false
  pendA : Word := 0
  pendB : Word := 0
  deriving DecidableEq, Repr

/-- Everything of a channel in chapter 03. -/
structure FrontEnd where
  stage    : Stage := {}
  driver   : Driver := {}
  relay    : Relay := {}
  outSel   : Bool := false      -- node-owner latch (R540)
  rlyIdle  : BitVec 16 := 20    -- RLY_IDLE in force (R63)
  idleFrom : Option Nat := some 0  -- root count since which stage and driver have been off
  action   : SafeAction := .none
  hi       : Comparator := {}
  lo       : Comparator := {}
  puRec    : BitVec 64 := 0     -- power-up record latch (R75)
  safeRec  : BitVec 64 := 0     -- safe record latch
  restore  : Bool := false      -- restore of R73 waits for the relay
  trips    : Word := 0          -- qualified trips, for telemetry (12 R309)
  closes   : Word := 0          -- relay closes, for telemetry
  deriving DecidableEq, Repr

/-! ## Measurement (04) -/

/-- How a conversion was asked for (R90, R92, R93). -/
inductive StartKind where
  | scheduled | urgent | pulse
  deriving DecidableEq, Repr

/-- What holds at a sampling instant (R83, R99): the clock edge it is on, the source, the slice's and the path's
coefficients. -/
structure Sampling where
  edge : Option Nat
  src  : Nat
  range : BitVec 3              -- range of the stage
  gain : BitVec 24
  ofs  : BitVec 24
  cg   : BitVec 24
  co   : BitVec 24
  deriving DecidableEq, Repr

/-- A requested or running conversion: the measurement set as copied at issue, its running sum in 1/16
codes, and the pass and program that own it (R86 to R94, R146). -/
structure Job where
  kind  : StartKind
  src   : BitVec 3
  mode  : BitVec 2
  k     : Nat                   -- AVG_LOG2 acting
  prog  : BitVec 12             -- entry of the program that asked (R88)
  cls   : ClassIx := 0          -- class its slots are charged to (02 R40)
  pass  : Nat
  sum   : Int := 0
  n     : Nat := 0
  ovr   : Bool := false
  due   : Nat := 0              -- root count at which ADC_DLY ends (R90)
  take  : Option Sampling := none  -- the sample now being converted
  deriving DecidableEq, Repr

/-- A converter slice: start-up, the running job, the scheduled start that waits (R91, R94). -/
structure Slice where
  powered : Bool := false
  warming : Bool := false       -- start-up of R91
  job     : Option Job := none
  next    : Option Job := none
  gain    : BitVec 24 := 0      -- slice coefficient (R110)
  ofs     : BitVec 24 := 0
  deriving DecidableEq, Repr

/-- What an operation of the microword does at the tile: ARM_PW with its request, DISARM_PW, READ (R92, R97); the time
stamper's OPEN with its pass, CLOSE, READ, CLEAR (09 R244 to R247); a takeover's restored output (17 R424, R425). -/
inductive TileOp where
  | armPw (j : Job)
  | disarmPw
  | adcRead
  | tdcOpen (pass : Nat)
  | tdcClose
  | tdcRead
  | tdcClear
  | restore (c : ChannelSnap)
  deriving DecidableEq, Repr

/-- An operation on its way to the tile: the root count at which it arrives, and its lane (01 R6). -/
structure TileSend where
  arrives : Nat
  lane    : LaneIx
  op      : TileOp
  deriving DecidableEq, Repr

/-- A pulse-width arm: copies of PW_EVT and PW_WIDTH (R92). -/
structure PwArm where
  evt   : Word
  width : Word
  job   : Job
  deriving DecidableEq, Repr

/-- A value on its way to the result latch (R132). -/
structure Arrival where
  l0    : Word
  l1    : Option Word           -- none: a conversion result, which writes L0 only
  ovr   : Bool := false
  pass  : Nat := 0
  started : Bool := true        -- belongs to a conversion, cancelled with its pass (R146)
  deriving DecidableEq, Repr

/-- Integrators of a channel (R98 to R101, R112). -/
structure Integ where
  q     : BitVec 64 := 0
  e     : BitVec 64 := 0
  rem   : BitVec 16 := 0        -- remainder of R99
  s     : BitVec 64 := 0
  miss  : Word := 0
  stale : Word := 0
  deriving DecidableEq, Repr

/-- What INT_CAPTURE left to the next clock edge (R102). -/
inductive CapturePend where
  | none | capture | captureClear
  deriving DecidableEq, Repr

/-- Everything of a channel in chapter 04. -/
structure Measure where
  l0       : Word := 0
  l1       : Word := 0
  fresh    : Bool := false
  resOvr   : Bool := false      -- the latch is built from an overrange sample (R85)
  lastRes  : Option (Word × Bool) := none  -- last result taken outside a hold, and its overrange mark (R111)
  arrivals : List Arrival := []
  waitS    : List Job := []     -- scheduled starts in their ADC_DLY wait, earliest first
  waitU    : List Job := []     -- urgent requests on their way
  waitP    : List Job := []     -- pulse-width starts in their DLY wait
  pw       : Option PwArm := none
  block    : Word := 0          -- latest CONTINUOUS block (R97)
  blockCnt : BitVec 16 := 0
  blockOvr : Bool := false
  integ    : Integ := {}
  capImg   : IntegImage := ⟨0, 0, 0, 0, 0⟩
  tickImg  : IntegImage := ⟨0, 0, 0, 0, 0⟩
  edgeImg  : IntegImage := ⟨0, 0, 0, 0, 0⟩  -- values at the last clock edge (R102)
  prevImg  : IntegImage := ⟨0, 0, 0, 0, 0⟩  -- values at the edge before it (R103)
  capPend  : CapturePend := .none
  clrPend  : Option Nat := none -- root count at which INT_SEL.CLR reaches the tile; it acts at the next edge (R103)
  ePend    : Option (Nat × Int × LaneIx) := none  -- integrand sample of an edge still without its partner lane's (R99)
  vAt      : Option (Nat × Int) := none  -- last VNODE sample on an edge: edge, x_v
  lastX    : Option Int := none -- last integrand sample, for a hold (R112)
  lastY    : Nat := 0           -- latest corrected VNODE sample, whole code (06 R179)
  deriving DecidableEq, Repr

/-! ## Time stamper (09) -/

/-- A stamp held in a lane's buffer (R246): the pass of its window, the time it was accepted, in bins of R239, and its
word. -/
structure HeldStamp where
  pass : Nat
  at_  : Nat
  word : BitVec 64
  deriving DecidableEq, Repr

/-- Time stamper of a channel (R241 to R248). -/
structure Stamper where
  opened : Bool := false
  pass   : Nat := 0
  cfg    : Word := 0            -- copy of TDC_CFG
  len    : BitVec 24 := 0       -- copy of TDC_WIN.LEN
  presc  : Nat := 0
  count  : Byte := 0
  acc    : Nat := 0             -- stamps accepted toward MAX
  fifo   : List HeldStamp := []
  lost   : Bool := false
  lastAt : Option Nat := none   -- time of the last accepted stop, in bins of R239 (2.5 ns of R243)
  openAt : Nat := 0             -- root count at the opening
  shutAt : Option Nat := none   -- root count of a close that still takes stops in its cycle (R244)
  deriving DecidableEq, Repr

/-- One channel. -/
structure Channel where
  fe : FrontEnd := {}
  ms : Measure := {}
  td : Stamper := {}
  deriving DecidableEq, Repr

/-! ## Group engine (05) -/

/-- An engine timer (R130). -/
inductive Timer where
  | stopped
  | running (v : Word)
  | expired
  deriving DecidableEq, Repr

/-- The four ALU flags (R539). -/
structure Flags where
  z : Bool := false
  n : Bool := false
  c : Bool := false
  v : Bool := false
  deriving DecidableEq, Repr

/-- Registers, flags and loop counter (R131). -/
structure Regs where
  x     : Vector Word 32 := Vector.replicate 32 0
  flags : Flags := {}
  lc    : Word := 0
  deriving DecidableEq, Repr

/-- A result record on its way to a ring (R276 to R280), or an event entry (R285). -/
structure Entry where
  words : List Word             -- 8 or 16 words, header first
  chan  : BitVec 10
  tag   : Byte
  lane  : Nat := 0              -- lane whose read pointer advances (R266)
  acq   : Nat := 0              -- capture points the record carries
  deriving DecidableEq, Repr

/-- An entry held in the staging buffer: a record, or a group event (R144). -/
inductive Staged where
  | record (e : Entry)
  | event (code : BitVec 4) (value : Word) (pos : BitVec 28) (frame : FrameNo)
  deriving DecidableEq, Repr

/-- State of an arm slot as `GRP.SLOTS` codes it (R47). -/
inductive SlotState where
  | empty | once | repeat
  deriving DecidableEq, Repr

/-- An arm slot: the program, its declarations, and the frames it is admitted for (R26 to R37). -/
structure Slot where
  st     : SlotState := .empty
  entry  : BitVec 12 := 0
  len    : BitVec 12 := 0
  rst    : BitVec 2 := 0
  w      : BitVec 28 := 0
  a      : BitVec 24 := 0
  s      : BitVec 28 := 0
  d      : BitVec 24 := 0
  start  : Bool := false        -- held for the next START frame
  cur    : Bool := false        -- admitted for the current frame
  next   : Bool := false        -- admitted for the next frame
  after  : Bool := false        -- admitted for the frame after the next
  deriving DecidableEq, Repr

/-- An arm latched by the escapement and not yet checked (R28, R29). -/
structure ArmReq where
  entry  : BitVec 12
  rep    : Bool
  slot   : Fin 8
  late   : Bool                 -- received after the admission cut-off
  deriving DecidableEq, Repr

/-! ## Cell quads (06) -/

/-- Quad states as `QSTAT.STATE` codes them (R172). -/
inductive QuadState where
  | idle | running | ending | paused | done | faulted | refused
  deriving DecidableEq, Repr

/-- PI regulator of a quad (R162, R164). -/
structure PiLoop where
  u  : BitVec 18 := 0
  eI : Int := 0
  eV : Int := 0
  rI : Int := 0
  rV : Int := 0
  deriving DecidableEq, Repr

/-- Accumulators of a quad between two PI boundaries (R161). -/
structure QuadAcc where
  v  : Int := 0                 -- in 1/16 codes
  i  : Int := 0
  nv : Nat := 0
  ni : Nat := 0
  xAt : Option (Nat × Int) := none  -- x_i waiting for its voltage (R180, E_STEP)
  vAt : Option (Nat × Int) := none
  deriving DecidableEq, Repr

/-- One quad sequencer. -/
structure Quad where
  st      : QuadState := .idle
  runClear : Bool := false      -- a write of RUN = 0 waits for the PI boundary (R173)
  step    : BitVec 6 := 0
  slot    : Fin 8 := 0          -- SLOT as read at the start (R173)
  cond    : BitVec 3 := 0
  reason  : BitVec 4 := 0
  cause   : BitVec 4 := 0
  serial  : Byte := 0
  words   : List Word := []     -- the step's twelve words as copied (R176)
  pi      : PiLoop := {}
  acc     : QuadAcc := {}
  stats   : Vector Word 16 := Vector.replicate 16 0
  image   : Vector Word 16 := Vector.replicate 16 0
  rem     : BitVec 16 := 0      -- energy remainder of E_STEP
  qual    : Vector Nat 4 := Vector.replicate 4 0
  succ    : Option (BitVec 7) := none  -- latched successor (R169)
  wait    : Bool := false       -- holds V0 until one complete PI cycle (R174)
  pulse   : Bool := false       -- in the pulse period (R171)
  vb      : Int := 0            -- V_SUM and I_SUM at the end of the base period
  ib      : Int := 0
  sat     : Nat := 0            -- PI cycles at a clamp (R183)
  tMiss   : Nat := 0            -- boundaries without a thermistor sample (R179)
  tSeen   : LaneMask := 0       -- lanes of the group with a VNODE sample since the last boundary (R179)
  blkSum  : Int := 0
  blkN    : Nat := 0
  blkCnt  : Nat := 0
  ended   : Option Word := none  -- word 0 of the step that ended in this frame (R182)
  period  : Nat := 0            -- frames since the step or the last periodic record
  recDue  : Bool := false       -- a periodic record is due in the drop window (R182)
  due     : Bool := false       -- a start waits for the first PI boundary after the tick (R165)
  starting : Bool := false      -- IDLE with RUN = 1 at the last tick (R173 DECL)
  evalAll : Bool := false       -- the holdoff is over (R169)
  blkEnd  : Bool := false       -- a block ended at the last boundary (R168)
  fresh   : Bool := false       -- the last PI cycle was complete
  cfg     : List Word := []     -- words 0x301 to 0x30A as read at the last PI boundary (R176)
  faultAt : Option Nat := none  -- SEQ cycle of the fault (R183)
  deriving DecidableEq, Repr

/-! ## Group -/

/-- Tourbillon states as `TB_STATE.STATE` codes them (R105). -/
inductive TbState where
  | off | shadow | match | handover | recal | halted
  deriving DecidableEq, Repr

/-- What SHADOW has collected (R106, R107): pairs of corrected samples, live and spare, in 1/16 codes, by their sums and
sums of squares; the source and range they were taken in. -/
structure Pairs where
  n    : Nat := 0
  sumL : Int := 0
  sqL  : Int := 0
  sumS : Int := 0
  sqS  : Int := 0
  key  : Option (Nat × BitVec 3) := none
  deriving DecidableEq, Repr

/-- Tourbillon of a group (R105 to R110). -/
structure Tourbillon where
  st       : TbState := .off
  lane     : LaneIx := 0
  spare    : Fin 17 := 16
  serve    : Vector (Fin 17) 16 := Vector.ofFn fun l => ⟨l.val, by omega⟩  -- slice that serves lane l
  gainHeld : Bool := false
  freed    : Fin 17 := 16       -- slice in RECAL
  newCoef  : Option (BitVec 24 × BitVec 24) := none  -- staged for the next tick
  pairs    : Pairs := {}
  wdac     : Bool := false      -- waveform DAC conversions after RECAL are running (R304)
  newCal   : Option Word := none  -- WAV CAL staged for the next tick
  deriving DecidableEq, Repr

/-- Attachment of a group to a pattern burst (R188, R199, R200). -/
inductive Attach where
  | idle
  | pending (seg : BitVec 16)
  | attached
  deriving DecidableEq, Repr

/-- Pattern state of a group (R188, R193, R199). -/
structure PatGroup where
  att      : Attach := .idle
  stream   : StreamIx := 0
  pass     : Nat := 0
  done     : Bool := true       -- PAT_DONE
  fails    : LaneMask := 0
  underrun : Bool := false
  pins     : List Word := [0, 0, 0, 0]  -- site-map entry read at attach
  detach   : Bool := false      -- detaches at the next vector boundary
  safe     : LaneMask := 0      -- lanes on which the safe path has acted since the attachment (R201)
  deriving DecidableEq, Repr

/-- Waveform source states as `WAV.STATE` codes them (R229). -/
inductive WavState where
  | idle | armed | playing | fault
  deriving DecidableEq, Repr

/-- Waveform source of a group (08). -/
structure WavSrc where
  st      : WavState := .idle
  out     : BitVec 14 := 0      -- code at the DAC
  off     : Bool := true        -- the DAC's output is disabled (14 R341)
  p       : BitVec 48 := 0
  seg     : Fin 8 := 0
  first   : Fin 8 := 0          -- FIRST_SEG of the accepted arm
  stored  : Bool := false       -- MODE of the accepted arm
  reason  : BitVec 4 := 0
  at_     : FrameNo := 0
  armReq  : Option Bool := none -- arm received, not yet checked: received in time (R230 LATE)
  stopAt  : Option Nat := none  -- ticks still to pass before a STOP takes effect (R231)
  stopReq : Option Nat := none  -- root count of the SEQ cycle of a STOP that left the source IDLE (R231)
  k       : Nat := 0            -- output sample
  taken   : Nat := 0            -- samples entered into the window
  fseg    : Fin 8 := 0          -- segment being fetched
  entries : List (Nat × Fin 8) := []  -- entered segments whose first sample has not been output (R228)
  idx     : Nat := 0            -- sample index in the segment
  pass    : Nat := 0            -- passes left
  ended   : Option Nat := none  -- stored samples when END was reached
  window  : List Nat := []      -- last sixteen samples, newest first
  word    : Word := 0           -- the 32-bit word fetched last, whole (R224)
  poison  : Bool := false
  deriving DecidableEq, Repr

/-- Capture states as `ACQ.STATE` codes them (R262). -/
inductive AcqState where
  | idle | armed | pre | post | done | stopped | aborted
  deriving DecidableEq, Repr

/-- Capture of a group (10 R261 to R267). -/
structure Capture where
  st     : AcqState := .idle
  reason : BitVec 4 := 0
  line   : LineIx := 0
  lanes  : LaneMask := 0
  j      : Nat := 0
  pre    : Nat := 0
  post   : Nat := 0
  point  : Nat := 0             -- points begun since the first
  edgeN  : Nat := 0             -- edges of the present point
  sums   : List (Nat × Int × Nat × Bool) := []  -- lane, sum, samples, overrange
  kept   : Nat := 0             -- PRE points kept
  stored : Nat := 0             -- POST points stored
  trigPt : Option Nat := none
  trigRoot : Nat := 0           -- root count of the trigger point's first edge
  ptRoot : Nat := 0             -- root count of the present point's first edge
  ptLast : Nat := 0             -- root count of its latest edge
  misses : Word := 0
  viol   : Word := 0
  forced : Bool := false
  noTrig : Bool := true
  maskStop : Bool := false
  rd     : Vector Nat 16 := Vector.replicate 16 0
  ovr    : List Nat := []       -- words of the capture memory built from an overrange sample
  frameT : FrameNo := 0         -- trigger frame
  f      : FrameNo := 0         -- F of its arm
  ts     : BitVec 47 := 0
  unlock : Bool := false
  xo     : Bool := false
  fired  : Bool := false        -- FIRED_HERE
  skew   : BitVec 24 := 0
  deriving DecidableEq, Repr

/-- What a word reads: the state at the start of its cycle (R123). -/
structure WordView where
  regs   : Regs := {}
  fresh  : LaneMask := 0
  hiL    : LaneMask := 0        -- CMP_LATCH high
  loL    : LaneMask := 0
  timers : Vector Timer 4 := Vector.replicate 4 .stopped
  patDone : Bool := true        -- PAT_DONE (07 R200)
  fails  : LaneMask := 0        -- fail bits (07 R193)
  stamps : LaneMask := 0        -- lanes that hold a stamp (09 R247)
  settled : LaneMask := 0       -- lanes whose relay is OPEN or CLOSED
  chans  : Vector Channel 16 := Vector.replicate 16 {}  -- result latches, images, stages (R132)
  quads  : Vector Quad 4 := Vector.replicate 4 {}  -- what LDTBL and records read of the sequencers
  pat    : PatGroup := {}
  burst  : Bool := false        -- attached to a running burst (11 R279)
  irq    : Bool := false        -- GE_IRQ_PEND is not 0
  hold   : LaneMask := 0
  deriving DecidableEq, Repr

/-- A group engine. -/
structure Engine where
  regs     : Regs := {}
  view     : WordView := {}
  rel      : Regs := {}         -- copy at release (R146)
  shown    : Vector Word 32 := Vector.replicate 32 0  -- X at the end of the last routine (R154)
  timers   : Vector Timer 4 := Vector.replicate 4 .stopped
  pc       : BitVec 12 := 0
  entry    : BitVec 12 := 0
  len      : BitVec 12 := 0
  stack    : List (BitVec 12) := []
  running  : Bool := false
  committed : Bool := false
  vendor   : Bool := false      -- the routine is one of the vendor region (R153)
  cls      : ClassIx := 0       -- class its work is charged to: FG, or the vendor routine's (12 R298)
  slot     : Fin 8 := 0
  rst      : BitVec 2 := 0
  restarts : BitVec 4 := 0
  restoring : Bool := false     -- the restore cycle of an abandonment has not passed (R146)
  pass     : Nat := 0
  w        : BitVec 28 := 0
  cycles   : Nat := 0           -- SEQ cycles that have passed since the release (02 R38)
  after    : Nat := 0           -- SEQ cycles since the COMMIT word began (R148)
  postLoss : Bool := false
  lastPc   : BitVec 12 := 0     -- word executed last (R149, R154)
  spent    : Bool := false      -- the word of the present SEQ cycle has been executed
  abDue    : Bool := false      -- an abandoning event has reached the engine in the present cycle
  lcLoaded : Bool := false      -- the present word loads LC (R126)
  deriving DecidableEq, Repr

/-- The output that a force-path hold keeps (R111): the stage and its code; the driver where it had the node, and the DAC code
its linked levels had. -/
structure HeldOutput where
  stage  : Stage := {}
  code   : BitVec 18 := 0
  driver : Option Driver := none
  wav    : BitVec 14 := 0
  acted  : Bool := false        -- the safe path has acted on the lane since, and its action stands (R112)
  deriving DecidableEq, Repr

/-- One group. -/
structure Group where
  eng     : Engine := {}
  slots   : Vector Slot 8 := Vector.replicate 8 {}
  arms    : List ArmReq := []
  leaving : Vector (Option Slot) 8 := Vector.replicate 8 none  -- programs disarmed after the cut-off, by slot (R37)
  due     : List (Fin 8 × Slot) := []  -- admitted programs not yet released in this frame
  nextAt  : Nat := 64           -- SEQ cycle of the next release (02 R36)
  chans   : Vector Channel 16 := Vector.replicate 16 {}
  slices  : Vector Slice 17 := Vector.replicate 17 {}
  tb      : Tourbillon := {}
  quads   : Vector Quad 4 := Vector.replicate 4 {}
  staging : List Staged := []
  pat     : PatGroup := {}
  wav     : WavSrc := {}
  acq     : Capture := {}
  hold    : LaneMask := 0       -- force-path holds (R111)
  holdReq : Option LaneIx := none
  holdPts : List (BitVec 20) := []
  holdSlots : Nat := 0          -- slots the present point has had (R301)
  holdOut : HeldOutput := {}
  holdRes : Option (LaneIx × List (BitVec 20)) := none  -- completed hold, for FP_COMMIT
  holdFrames : Nat := 0         -- frames the hold has lasted (12 R302)
  holdUsed : Nat := 0           -- slots its sequencer has had in this frame (12 R301)
  holdEnd : Option (BitVec 2) := none  -- ending due at the next tick: RESULT
  lastFp  : LaneIx := 15        -- lane last held (12 R300)
  fpDue   : LaneMask := 0       -- lanes a CAL_NOW marked due
  fpAt    : Vector (Option Nat) 16 := Vector.replicate 16 none  -- root count of the last completed hold
  thrNext : Nat := 0            -- comparator THR_CHECK takes next: 2 × lane + low
  wearNext : LaneIx := 0        -- lane WEAR_FLUSH serves next
  telBuf  : List Word := []     -- counts TEL_GATHER copied
  vendorAt : Nat := 0           -- order of the vendor routine attempted last in this frame (12 R298)
  vendorStop : List ClassIx := []  -- background classes that stopped in this frame (12 R299)
  gstop   : Bool := false
  failed  : Bool := false       -- failed in BOOT (R349)
  edges   : Nat := 0            -- clock edges since BOOT (R87)
  edgeAt  : Nat := 0            -- root count of the last one (R103)
  piAt    : Nat := 0            -- clock edge of the last PI boundary (06 R160)
  clears  : List LatchClear := []  -- clears of CMP_LATCH under way (03 R71)
  sends   : List TileSend := []  -- operations on their way to the tile, oldest first (01 R6)
  irqSeen : Word := 0           -- GE_IRQ_PEND bits whose rise has been taken (R145)
  deriving DecidableEq, Repr

/-- The stores of a group (05 R119, 03 R78, 06 R166, 10 R265). Sparse; defaults in Machine/Ops. -/
structure GroupStores where
  uc     : Table (BitVec 216) := []
  cpm    : Table Word := []     -- words 0x20 to 0x2F: the staged copy
  coef   : Table Word := []     -- active coefficients, key lane × 16 + word
  tbl    : Table Word := []
  mask   : Table Word := []
  cpmBad : List Nat := []       -- words whose parity an injection inverted
  tblBad : List Nat := []
  cpmWas : List (Nat × Word × Bool) := []  -- words written in this SEQ cycle: the old word, whether its parity was wrong
  tblWas : List (Nat × Word × Bool) := []  -- (01 R15, 05 R123)
  deriving DecidableEq, Repr

/-! ## Streams (07) -/

/-- Stream states as `STRM.STATE` codes them (R198). -/
inductive StreamState where
  | idle | running | underrun | halted
  deriving DecidableEq, Repr

/-- Address an APG shows, its ROLE, and the background in use (R207, R208). -/
structure ApgPos where
  addr : BitVec 28 := 0
  role : Bool := false
  bg   : BitVec 16 := 0         -- background word read at segment entry (R207, R208)
  deriving DecidableEq, Repr

/-- An open loop (R195, R196, R212): its OPEN segment, passes left of LOOP, the first stream byte, BODY. -/
structure LoopEntry where
  seg   : BitVec 16
  left  : Nat
  loop  : Nat
  start : Word
  body  : Nat
  deriving DecidableEq, Repr

/-- Accepted refill data not yet written (R187, R211): its position in the stream, and the bytes. -/
structure Ingress where
  at_  : Word
  data : List Byte
  deriving DecidableEq, Repr

/-- One pattern stream with its generator. -/
structure Stream where
  st      : StreamState := .idle
  seg     : BitVec 16 := 0
  desc    : List Word := []     -- descriptor of the running segment
  vec     : Nat := 0            -- vectors of this pass output
  pass    : Nat := 0            -- passes left
  stack   : List LoopEntry := []  -- the innermost first
  need    : Nat := 0            -- bytes that must be resident before the next vector (R212)
  first   : Bool := false       -- next vector is the first of the burst
  jump    : Option (BitVec 16) := none
  stop    : Bool := false       -- ends at the next vector boundary
  requeue : Bool := false       -- that end was a cancellation: followers return to pending (R202)
  owner   : GroupIx := 0
  startSeg : BitVec 16 := 0     -- segment the burst started at
  startPos : BitVec 28 := 0     -- SEQ cycle of the owner's START
  prog    : BitVec 12 := 0      -- entry of the owner program
  oPass   : Nat := 0
  park    : BitVec 3 := 3       -- PARK of the segment whose vector was last output
  cause   : BitVec 3 := 0
  urVec   : BitVec 22 := 0
  rcvd    : Word := 0
  rdPos   : Word := 0
  creditSent : Word := 262144
  held    : Option Word := none -- first stream byte of a repeating STREAM segment (R212)
  resumes : List Nat := []      -- RESUMEs received: ticks still to pass before each takes effect (R215)
  poison  : Bool := false       -- cause POISON at the under-run
  apg     : ApgPos := {}
  ingress : List Ingress := []
  deriving DecidableEq, Repr

/-! ## Trigger lines (10) -/

/-- Trigger line states as `TRG.LINEl_STATE` codes them (R255). -/
inductive LineState where
  | idle | armed | live | triggered
  deriving DecidableEq, Repr

/-- One trigger line. -/
structure Line where
  st      : LineState := .idle
  f       : FrameNo := 0
  auto    : BitVec 16 := 0
  fired   : Bool := false       -- FIRED_HERE
  low     : Bool := false       -- this unit drives the line low
  ts      : BitVec 47 := 0
  unlock  : Bool := false
  xo      : Bool := false
  forced  : Bool := false
  pendNext : Nat := 0           -- fires received in this frame (R256)
  pend    : Nat := 0            -- fires to issue at SEQ cycle 64
  pendForced : Bool := false    -- the auto mode's fire is to issue at SEQ cycle 64 (R259)
  expired : Bool := false       -- the auto timeout tick has passed
  skew    : BitVec 24 := 0      -- SKEW applied
  coarse  : BitVec 40 := 0      -- COARSE of the raw stamp
  deriving DecidableEq, Repr

/-! ## Rings (11) -/

/-- A ring or queue descriptor, with the write position kept beside it (R271, R272, R294). -/
structure Desc where
  base   : BitVec 19 := 0
  size   : BitVec 16 := 0
  wmark  : BitVec 16 := 0
  head   : Nat := 0
  tail   : Nat := 0
  pend   : BitVec 14 := 0
  wr     : Nat := 0
  failed : Bool := false
  bad    : Bool := false        -- a parity bit is wrong
  deriving DecidableEq, Repr

/-- An entry in a queue and not yet sent (R288). -/
structure Unsent where
  sel   : Nat
  slot  : Nat
  slots : Nat
  frame : FrameNo
  ready : Bool                  -- published (R287)
  late  : Bool := false
  tel   : Bool := false         -- charged to TEL (R289)
  deriving DecidableEq, Repr

/-- Descriptor work that waits for the HOST store share (02 R41): a checked write, a read. -/
inductive DescWork where
  | submit (sel : Nat) (base : BitVec 19) (size wmark : BitVec 16)
  | load (sel : Nat)
  deriving DecidableEq, Repr

/-- Rings of the unit. -/
structure Rings where
  desc    : Table Desc := []
  unsent  : List Unsent := []
  loaded  : List Word := [0, 0, 0, 0]   -- words a read of DESC_DATA0 loaded
  fill    : List Word := [0, 0, 0]      -- DESC_DATA0 to 2 as written
  pending : Option (Nat × BitVec 19 × BitVec 16 × BitVec 16) := none  -- write that waits for the tick
  waits   : List DescWork := []  -- work that waits for its share, oldest first
  fmt     : Table Word := []
  deriving DecidableEq, Repr

/-! ## Faults and thermal (18) -/

/-- A fault message, with the injection mark (R432, R443). -/
structure Msg where
  word : Word
  inj  : Bool := false
  acted : Bool := false         -- the block that raised it has taken its fixed action there and then (R441)
  deriving DecidableEq, Repr

/-- Fault collector (R432 to R443). -/
structure Collector where
  queues  : Table (List Msg) := []      -- by SOURCE, oldest first, at most 8
  injected : List Msg := []             -- injected messages, one for each next cycle of the collector (R443)
  loss    : List Nat := []              -- sources with a LOSS mark
  log     : Table (List Word) := []     -- by index, four words
  logSeq  : BitVec 31 := 0
  loaded  : List Word := [0, 0, 0, 0]
  sev     : Table Word := []
  pulse   : Bool := false               -- pulse timer running
  holdLow : Bool := true                -- FAULT_n held low by R324 or R341
  first   : List Word := [0, 0, 0, 0]   -- FIRST_MSG, FIRST_INFO, FIRST_FRAME, FIRST_SEQ
  deriving DecidableEq, Repr

/-- One diode sensor (R444, R445). -/
structure Sensor where
  value    : BitVec 16 := 0     -- effective value
  lastGood : BitVec 16 := 0
  prev     : BitVec 16 := 0     -- the reading before, for the recovery count
  failed   : Bool := false
  good     : Nat := 0           -- consecutive good readings while failed
  seen     : Bool := false      -- a good reading has been taken
  lowIn    : Bool := false      -- below MIN (R452)
  critIn   : Bool := false      -- at or above CRIT
  deriving DecidableEq, Repr

/-- Thermal block (R444 to R452). -/
structure Thermal where
  sensors  : Vector Sensor 5 := Vector.replicate 5 {}
  warnIn   : Bool := false      -- at or above WARN (R447)
  coldIn   : Bool := false
  req      : Bool := false
  enforced : Bool := false
  maxlock  : List (Fin 5) := [] -- failed sensors that hold the step at 7 (R450)
  step     : BitVec 3 := 0
  grace    : Bool := false      -- grace timer running
  enfRoot  : Nat := 0           -- root cycles ENFORCED was set for in its earlier spells (R454)
  enfFrom  : Nat := 0           -- root count since which it is set
  limWas   : List (Nat × Word) := []  -- limits changed since the last reading, as they were (R446)
  deriving DecidableEq, Repr

/-! ## Escapement and fusee (02) -/

/-- Escapement and frame counters (02). -/
structure Esc where
  frame    : FrameNo := 0
  pos      : BitVec 28 := 0
  root     : BitVec 64 := 0     -- root count (R236)
  len      : BitVec 28 := 2000  -- FRAME_LEN in force
  cut      : Bool := false      -- past the admission cut-off of this frame
  startAt  : Option FrameNo := none  -- accepted START
  stopAt   : Option Nat := none -- ticks still to pass before a STOP takes effect
  tickRoot : BitVec 64 := 0     -- root count at the tick (R250)
  stretch  : Int := 0           -- cycles a coarse step adds to this frame (13 R333)
  ticks    : List (Nat × FrameNo) := []  -- root counts and numbers of the ticks before the last, newest first (13 R331, R335)
  deriving DecidableEq, Repr

/-- Fusee (R40 to R44). -/
structure Fus where
  share  : Table (BitVec 11) := []   -- in force, key 8x + c
  spent  : Table Nat := []           -- unit-wide use in this frame, key 8x + c
  starve : List (Fin 8) := []        -- classes that stopped in this frame
  stops  : Table Nat := []           -- classes that stopped, by scope, resource and class: 1 more than what waits (R41)
  deriving DecidableEq, Repr

/-- Reply caches, page headers and the like of chapter 19: one page's header. -/
structure PageHdr where
  evt   : BitVec 16 := 0
  seq   : BitVec 16 := 0
  en    : BitVec 16 := 0xFFFF
  snaps : BitVec 16 := 0
  busy  : Bool := false
  refused : Bool := false       -- the posted write under way is refused by its destination (R478)
  err   : Bool := false
  lost  : Bool := false
  wrap  : Bool := false
  stale : Bool := false
  deriving DecidableEq, Repr

/-! ## Clocks and SYNC (13) -/

/-- Clock root, sources, multiplexers and hairsprings. -/
structure Clk where
  rco      : Bool := false
  xo       : Bool := false
  ref      : Bool := false
  lock     : Bool := false      -- ROOT_LOCK
  holdover : Bool := false
  trimOk   : Bool := false
  hs       : Vector Bool 4 := Vector.replicate 4 false  -- hairspring lock per tile
  domRco   : Bool := true       -- DOM
  target   : Option Bool := none  -- domain switch in progress, to the RCO or to the root
  gated    : Bool := false      -- both clocks lost: nothing executes (R325)
  trip     : Bool := false      -- the root has been lost and the monitor has not tripped yet
  lost     : Bool := false      -- the root has been lost since its last lock
  hsErr    : Vector (BitVec 16) 4 := Vector.replicate 4 0  -- HS_ERR as last shown (20 R512)
  a        : Word := 0          -- ageing value in force (R238)
  y        : Word := 0          -- steering value in force (R318)
  deriving DecidableEq, Repr

/-- SYNC states as `SYNC.STATE` codes them (R338). -/
inductive SyncState where
  | off | acquire | locked | hold | master
  deriving DecidableEq, Repr

/-- SYNC alignment: F and Y as exact fractions (R332). -/
structure Sync where
  st    : SyncState := .off
  fNum  : Int := 0
  fDen  : Nat := 1
  pendE : List Int := []        -- errors of the edges accepted since the last tick, oldest first
  edge  : Bool := false         -- an edge was accepted in this frame
  run   : Nat := 0              -- consecutive edges within 2 bins
  miss  : Nat := 0              -- consecutive missed frames
  limit : Bool := false         -- in the condition of R333's last sentence
  riseAt : Option Nat := none   -- root count of the last rise of SYNC_IN (R330)
  deriving DecidableEq, Repr

/-! ## Modes, BOOT, MRAM (14, 20) -/

/-- Where the entry to CONFIGURE stands (R76, R353). -/
inductive CfgStep where
  | idle | relays | values | powerup
  deriving DecidableEq, Repr

/-- A command waiting in the MC queue (05 R157). -/
structure McCmd where
  code  : Byte
  param : BitVec 24
  deriving DecidableEq, Repr

/-- What a change of mode replaced: the mode, PREV, the entry frame, SAFE_PEND and MODE.EVT.CHANGED (14 R357). -/
structure ModeWas where
  mode    : Mode := .reset
  prev    : Mode := .reset
  entry   : FrameNo := 0
  pend    : BitVec 6 := 0
  changed : Bool := false
  deriving DecidableEq, Repr

/-- Modes and commands (14). -/
structure Modes where
  mode    : Mode := .boot
  prev    : Mode := .reset
  cause   : BitVec 4 := 0       -- SAFE_CAUSE
  pend    : BitVec 6 := 0       -- SAFE_PEND
  causeAt : Option Nat := none  -- root count of the SEQ cycle in which SAFE_CAUSE was recorded, where the root ran (R354)
  causeOpen : Bool := false     -- recorded with the root lost, and the collector's cycle has not passed
  compat  : Bool := false
  fuse    : Bool := false
  entry   : FrameNo := 0
  entryAt : Option Nat := none  -- root count of the SEQ cycle of that entry, where the root runs (R357)
  was     : ModeWas := {}       -- what that entry replaced (R357)
  nonce   : BitVec 64 := 0
  token   : Table Word := []
  perm    : BitVec 4 := 0
  recover : Bool := false       -- RECOVER passed; CONFIGURE at the next tick
  factory : Bool := false       -- FACTORY passed
  assigned : Bool := false      -- address taken; CONFIGURE at the next tick
  cfg     : CfgStep := .idle
  flush   : Bool := false       -- wear flush of R307 not complete
  test    : Option (BitVec 4 × GroupIx) := none  -- item and group of the FACTORY test that runs (20 R514)
  deriving DecidableEq, Repr

/-- BOOT (14 R340 to R350). -/
structure Boot where
  stage    : BitVec 3 := 1
  done     : Bool := false
  failed   : Bool := false
  cause    : BitVec 4 := 0
  src      : BitVec 2 := 0
  fallback : Bool := false
  image    : List Byte := []
  tileFail : BitVec 4 := 0
  linkFail : BitVec 4 := 0
  hsFail   : BitVec 4 := 0
  supplies : Vector Bool 6 := Vector.replicate 6 true  -- in range
  monitor  : Bool := true       -- supply monitor released
  rstRel   : Bool := true       -- RST_n released
  refWait  : Bool := false      -- the 2 ms window has ended
  mramDone : Bool := false
  deriving DecidableEq, Repr

/-- MRAM: two copies of each region, the CRC-32 stored with each, and the commit in progress (14 R343, 20 R496). -/
structure Nvm where
  a      : Table Word := []
  b      : Table Word := []
  crcA   : Table Word := []     -- CRC of each region of copy A, by region
  crcB   : Table Word := []
  dirty  : Byte := 0
  commit : Option (Fin 8) := none
  deriving DecidableEq, Repr

/-- The management controller (05 R155 to R157). -/
structure Mc where
  store   : Table (BitVec 36) := []     -- words with their byte parity
  m       : Vector Word 32 := Vector.replicate 32 0
  pc      : BitVec 16 := 0
  stack   : List (BitVec 16) := []
  stopped : Bool := false
  queue   : List McCmd := []
  cmd     : Option McCmd := none  -- the command it has taken last (11 R286)
  since   : Option (FrameNo × Nat) := none  -- frame and root count at which the present wait began
  deriving DecidableEq, Repr

/-! ## Management port and Kwenlink (15, 16) -/

/-- A reply the management port holds: its words after the STATUS bits of earlier rejections, and the register addresses
still to be read for it (R371 to R373; 19 R478). -/
structure MspReply where
  opAlive : Byte
  status  : BitVec 16           -- bits 6 and 7
  payload : List Word
  todo    : List Nat := []
  desc    : Bool := false       -- a descriptor write of its frame waited for the HOST share (R375)
  deriving DecidableEq, Repr

/-- Management port (15). -/
structure Msp where
  ucSync  : Bool := false
  bcSync  : Bool := false
  uc      : BitVec 4 := 0
  bc      : BitVec 4 := 0
  rejects : BitVec 16 := 0      -- STATUS bits 0 to 5 and 8 since the last delivered reply
  reply   : Option MspReply := none
  drive   : Bool := false       -- the last frame was a unicast frame this unit accepted
  out     : List Word := []     -- what MISO carried in the last frame
  quiet   : Bool := true        -- SEL_n has been high for 2 µs since the last arbitration seen
  mbox    : Option (Nat × List Byte) := none
  raw     : BitVec 16 := 0      -- raw frames remaining
  mmWait  : Bool := false       -- lost an arbitration
  mastering : Bool := false
  burst   : List (Nat × Word) := []  -- words of a burst write that wait for BUSY, by register address (R378)
  deriving DecidableEq, Repr

/-- Receiver states as `KL.STATE.RX` codes them (R388). -/
inductive KlRx where
  | down | locked | aligned | up
  deriving DecidableEq, Repr

/-- A RSLT packet kept for replay (R399). -/
structure Held where
  seq   : BitVec 16
  words : List Word
  tel   : Nat                   -- bytes of telemetry records, charged to TEL (R401)
  deriving DecidableEq, Repr

/-- A REGR request under way (R403; 19 R478): its sequence, WRAP, the words read, the register addresses still to be
read. -/
structure KlRead where
  seq  : BitVec 16
  wrap : Bool
  got  : List Word
  todo : List Nat
  deriving DecidableEq, Repr

/-- A packet context of the receiver: no packet, the data blocks of one, a packet that is void and whether it is not forwarded
(R388, R394, R395). -/
inductive KlCtx where
  | idle
  | filling (blocks : List (BitVec 64))
  | voided (removed : Bool)
  deriving DecidableEq, Repr

/-- Kwenlink (16). -/
structure Kl where
  rx      : KlRx := .down
  ctx     : KlCtx := .idle      -- context in progress
  susp    : List KlCtx := []    -- contexts it suspended, the latest first (R395)
  addr    : Byte := 0xFE
  dn      : Byte := 0
  dnValid : Bool := false
  limit   : Word := 0
  sent    : Word := 0
  replay  : List Held := []
  nextSeq : BitVec 16 := 0
  strmSeq : BitVec 16 := 0
  gap     : Bool := false       -- a NAK has been sent for the present gap
  cache   : List (BitVec 16 × KlPacket) := []
  tx      : List KlPacket := [] -- packets sent since the last tick
  blocks  : List KlBlock := []  -- blocks forwarded since the last tick, of packets that came as blocks (16 R395)
  wait    : List (ClassIx × KlPacket) := []  -- own packets whose class is spent (R41)
  forward : Bool := false       -- forwarding started (BOOT stage CLOCK)
  enumIn  : Bool := false
  enumOut : Bool := false
  enumDue : Bool := false       -- ENUM_OUT rises 1 µs after the assignment
  drainRsv : Word := 0          -- C_KL in force
  burst   : List (Nat × Word) := []  -- words of a REGW that wait for BUSY (R378, R403)
  due     : Option KlPacket := none  -- reply of that REGW
  desc    : Bool := false       -- a descriptor write of that REGW waited for the HOST share (15 R375)
  reads   : Option KlRead := none    -- a REGR that waits (19 R478)
  reqs    : List (Bool × RegRequest) := []  -- requests behind one that waits: whether a write (19 R467)
  deriving DecidableEq, Repr

/-! ## Pair (17) -/

/-- Pair operation (17). -/
structure Pair where
  id       : Bool := false
  en       : Bool := false
  linkUp   : Bool := false
  ownIn    : Bool := false
  ownOut   : Bool := false
  ownLow   : Nat := 0           -- ticks seen with OWN_IN low
  ownHigh  : Nat := 0           -- ticks seen with OWN_IN high
  released : Bool := false
  relPend  : Bool := false
  hbStop   : Bool := false      -- heartbeat stopped by a RELEASE
  miss     : Nat := 0
  hbNow    : Bool := false      -- a heartbeat of this frame has arrived
  hbSeen   : Bool := false      -- one has arrived since EN was set
  partner  : Option Heartbeat := none
  id0      : Option Nat := none -- ticks since a heartbeat last showed PAIR_ID 0
  id1      : Option Nat := none -- ticks since a heartbeat last showed PAIR_ID 1
  badFrame : Bool := false      -- a frame number differed
  reason   : BitVec 3 := 0
  stuck    : Bool := false
  snap     : Option Snapshot := none
  okRun    : Nat := 0           -- consecutive snapshots taken
  gotSnap  : Bool := false      -- the snapshot of the present latch has arrived
  latch    : Option (FrameNo × List (List IntegImage × List (List Word))) := none  -- own values, by group
  rebase   : Bool := false      -- a slice waits for the next tick
  takeAt   : Option FrameNo := none  -- frame of a takeover not yet complete
  sentSeq  : Word := 0          -- sequence of the next snapshot this unit sends
  hbOut    : Option Heartbeat := none  -- heartbeat sent in this frame
  snapWait : List (Snapshot × Nat) := []  -- snapshots latched and not read out, the port cycles still to pay (R420)
  snapOut  : Option Snapshot := none   -- snapshot read out last
  deriving DecidableEq, Repr

/-! ## Telemetry, test access port, register map (12, 21, 19) -/

/-- Telemetry (12 R308, R309). -/
structure Tel where
  ctrl   : Word := 0x3E         -- in force
  period : BitVec 24 := 1000
  pend   : List (Nat × Nat) := []  -- kind, group
  cycle  : Word := 0
  pos    : BitVec 28 := 0
  prev   : Table Word := []     -- counts at the previous record, key 65536 × kind + 64 × group + item
  last   : Option Nat := none   -- root count of the last cycle's tick
  deriving DecidableEq, Repr

/-- Test access port (21 R535). The rule counts 18 cells. -/
structure Tap where
  ir      : BitVec 4 := 0xF
  cells   : BitVec 18 := 0
  drive   : Bool := false       -- EXTEST drives the cells
  bypass  : Bool := true
  out     : BitVec 18 := 0      -- what the boundary register captured last, shifted out on TDO
  deriving DecidableEq, Repr

/-- The register file (19): live values, holding registers, page headers; the value the last read returned. -/
structure RegFile where
  live : Table Word := []
  held : Table Word := []
  hdr  : Table PageHdr := []
  read : Word := 0
  deriving DecidableEq, Repr

/-- The main SRAM (01 R8): bytes, and the difference of each word's check bits from the right ones (11 R290). -/
structure Sram where
  cells : List Host.Cell := []
  check : Table (BitVec 12) := []
  back  : List (Nat × Word) := []  -- corrected words read in this SEQ cycle and not yet written back (11 R292)
  deriving DecidableEq, Repr

/-- The whole unit. `draws` is the model's own field: it counts the free values taken (log entry 4). -/
structure State where
  pending : List Instr := []
  esc     : Esc := {}
  fus     : Fus := {}
  groups  : Vector Group 64 := Vector.replicate 64 {}
  stores  : Vector GroupStores 64 := Vector.replicate 64 {}
  streams : Vector Stream 16 := Vector.replicate 16 {}
  lines   : Vector Line 4 := Vector.replicate 4 {}
  rings   : Rings := {}
  flt     : Collector := {}
  thm     : Thermal := {}
  clk     : Clk := {}
  sync    : Sync := {}
  modes   : Modes := {}
  boot    : Boot := {}
  nvm     : Nvm := {}
  mc      : Mc := {}
  msp     : Msp := {}
  kl      : Kl := {}
  pair    : Pair := {}
  tel     : Tel := {}
  tap     : Tap := {}
  rf      : RegFile := {}
  sram    : Sram := {}
  draws   : Nat := 0
  deriving DecidableEq, Repr

/-- SHA-256 of the public key whose private key is 1, the generator of P-256, most significant word first. -/
def factoryKeyHash : List Word :=
  [0xD875DB7D, 0xEF232236, 0xAEC738C6, 0xB0BB3E80, 0x142F5D0F, 0xD8F4DF24, 0xFED6EEF5, 0xCBB50D9F]

/-- MRAM of the model's unit (20 R483, R497). DESIGN CHOICE (log entry 103): serial number 1, an NV1024-C of HW_REV 0x0111,
the fuse set, both key hashes those of one key, one qualified version; every other word 0. -/
def factoryMram : Table Word :=
  [(0x00, 1), (0x02, 0x10244300), (0x03, 0x0111), (0x04, 1)] ++
    factoryKeyHash.zipIdx.map (fun p => (0x40 + p.2, p.1)) ++ factoryKeyHash.zipIdx.map (fun p => (0x48 + p.2, p.1)) ++
    [(0x80, 0x00010111), (0x81, 0x00FF0001)]

/-- CRC-32 of regions IDENT, KEYS and QUAL of that MRAM; the others hold the CRC of their zeros (14 R343). -/
def factoryCrc : Table Word := [(0, 0x5328BAB8), (1, 0x126C86FA), (2, 0x647E8646)]

/-- The machine right after reset: `MODE.STATE` reads 1, BOOT, stage 1 (14 R359, R360; log entry 5); the nonce is the
first value drawn (14 R358). -/
def State.reset : State :=
  { nvm := { a := factoryMram, b := factoryMram, crcA := factoryCrc, crcB := factoryCrc },
    modes := { nonce := Config.nonce 0 }, draws := 1 }

/-- Why the block would stop. No rule of the spec stops it: every command has an effect or is ignored,
so the type has no constructor. -/
inductive Fault where
  deriving DecidableEq, Repr

/-- Why a command has no meaning in the model. -/
inductive Refusal where
  /-- Raised by an arm of `exec` whose meaning is not written yet. Safe. -/
  | notModelled (mnemonic : String)
  deriving DecidableEq, Repr

end Sys2Proof.Machine
end

