-- ==== Sys2Proof/Machine/Ops.lean ====
section
/-! DEFINITION. Named operations over the state's stores: sparse tables, bit fields, the register file and
its page headers, the main SRAM with its code, group access, free values, fault messages, time. -/

namespace Sys2Proof.Machine

open Sys2Proof

/-! ## Bit fields and integers -/

/-- Bits [lo+len-1:lo] of a word, as a number. -/
def fld {n : Nat} (w : BitVec n) (lo len : Nat) : Nat := (w.toNat >>> lo) % 2 ^ len

/-- Bit `i` of a word. -/
def bit {n : Nat} (w : BitVec n) (i : Nat) : Bool := w.getLsbD i

/-- A Bool as a number. -/
def b2n (b : Bool) : Nat := if b then 1 else 0

/-- Number `v` in bits [lo+len-1:lo] of word `w`, the other bits kept. -/
def putFld (w : Word) (lo len v : Nat) : Word :=
  BitVec.ofNat 32 (w.toNat - (fld w lo len) <<< lo + (v % 2 ^ len) <<< lo)

/-- Nearest integer to num/den, ties upward (04 R83, R96). -/
def roundUp (num : Int) (den : Nat) : Int := (2 * num + den) / (2 * den)

/-- num/den where it is whole; else the integer below or above, as `Config.roundsUp` has it (log entry 4). -/
def freeRound (place : Nat) (num : Int) (den : Nat) : Int :=
  if num % den = 0 then num / den
  else if Config.roundsUp place num den then num / den + 1 else num / den

/-- Nearest integer to num/den; of two equally near ones, the one `Config.roundsUp` takes (log entry 4). -/
def roundTie (place : Nat) (num : Int) (den : Nat) : Int :=
  if (2 * num) % (2 * den) = den then
    (if Config.roundsUp place num den then num / den + 1 else num / den)
  else roundUp num den

/-- Integer square root, by bits. -/
def isqrt (n : Nat) : Nat :=
  (List.range 128).foldl (fun r i =>
    let b := r + 2 ^ (127 - i)
    if b * b ≤ n then b else r) 0

/-- `x` kept between two bounds. -/
def clampInt (lo hi x : Int) : Int := if x < lo then lo else if hi < x then hi else x

/-- The signed value of the low `n` bits of a number. -/
def signed (n v : Nat) : Int := if v % 2 ^ n < 2 ^ (n - 1) then (v % 2 ^ n : Nat) else (v % 2 ^ n : Nat) - (2 ^ n : Nat)

/-- One more, wrapping. -/
def inc {n : Nat} (w : BitVec n) : BitVec n := w + 1

/-- A lane's bit of a mask. -/
def lane (m : LaneMask) (l : LaneIx) : Bool := m.getLsbD l.val

/-- A mask with one lane set or cleared. -/
def setLane (m : LaneMask) (l : LaneIx) (b : Bool) : LaneMask :=
  if b then m ||| (1#16 <<< l.val) else m &&& ~~~(1#16 <<< l.val)

/-- All indices below n, ascending. -/
def below : (n : Nat) → List (Fin n)
  | 0 => []
  | n + 1 => (below n).map Fin.castSucc ++ [Fin.last n]

/-- The lanes of a mask, ascending. -/
def lanesOf (m : LaneMask) : List LaneIx := (below 16).filter (lane m)

/-- Number of lanes in a mask. -/
def countLanes (m : LaneMask) : Nat := (lanesOf m).length

/-- A mask from a predicate on lanes. -/
def maskOf (p : LaneIx → Bool) : LaneMask :=
  (below 16).foldl (fun m l => if p l then m ||| (1#16 <<< l.val) else m) 0

/-- Every element of a vector changed by the same function. -/
def vmap {α β : Type} {n : Nat} (f : α → β) (v : Vector α n) : Vector β n :=
  ⟨⟨v.toList.map f⟩, by simp⟩

/-- One element of a vector changed. -/
def vmod {α : Type} {n : Nat} (v : Vector α n) (i : Fin n) (f : α → α) : Vector α n :=
  v.set i.val (f v[i]) i.isLt

/-! ## Sparse tables -/

/-- Value at key `k`; `d` where the key is not listed. -/
def tget {α : Type} (d : α) : Table α → Nat → α
  | [], _ => d
  | (a, v) :: r, k => if a = k then v else tget d r k

/-- Table without key `k`. -/
def tdel {α : Type} : Table α → Nat → Table α
  | [], _ => []
  | (a, w) :: r, k => if a = k then tdel r k else (a, w) :: tdel r k

/-- Table with an entry put in its place by key. -/
def tput {α : Type} : Table α → Nat → α → Table α
  | [], k, v => [(k, v)]
  | (a, w) :: r, k, v => if k < a then (k, v) :: (a, w) :: r else (a, w) :: tput r k v

/-- Table with `v` at key `k`, in canonical form for default `d`. -/
def tset {α : Type} [DecidableEq α] (d : α) (t : Table α) (k : Nat) (v : α) : Table α :=
  if v = d then tdel t k else tput (tdel t k) k v

/-- Keys strictly rising, all above `lo`, and no entry equal to its default. -/
def twfFrom {α : Type} [DecidableEq α] (d : Nat → α) : Nat → Table α → Bool
  | _, [] => true
  | lo, (k, v) :: r => decide (lo ≤ k) && decide (v ≠ d k) && twfFrom d (k + 1) r

/-- Canonical form of a table. -/
def twf {α : Type} [DecidableEq α] (d : Nat → α) (t : Table α) : Bool := twfFrom d 0 t

/-! ## Register addresses (19 R455, 20 R479) -/

/-- Address of offset `o` in page `p` (R455). -/
def adr (p o : Nat) : Nat := p * 64 + o

/-- Page numbers (R479). -/
def pUNIT : Nat := 0x000
def pMODE : Nat := 0x001
def pCLK : Nat := 0x002
def pSYNC : Nat := 0x003
def pESC : Nat := 0x004
def pFUS : Nat := 0x005
def pFLT : Nat := 0x006
def pTHM : Nat := 0x007
def pMSP : Nat := 0x008
def pKL : Nat := 0x009
def pPAIR : Nat := 0x00A
def pRING : Nat := 0x00B
def pMEM : Nat := 0x00C
def pNVM : Nat := 0x00D
def pCAL : Nat := 0x00E
def pWEAR : Nat := 0x00F
def pTEL : Nat := 0x010
def pTRG : Nat := 0x011
def pBOOT : Nat := 0x012
def pAPG (s : StreamIx) : Nat := 0x020 + s.val
def pSTRM (s : StreamIx) : Nat := 0x030 + s.val
def pWAV (g : GroupIx) : Nat := 0x040 + g.val
def pTDC (g : GroupIx) : Nat := 0x080 + g.val
def pACQ (g : GroupIx) : Nat := 0x0C0 + g.val
def pGRP (g : GroupIx) : Nat := 0x100 + g.val
def pTILE (t : TileIx) : Nat := 0x180 + t.val
def pFACT : Nat := 0x1FF

/-- Page families: first page, last page, TYPE, COUNT (R479). -/
def pageFamilies : List (Nat × Nat × Nat × Nat) :=
  [(0x000, 0x000, 0x01, 64), (0x001, 0x001, 0x02, 16), (0x002, 0x002, 0x03, 17), (0x003, 0x003, 0x04, 20),
   (0x004, 0x004, 0x05, 15), (0x005, 0x005, 0x06, 56), (0x006, 0x006, 0x07, 35), (0x007, 0x007, 0x08, 28),
   (0x008, 0x008, 0x09, 20), (0x009, 0x009, 0x0A, 21), (0x00A, 0x00A, 0x0B, 22), (0x00B, 0x00B, 0x0C, 25),
   (0x00C, 0x00C, 0x0D, 15), (0x00D, 0x00D, 0x0E, 14), (0x00E, 0x00E, 0x0F, 23), (0x00F, 0x00F, 0x10, 16)] ++
  [(0x010, 0x010, 0x11, 14), (0x011, 0x011, 0x12, 49), (0x012, 0x012, 0x13, 17), (0x020, 0x02F, 0x20, 36),
   (0x030, 0x03F, 0x30, 39), (0x040, 0x07F, 0x40, 56), (0x080, 0x0BF, 0x50, 16), (0x0C0, 0x0FF, 0x60, 19),
   (0x100, 0x13F, 0x70, 63), (0x180, 0x183, 0x80, 13), (0x1FF, 0x1FF, 0xF0, 12)]

/-- The family of a page number below 0x200, if the directory lists it. -/
def pageFamily (p : Nat) : Option (Nat × Nat × Nat × Nat) :=
  pageFamilies.find? (fun f => decide (f.1 ≤ p) && decide (p ≤ f.2.1))

/-- Whether the directory lists a page (R479). -/
def pageListed (p : Nat) : Bool := (pageFamily p).isSome

/-- Decoded span of a page; 0 where it is not listed (R457). -/
def pageCount (p : Nat) : Nat := match pageFamily p with | some f => f.2.2.2 | none => 0

/-- Page and offset that a 16-bit register address reaches, `none` where nothing is decoded (R456, R457). -/
def decodeAdr (a : Nat) : Option (Nat × Nat) :=
  let p := (a / 64) % 512
  let o := a % 64
  let c := pageCount p
  if c = 0 then none
  else
    let o := if c ≤ 32 then o % 32 else o
    if o < c then some (p, o) else none

/-- Fusee shares at reset, key 8x + c (02 R40). -/
def shareReset : List Nat :=
  [896, 0, 0, 64, 16, 16, 16, 16, 960, 0, 0, 48, 0, 16, 0, 0,
   512, 160, 128, 16, 8, 16, 64, 8, 0, 16, 896, 0, 0, 64, 0, 32]

/-- Code table of a stream at reset (07 R191, 20 R506). -/
def codeReset : List Nat := [0x01, 0x02, 0x03, 0x00, 0x13, 0x23, 0x33, 0x04, 0x05, 0x43, 0x53]

/-- Reset value of the register at a primary address, block-specific offsets only; 0 where the spec's
column says 0, and for MRAM values before BOOT has read MRAM (log entry 2). -/
def regReset (a : Nat) : Word :=
  let p := a / 64
  let o := a % 64
  if p = pUNIT then (if o = 0x08 then 0x10240000 else 0)
  else if p = pCLK then (if o = 0x08 then 0x00000002 else 0)
  else if p = pSYNC then
    (if o = 0x0A then 0x100 else if o = 0x0F then 8 else if o = 0x10 then 0x1F4 else 0)
  else if p = pESC then (if o = 0x08 then 2000 else 0)
  else if p = pFUS then
    (if 0x08 ≤ o ∧ o < 0x28 then BitVec.ofNat 32 (shareReset.getD (o - 8) 0) else 0)
  else if p = pFLT then
    (if 0x17 ≤ o ∧ o ≤ 0x1E then (if o = 0x19 then 0x41444444 else 0x44444444)
     else if o = 0x1F then 10 else 0)
  else if p = pTHM then
    (if o = 0x10 then 0x2710 else if o = 0x11 then 0x2904 else if o = 0x12 then 0x2CEC
     else if o = 0x15 then 0xC8 else if o = 0x16 then 0x64 else if o = 0x17 then 0xA else 0)
  else if p = pMSP then (if o = 0x0A then 0x2000 else 0)
  else if p = pPAIR then (if o = 0x09 then 1 else 0)
  else if p = pCAL then
    (if o = 0x08 then 0x1001 else if o = 0x09 then 0x100 else if o = 0x0A then 0x1A37
     else if o = 0x0B then 0x150 else if o = 0x10 then 1 else if o = 0x11 then 0x36EE80
     else if o = 0x12 then 0x4000 else 0)
  else if p = pTEL then
    (if o = 0x08 then 0x3E else if o = 0x09 then 0x3E8 else if o = 0x0A ∨ o = 0x0B then 0xFFFFFFFF else 0)
  else if 0x020 ≤ p ∧ p < 0x030 then (if 0x20 ≤ o ∧ o ≤ 0x23 then 0xFFFFFFFF else 0)
  else if 0x030 ≤ p ∧ p < 0x040 then
    (if 0x10 ≤ o ∧ o ≤ 0x1F then BitVec.ofNat 32 (codeReset.getD (o - 0x10) 0) else 0)
  else if 0x040 ≤ p ∧ p < 0x080 then (if o = 0x10 then 0x00080001 else 0)
  else if 0x0C0 ≤ p ∧ p < 0x100 then (if o = 0x0A then 1 else 0)
  else 0

/-! ## Register file -/

/-- Live value of the register at a primary address. -/
def State.reg (s : State) (a : Nat) : Word := tget (regReset a) s.rf.live a

/-- Live value set. -/
def State.setReg (s : State) (a : Nat) (v : Word) : State :=
  { s with rf := { s.rf with live := tset (regReset a) s.rf.live a v } }

/-- A field of a live register. -/
def State.regF (s : State) (a lo len : Nat) : Nat := fld (s.reg a) lo len

/-- A bit of a live register. -/
def State.regB (s : State) (a i : Nat) : Bool := bit (s.reg a) i

/-- A 48-bit value held in a LO and a HI register (19 R468). -/
def State.reg48 (s : State) (a : Nat) : FrameNo :=
  BitVec.ofNat 48 ((s.reg a).toNat + (fld (s.reg (a + 1)) 0 16) <<< 32)

/-- A 32-bit counter steps (19 R469). -/
def State.bump (s : State) (a : Nat) : State := s.setReg a (s.reg a + 1)

/-- A 32-bit counter steps by n. -/
def State.bumpBy (s : State) (a n : Nat) : State := s.setReg a (s.reg a + BitVec.ofNat 32 n)

/-- A 64-bit counter in two registers steps by n. -/
def State.bump64 (s : State) (a n : Nat) : State :=
  let v := (s.reg a).toNat + ((s.reg (a + 1)).toNat <<< 32) + n
  (s.setReg a (BitVec.ofNat 32 v)).setReg (a + 1) (BitVec.ofNat 32 (v >>> 32))

/-- Holding register at a primary address (19 R469). -/
def State.heldReg (s : State) (a : Nat) : Word := tget 0 s.rf.held a

/-- Holding register loaded. -/
def State.setHeld (s : State) (a : Nat) (v : Word) : State :=
  { s with rf := { s.rf with held := tset 0 s.rf.held a v } }

/-- The value a read returned. -/
def State.answer (s : State) (v : Word) : State := { s with rf := { s.rf with read := v } }

/-! ## Page headers (19 R459 to R464) -/

/-- Header of a page. -/
def State.hdr (s : State) (p : Nat) : PageHdr := tget {} s.rf.hdr p

/-- Header of a page changed. -/
def State.modHdr (s : State) (p : Nat) (f : PageHdr → PageHdr) : State :=
  { s with rf := { s.rf with hdr := tset {} s.rf.hdr p (f (s.hdr p)) } }

/-- The hardware sets event bit `i` of a page: the bit sets and SEQ steps (R462). -/
def State.event (s : State) (p i : Nat) : State :=
  s.modHdr p fun h => { h with evt := h.evt ||| (1#16 <<< i), seq := h.seq + 1 }

/-- A refused write sets ERR (R461). -/
def State.refuse (s : State) (p : Nat) : State := s.modHdr p fun h => { h with err := true }

/-- A dropped write sets LOST (R477). -/
def State.loseWrite (s : State) (p : Nat) : State := s.modHdr p fun h => { h with lost := true }

/-- A posted write is in progress (R475). -/
def State.post (s : State) (p : Nat) : State := s.modHdr p fun h => { h with busy := true }

/-- A posted write that its destination refuses: BUSY is set as for any other, and ERR sets as it clears (R474, R475, R478). -/
def State.refusePosted (s : State) (p : Nat) : State := s.modHdr p fun h => { h with busy := true, refused := true }

/-- A posted write is complete: BUSY clears, and where it was refused ERR sets (R475, R478). -/
def State.unpost (s : State) (p : Nat) : State :=
  s.modHdr p fun h => { h with busy := false, refused := false, err := h.err || h.refused }

/-- Whether a page's BUSY is set. -/
def State.busy (s : State) (p : Nat) : Bool := (s.hdr p).busy

/-- An indirect address wrapped (R472). -/
def State.setWrap (s : State) (p : Nat) : State := s.modHdr p fun h => { h with wrap := true }

/-- An indirect address register steps within a space of `size` addresses (R472, R473). -/
def State.stepAdr (s : State) (p o size : Nat) : State :=
  let v := (s.reg (adr p o)).toNat
  if v + 1 < size then s.setReg (adr p o) (BitVec.ofNat 32 (v + 1))
  else (s.setReg (adr p o) 0).setWrap p

/-! ## Groups, stores, streams, lines -/

/-- A group. -/
def State.grp (s : State) (g : GroupIx) : Group := s.groups[g]

/-- A group changed. -/
def State.modG (s : State) (g : GroupIx) (f : Group → Group) : State :=
  { s with groups := vmod s.groups g f }

/-- Every group changed by the same function. -/
def State.allG (s : State) (f : Group → Group) : State := { s with groups := vmap f s.groups }

/-- A fold over all groups, ascending. -/
def State.eachG (s : State) (f : State → GroupIx → State) : State := (below 64).foldl f s

/-- The stores of a group changed. -/
def State.modS (s : State) (g : GroupIx) (f : GroupStores → GroupStores) : State :=
  { s with stores := vmod s.stores g f }

/-- A stream changed. -/
def State.modSt (s : State) (i : StreamIx) (f : Stream → Stream) : State :=
  { s with streams := vmod s.streams i f }

/-- A trigger line changed. -/
def State.modL (s : State) (l : LineIx) (f : Line → Line) : State :=
  { s with lines := vmod s.lines l f }

/-- The program of a slot in the frame that runs: one disarmed after the last cut-off, or the slot's (02 R37). -/
def Group.slotNow (g : Group) (i : Fin 8) : Slot :=
  match g.leaving[i] with
  | some p => if p.cur then p else g.slots[i]
  | none => g.slots[i]

/-- Whether a slot's program is admitted for the frame that runs. -/
def Group.slotRuns (g : Group) (i : Fin 8) : Bool := (g.slotNow i).st != .empty && (g.slotNow i).cur

/-- Whether the program at an entry is admitted for the frame that runs (02 R35, 04 R88). -/
def Group.admitted (g : Group) (prog : BitVec 12) : Bool :=
  (below 8).any fun i => g.slotRuns i && (g.slotNow i).entry == prog

/-- The programs admitted for the frame that runs, in the order of release (02 R36). -/
def Group.dueList (g : Group) : List (Fin 8 × Slot) :=
  ((below 8).filter g.slotRuns).map fun i => (i, g.slotNow i)

/-- A channel of a group. -/
def Group.ch (g : Group) (l : LaneIx) : Channel := g.chans[l]

/-- A channel of a group changed. -/
def Group.modC (g : Group) (l : LaneIx) (f : Channel → Channel) : Group :=
  { g with chans := vmod g.chans l f }

/-- The lanes of a mask changed, each by the function of its number. -/
def Group.modLanes (g : Group) (m : LaneMask) (f : LaneIx → Channel → Channel) : Group :=
  (lanesOf m).foldl (fun g l => g.modC l (f l)) g

/-- A channel of the unit changed. -/
def State.modC (s : State) (g : GroupIx) (l : LaneIx) (f : Channel → Channel) : State :=
  s.modG g fun gr => gr.modC l f

/-- The front end of a channel changed. -/
def State.modFe (s : State) (g : GroupIx) (l : LaneIx) (f : FrontEnd → FrontEnd) : State :=
  s.modC g l fun c => { c with fe := f c.fe }

/-- The measurement state of a channel changed. -/
def State.modMs (s : State) (g : GroupIx) (l : LaneIx) (f : Measure → Measure) : State :=
  s.modC g l fun c => { c with ms := f c.ms }

/-- The stamper of a channel changed. -/
def State.modTd (s : State) (g : GroupIx) (l : LaneIx) (f : Stamper → Stamper) : State :=
  s.modC g l fun c => { c with td := f c.td }

/-- A channel. -/
def State.chan (s : State) (g : GroupIx) (l : LaneIx) : Channel := (s.grp g).ch l

/-- An engine changed. -/
def State.modE (s : State) (g : GroupIx) (f : Engine → Engine) : State :=
  s.modG g fun gr => { gr with eng := f gr.eng }

/-- Unit-wide channel number (01 R9). -/
def chanNo (g : GroupIx) (l : LaneIx) : Nat := 16 * g.val + l.val

/-- Group of a channel number (01 R9). -/
def groupOf (c : Nat) : GroupIx := ⟨c / 16 % 64, Nat.mod_lt _ (by decide)⟩

/-- Lane of a channel number (01 R9). -/
def laneOf (c : Nat) : LaneIx := ⟨c % 16, Nat.mod_lt _ (by decide)⟩

/-- Tile of a group (01 R9). -/
def tileOf (g : GroupIx) : TileIx := ⟨g.val / 16, by omega⟩

/-- Lane i of quad j (01 R11). -/
def quadLane (j : QuadIx) (i : Fin 4) : LaneIx := ⟨4 * j.val + i.val, by omega⟩

/-- Quad of a lane. -/
def quadOf (l : LaneIx) : QuadIx := ⟨l.val / 4, by omega⟩

/-- Cell quad number q = 4g + j. -/
def quadNo (g : GroupIx) (j : QuadIx) : Nat := 4 * g.val + j.val

/-- A quad changed. -/
def State.modQ (s : State) (g : GroupIx) (j : QuadIx) (f : Quad → Quad) : State :=
  s.modG g fun gr => { gr with quads := vmod gr.quads j f }

/-- A quad. -/
def State.quad (s : State) (g : GroupIx) (j : QuadIx) : Quad := (s.grp g).quads[j]

/-! ## Group stores -/

/-- Byte parity of a microword (05 R120): bit b is the odd parity of byte b. -/
def ucParity (w : BitVec 192) : BitVec 24 :=
  (List.range 24).foldl (fun acc b =>
    let ones := (List.range 8).foldl (fun n i => n + b2n (w.getLsbD (8 * b + i))) 0
    if ones % 2 = 0 then acc ||| (1#24 <<< b) else acc) 0

/-- Byte parity of an MC word (05 R155): bit b is the odd parity of byte b. DESIGN CHOICE (log entry 32): odd, as in the GE
store. -/
def mcParity (v : Word) : BitVec 4 := (ucParity (v.setWidth 192)).setWidth 4

/-- An MC word with its parity bits. -/
def mcWord (v : Word) : BitVec 36 := mcParity v ++ v

/-- A microword with its parity bits (05 R120). -/
def ucWord (w : BitVec 192) : BitVec 216 := ucParity w ++ w

/-- What BOOT writes to every customer word: SEQ END, the rest 0 (05 R119). -/
def ucEnd : BitVec 192 := BitVec.ofNat 192 (7 * 2 ^ 184)

/-- Parity of `ucEnd`: byte 23 holds 7, three ones; every other byte 0. -/
def ucEndWord : BitVec 216 := (0x7FFFFF#24) ++ ucEnd

/-- Word of a group's microcode store (05 R119). -/
def State.uc (s : State) (g : GroupIx) (a : Nat) : BitVec 216 := tget ucEndWord s.stores[g].uc a

/-- What was kept of a word written in this SEQ cycle: the value at its start, and whether its parity was wrong. -/
def wasAt (l : List (Nat × Word × Bool)) (k : Nat) : Option (Word × Bool) := (l.find? fun e => e.1 == k).map (·.2)

/-- A word is about to be written: what it held at the start of the SEQ cycle is kept, once. -/
def keepWas (l : List (Nat × Word × Bool)) (k : Nat) (v : Word) (bad : Bool) : List (Nat × Word × Bool) :=
  if (wasAt l k).isSome then l else (k, v, bad) :: l

/-- CPM word as it stands, lane × 64 + word: what the host reads (03 R78, R79). -/
def State.cpmNow (s : State) (g : GroupIx) (a : Nat) : Word := tget 0 s.stores[g].cpm a

/-- CPM word at the start of the SEQ cycle: what the engine and the group's hardware read (01 R15, 05 R123). -/
def State.cpm (s : State) (g : GroupIx) (a : Nat) : Word :=
  match wasAt s.stores[g].cpmWas a with
  | some w => w.1
  | none => s.cpmNow g a

/-- Whether the parity of a CPM word was wrong at the start of the SEQ cycle (11 R293). -/
def State.cpmBad (s : State) (g : GroupIx) (a : Nat) : Bool :=
  match wasAt s.stores[g].cpmWas a with
  | some w => w.2
  | none => s.stores[g].cpmBad.contains a

/-- CPM word of a lane. -/
def State.cpmL (s : State) (g : GroupIx) (l : LaneIx) (w : Nat) : Word := s.cpm g (64 * l.val + w)

/-- Active coefficient word of a lane, w from 0x20 to 0x2F (04 R114). -/
def State.coef (s : State) (g : GroupIx) (l : LaneIx) (w : Nat) : Word :=
  tget 0 s.stores[g].coef (16 * l.val + (w - 0x20))

/-- Step-table word as it stands, statistics words apart: what the host reads (06 R166). -/
def State.tblNow (s : State) (g : GroupIx) (a : Nat) : Word := tget 0 s.stores[g].tbl a

/-- Step-table word at the start of the SEQ cycle: what the engine and the sequencers read (05 R123, 06 R176). -/
def State.tbl (s : State) (g : GroupIx) (a : Nat) : Word :=
  match wasAt s.stores[g].tblWas a with
  | some w => w.1
  | none => s.tblNow g a

/-- Whether the parity of a step-table word was wrong at the start of the SEQ cycle. -/
def State.tblBad (s : State) (g : GroupIx) (a : Nat) : Bool :=
  match wasAt s.stores[g].tblWas a with
  | some w => w.2
  | none => s.stores[g].tblBad.contains a

/-- The bits of a CPM word that hold fields; the others are reserved and read 0 (00 R2; 03 R78, 04 R114, R116,
09 R241). -/
def cpmFields (w : Nat) : Word :=
  if w < 0x04 then 0x0003FFFF
  else if w = 0x04 ∨ w = 0x07 ∨ w = 0x13 then 0xFFFFFFFF
  else if w = 0x05 ∨ w = 0x08 ∨ w = 0x32 then 0x0000FFFF
  else if w = 0x06 then 0xFFFF001F
  else if 0x09 ≤ w ∧ w ≤ 0x0C then 0x1F7FFFFF
  else if w = 0x0D then 0x0FFF0FFF
  else if w = 0x10 ∨ w = 0x11 then 0x000007F7
  else if w = 0x12 then 0x00003FFF
  else if w = 0x14 then 0x000000F1
  else if 0x20 ≤ w ∧ w ≤ 0x2F then 0x00FFFFFF
  else if w = 0x30 then 0x00000FF7
  else if w = 0x31 then 0x00FFFFFF
  else 0

/-- The bits of a word of a step (06 R167). -/
def stepFields (k : Nat) : Word :=
  if k = 2 ∨ k = 3 then 0x000FFFFF
  else if k = 4 then 0x0FFFFFFF
  else if k = 6 ∨ k = 7 then 0x0FFF0FFF
  else 0xFFFFFFFF

/-- The bits of a step-table word that hold fields, by offset in the quad's area (00 R2; 06 R166, R167, R173,
R177). -/
def tblFields (o : Nat) : Word :=
  if o < 0x300 then stepFields (o % 12)
  else if o = 0x300 then 0x00073F01
  else if o ≤ 0x303 then 0x0003FFFF
  else if o = 0x304 ∨ o = 0x305 ∨ o = 0x30A then 0xFFFFFFFF
  else if o = 0x306 then 0xFFFF1F1F
  else if 0x307 ≤ o ∧ o ≤ 0x309 then 0x000FFFFF
  else if 0x340 ≤ o then 0xFFFFFFFF
  else 0

/-- Step-table word of a quad's area. -/
def State.tblQ (s : State) (g : GroupIx) (j : QuadIx) (o : Nat) : Word := s.tbl g (1024 * j.val + o)

/-- Mask word of a group's capture (10 R265). -/
def State.maskW (s : State) (g : GroupIx) (a : Nat) : Word := tget 0 s.stores[g].mask a

/-- An armed injection for store TARGET `t`: the byte it inverts; disarmed as it acts (18 R443). -/
def State.takeInjection (s : State) (t : Nat) : Option (Nat × Nat × Bool) × State :=
  let r := s.reg (adr pFLT 0x22)
  if bit r 0 && fld r 12 4 == t then
    (some (fld r 4 4, fld r 8 4, bit r 1), s.setReg (adr pFLT 0x22) (putFld r 0 1 0))
  else (none, s)

/-- A key enters or leaves a list of bad words. -/
def markBad (l : List Nat) (k : Nat) (bad : Bool) : List Nat :=
  let l := l.filter (· != k)
  if bad then k :: l else l

/-- A CPM word written whole, with its parity; its reserved bits stay 0 (03 R78, 11 R291). -/
def State.setCpm (s : State) (g : GroupIx) (a : Nat) (v : Word) : State :=
  let (i, s) := s.takeInjection 4
  s.modS g fun t => { t with
    cpm := tset 0 t.cpm a (v &&& cpmFields (a % 64)), cpmBad := markBad t.cpmBad a i.isSome,
    cpmWas := keepWas t.cpmWas a (tget 0 t.cpm a) (t.cpmBad.contains a) }

/-- A step-table word written whole; its reserved bits stay 0 (06 R166). -/
def State.setTbl (s : State) (g : GroupIx) (a : Nat) (v : Word) : State :=
  let (i, s) := s.takeInjection 6
  s.modS g fun t => { t with
    tbl := tset 0 t.tbl a (v &&& tblFields (a % 1024)), tblBad := markBad t.tblBad a i.isSome,
    tblWas := keepWas t.tblWas a (tget 0 t.tbl a) (t.tblBad.contains a) }

/-- The 192 bits of a stored microword. -/
def ucBits (w : BitVec 216) : BitVec 192 := w.setWidth 192

/-- Part p of a microword written with fresh parity for its four bytes, one of them inverted by an injection
(05 R120, 18 R443). -/
def State.setUcPart (s : State) (g : GroupIx) (a p : Nat) (v : Word) : State :=
  let (i, s) := s.takeInjection 3
  let old := s.uc g a
  let body := (ucBits old &&& ~~~(0xFFFFFFFF#192 <<< (32 * p))) ||| (v.setWidth 192 <<< (32 * p))
  let mine := 0xF#24 <<< (4 * p)
  let par := (old.extractLsb' 192 24 &&& ~~~mine) ||| (ucParity body &&& mine)
  let par := match i with
    | none => par
    | some x => par ^^^ (1#24 <<< (4 * p + x.1 % 4))
  s.modS g fun t => { t with uc := tset ucEndWord t.uc a (par ++ body) }

/-! ## Main SRAM (01 R8, 11 R290, R291) -/

/-- Byte at an address; a byte that nothing has written reads 0 (log entry 3). -/
def cellAt (m : List Host.Cell) (k : Nat) : Byte := tget 0 m k

/-- Byte written, in canonical form: addresses rising, no 0 listed. -/
def setCell (m : List Host.Cell) (k : Nat) (v : Byte) : List Host.Cell := tset 0 m k v

/-- Canonical form of the SRAM: its bytes, and the differences of the check bits by word. -/
def Sram.wf (m : Sram) : Bool := twf (fun _ => 0) m.cells && twf (fun _ => 0) m.check

/-- 32-bit word at a byte address, least significant byte first (11 R288). -/
def Sram.word (m : Sram) (a : Nat) : Word :=
  cellAt m.cells (a + 3) ++ cellAt m.cells (a + 2) ++ cellAt m.cells (a + 1) ++ cellAt m.cells a

/-- Whole word written; its check symbols are right (11 R291). -/
def Sram.setWord (m : Sram) (a : Nat) (v : Word) : Sram :=
  { m with
    cells := setCell (setCell (setCell (setCell m.cells a (v.extractLsb' 0 8)) (a + 1) (v.extractLsb' 8 8))
      (a + 2) (v.extractLsb' 16 8)) (a + 3) (v.extractLsb' 24 8),
    check := tset 0 m.check (a / 4) 0 }

/-- Product in GF(16), primitive polynomial x^4 + x + 1 (11 R290). -/
def gfMul (a b : BitVec 4) : BitVec 4 :=
  let dbl (x : BitVec 4) : BitVec 4 := if x.getLsbD 3 then (x <<< 1) ^^^ 3#4 else x <<< 1
  let t0 := if b.getLsbD 0 then a else 0
  let t1 := if b.getLsbD 1 then dbl a else 0
  let t2 := if b.getLsbD 2 then dbl (dbl a) else 0
  let t3 := if b.getLsbD 3 then dbl (dbl (dbl a)) else 0
  t0 ^^^ t1 ^^^ t2 ^^^ t3

/-- Check symbols of a data word: x^3 d(x) mod g(x), symbol j in bits [4j+3:4j] (11 R290). -/
def rsCheck (v : Word) : BitVec 12 :=
  let step (st : BitVec 4 × BitVec 4 × BitVec 4) (d : BitVec 4) : BitVec 4 × BitVec 4 × BitVec 4 :=
    let f := st.2.2 ^^^ d
    (gfMul f 0xC, st.1 ^^^ gfMul f 0xD, st.2.1 ^^^ gfMul f 0xE)
  let r := [7, 6, 5, 4, 3, 2, 1, 0].foldl (fun st i => step st (v.extractLsb' (4 * i) 4)) (0, 0, 0)
  r.2.2 ++ r.2.1 ++ r.1

/-- The eleven symbols of a stored word. -/
def Sram.symbols (m : Sram) (a : Nat) : Word × BitVec 12 :=
  let v := m.word a
  (v, rsCheck v ^^^ tget 0 m.check (a / 4))

/-- Word with symbol `i` inverted whole (18 R443); symbols 8 to 10 are the check symbols. -/
def invertSym (v : Word) (c : BitVec 12) (i : Nat) : Word × BitVec 12 :=
  let i := if i ≤ 10 then i else 0
  if i < 8 then (v ^^^ (0xF#32 <<< (4 * i)), c) else (v, c ^^^ (0xF#12 <<< (4 * (i - 8))))

/-- Stored data and check symbols set, right or not. -/
def Sram.setRaw (m : Sram) (a : Nat) (v : Word) (c : BitVec 12) : Sram :=
  let m := m.setWord a v
  { m with check := tset 0 m.check (a / 4) (rsCheck v ^^^ c) }

/-- What a decoder finds (11 R290): right, one wrong symbol corrected, or uncorrectable. -/
inductive Decoded where
  | clean (v : Word)
  | fixed (v : Word) (sym : Nat)
  | bad (v : Word)
  deriving DecidableEq, Repr

/-- Word with symbol `i` changed by `e`. -/
def xorSym (v : Word) (c : BitVec 12) (i : Nat) (e : BitVec 4) : Word × BitVec 12 :=
  if i < 8 then (v ^^^ ((e.setWidth 32) <<< (4 * i)), c)
  else (v, c ^^^ ((e.setWidth 12) <<< (4 * (i - 8))))

/-- Decode by search over single wrong symbols: the code has distance 4, so at most one is found (11 R290). -/
def rsDecode (v : Word) (c : BitVec 12) : Decoded :=
  if rsCheck v = c then .clean v
  else
    let tries := (List.range 11).flatMap fun i => ((List.range 16).drop 1).map fun e => (i, e)
    match tries.find? (fun t =>
        let w := xorSym v c t.1 (BitVec.ofNat 4 t.2)
        decide (rsCheck w.1 = w.2)) with
    | some t => .fixed (xorSym v c t.1 (BitVec.ofNat 4 t.2)).1 t.1
    | none => .bad v

/-- Which injection TARGET covers a byte address (01 R8, 18 R443). -/
def sramTarget (a : Nat) : Nat :=
  if a < 0x02000000 then 0 else if a < 0x03800000 then 1 else if a < 0x03C00000 then 15 else 2

/-- A word of main SRAM is written: a corrected word of it that waits to be written back is dropped, and counts in
MEM.WB_SKIP (11 R292). -/
def State.skipBack (s : State) (a : Nat) : State :=
  if s.sram.back.any fun e => e.1 == a then
    ({ s with sram := { s.sram with back := s.sram.back.filter fun e => e.1 != a } }).bump (adr pMEM 0x0E)
  else s

/-- The unit writes a whole word of main SRAM, injection included. -/
def State.sramWrite (s : State) (a : Nat) (v : Word) : State :=
  let (i, s) := (s.skipBack a).takeInjection (sramTarget a)
  match i with
  | none => { s with sram := s.sram.setWord a v }
  | some (sa, sb, dbl) =>
    let w := invertSym v (rsCheck v) sa
    let w := if dbl then invertSym w.1 w.2 sb else w
    { s with sram := s.sram.setRaw a w.1 w.2 }

/-! ## MRAM regions (14 R343, 20 R497) -/

/-- First and last word of each region. -/
def nvmRegions : List (Nat × Nat) :=
  [(0x0000, 0x003F), (0x0040, 0x007F), (0x0080, 0x00BF), (0x00C0, 0x00FF), (0x0100, 0x017F), (0x0200, 0x0FFF),
   (0x1000, 0x1FFF), (0x2000, 0x2FFF)]

/-- One region's words of a table replaced by those of another. -/
def copyRegion (k : Nat) (from_ into : Table Word) : Table Word :=
  let (lo, hi) := nvmRegions.getD k (0, 0)
  into.filter (fun p => p.1 < lo) ++ from_.filter (fun p => lo ≤ p.1 && p.1 ≤ hi) ++ into.filter (fun p => hi < p.1)

/-- CRC-32 of a region of a copy (R343). DESIGN CHOICE (log entry 44): its words in rising order, each from bit 0 up. -/
def regionCrc (t : Table Word) (k : Nat) : Word :=
  let (lo, hi) := nvmRegions.getD k (0, 0)
  crc32 ((List.range (hi + 1 - lo)).map fun i => tget 0 t (lo + i))

/-- CRC of a region of zeros. -/
def crcBlank (k : Nat) : Word :=
  if k < 4 then 0x0D968558 else if k = 4 then 0xB2AA7578 else if k = 5 then 0xF098EB4C else 0xAB54D286

/-- CRC stored with a region of copy A. -/
def Nvm.storedA (n : Nvm) (k : Nat) : Word := tget (crcBlank k) n.crcA k

/-- CRC stored with a region of copy B. -/
def Nvm.storedB (n : Nvm) (k : Nat) : Word := tget (crcBlank k) n.crcB k

/-! ## Free values (log entry 4) -/

/-- The number of the next free value, and the state with it taken. -/
def State.draw (s : State) : Nat × State := (s.draws, { s with draws := s.draws + 1 })

/-! ## Fault messages (18 R432) -/

/-- Fault sources (R433). -/
def srcESTOP : Nat := 0x000
def srcCLK : Nat := 0x001
def srcMC : Nat := 0x002
def srcTHM : Nat := 0x003
def srcMODE : Nat := 0x004
def srcSYNC : Nat := 0x005
def srcKL : Nat := 0x006
def srcPAIR : Nat := 0x007
def srcMEM : Nat := 0x008
def srcRING : Nat := 0x009
def srcWEAR : Nat := 0x00A
def srcTILE (t : TileIx) : Nat := 0x010 + t.val
def srcGRP (g : GroupIx) : Nat := 0x040 + g.val
def srcSTRM (i : StreamIx) : Nat := 0x080 + i.val
def srcWAV (g : GroupIx) : Nat := 0x0C0 + g.val

/-- A message word (R432). -/
def msgWord (src kind addr : Nat) : Word :=
  BitVec.ofNat 32 ((src % 1024) <<< 22 + (kind % 64) <<< 16 + addr % 65536)

/-- A source puts a message in its 8-entry queue; one that finds it full is lost (R432). -/
def State.sendMsg (s : State) (src : Nat) (m : Msg) : State :=
  let q := tget [] s.flt.queues src
  if q.length < 8 then
    { s with flt := { s.flt with queues := tset [] s.flt.queues src (q ++ [m]) } }
  else
    let s := { s with flt := { s.flt with loss := if s.flt.loss.contains src then s.flt.loss else src :: s.flt.loss } }
    (s.bump (adr pFLT 0x14)).event pFLT 2

/-- A source raises a fault. -/
def State.raise (s : State) (src kind addr : Nat) : State := s.sendMsg src { word := msgWord src kind addr }

/-- A source raises a fault whose fixed action it has taken there and then (R441). -/
def State.raiseActed (s : State) (src kind addr : Nat) : State :=
  s.sendMsg src { word := msgWord src kind addr, acted := true }

/-- Fault kinds (R434). -/
def kCYCLE_GUARD : Nat := 0x01
def kGE_PARITY : Nat := 0x02
def kSTACK : Nat := 0x03
def kEXTENT : Nat := 0x04
def kSTAGE_FULL : Nat := 0x05
def kRESTART_LIMIT : Nat := 0x06
def kCOMMIT_LEN : Nat := 0x07
def kPOST_COMMIT_LOSS : Nat := 0x08
def kORDER : Nat := 0x09
def kLINK_XFER : Nat := 0x0A
def kCPM_PARITY : Nat := 0x0B
def kRELAY_HOT : Nat := 0x0C
def kTHR_MISMATCH : Nat := 0x0D
def kADC_OVERRUN : Nat := 0x0E
def kTB_MISMATCH : Nat := 0x0F
def kVREF_RANGE : Nat := 0x10
def kFP_RANGE : Nat := 0x11
def kFP_TIMEOUT : Nat := 0x12
def kQUAD : Nat := 0x13
def kPAT_UNDERRUN : Nat := 0x14
def kWAV_POISON : Nat := 0x15
def kSTORE_CE : Nat := 0x16
def kSTORE_UE : Nat := 0x17
def kDESC_PARITY : Nat := 0x18
def kWEAR_SAT : Nat := 0x19
def kRELAY_RETIRE : Nat := 0x1A
def kRELAY_EXHAUSTED : Nat := 0x1B
def kHS_UNLOCK : Nat := 0x1C
def kTILE_LINK : Nat := 0x1D
def kROOT_LOSS : Nat := 0x20
def kDUAL_CLOCK_LOSS : Nat := 0x21
def kREF_SWITCH : Nat := 0x22
def kREF_LOSS : Nat := 0x23
def kXO_LOSS : Nat := 0x24
def kRCO_LOSS : Nat := 0x25
def kNO_REFERENCE : Nat := 0x26
def kSYNC_LOST : Nat := 0x27
def kFN_MISMATCH : Nat := 0x28
def kMC_PARITY : Nat := 0x29
def kCOMPAT : Nat := 0x2A
def kESTOP : Nat := 0x2B
def kKL_DOWN : Nat := 0x2C
def kPAIR_STUCK : Nat := 0x2D
def kPAIR_DEGRADED : Nat := 0x2E
def kPAIR_TAKEOVER : Nat := 0x2F
def kOWN_CONFLICT : Nat := 0x30
def kTHM_WARN : Nat := 0x31
def kTHM_THROTTLE : Nat := 0x32
def kTHM_CRITICAL : Nat := 0x33
def kTHM_LOW : Nat := 0x34
def kSENSOR_FAIL : Nat := 0x35

/-! ## Store reads with their code (11 R292, R293) -/

/-- Every corrected word that waits is written back, and the list is empty again (R292). -/
def State.writeBack (s : State) : State :=
  s.sram.back.foldl (fun s e => s.sramWrite e.1 e.2) { s with sram := { s.sram with back := [] } }

/-- A corrected word is to be written back: in the next SEQ cycle, so that a write in this one comes before it; at once
where no SEQ cycle comes. DESIGN CHOICE (log entry 104): the spec gives no time. -/
def State.correct (s : State) (a : Nat) (v : Word) : State :=
  if s.clk.lock && !s.clk.gated then
    if s.sram.back.any fun e => e.1 == a then s
    else { s with sram := { s.sram with back := s.sram.back ++ [(a, v)] } }
  else s.sramWrite a v

/-- A checked read of a main-store word: value, whether it is uncorrectable, and the state after the reports, with
the corrected word on its way back (R292). -/
def State.sramRead (s : State) (a : Nat) : Word × Bool × State :=
  let w := s.sram.symbols a
  match rsDecode w.1 w.2 with
  | .clean v => (v, false, s)
  | .fixed v sym =>
    let s := s.correct a v
    let s := (s.bump (adr pMEM 0x08)).setReg (adr pMEM 0x0B) (BitVec.ofNat 32 (sym <<< 24 + a / 4))
    (v, false, (s.event pMEM 0).raise srcMEM kSTORE_CE 0)
  | .bad v =>
    let s := (s.bump (adr pMEM 0x09)).setReg (adr pMEM 0x0C) (BitVec.ofNat 32 (a / 4))
    (v, true, (s.event pMEM 1).raise srcMEM kSTORE_UE 0)

/-- A byte-parity error is counted and located (R293): STORE code, LOC. -/
def State.parityError (s : State) (store loc : Nat) : State :=
  ((s.bump (adr pMEM 0x0A)).setReg (adr pMEM 0x0D) (BitVec.ofNat 32 (store <<< 24 + loc))).event pMEM 2

/-! ## Thermal limits (18 R446) -/

/-- A limit or the hysteresis as its register holds it, signed, in 0.01 °C (R446): 0 WARN, 1 THROT, 2 CRIT, 3 FLOOR,
4 MIN, 5 HYST. -/
def State.thmReg (s : State) (o : Nat) : Int := signed 16 (s.regF (adr pTHM (0x10 + o)) 0 16)

/-- A limit in force: a change takes effect at the next reading (R446). -/
def State.thmLimit (s : State) (o : Nat) : Int :=
  match s.thm.limWas.lookup o with
  | some w => signed 16 (fld w 0 16)
  | none => s.thmReg o

/-! ## Time (log entry 6) -/

/-- Root count now. -/
def State.rootNow (s : State) : Nat := s.esc.root.toNat

/-- Whether the root runs and ticks can occur (13 R323). -/
def State.rootRuns (s : State) : Bool := s.clk.lock && !s.clk.gated

/-- What a packet on Kwenlink does: the link carries nothing while the root is lost (13 R323). -/
def State.carried (s : State) (f : State → State) : State := if s.rootRuns then f s else s

/-- Cycles of the present frame: FRAME_LEN, and what a coarse step adds (13 R333). -/
def State.frameCycles (s : State) : Nat := ((s.esc.len.toNat : Int) + s.esc.stretch).toNat

/-- The cycle of this frame in which admission closes for the next one (02 R27). -/
def State.cutAt (s : State) : Nat := s.frameCycles - 128

/-- Whether the cut-off cycle of this frame has passed: what arrives in it is in time (02 R27, R28, R39). -/
def State.pastCut (s : State) : Bool := decide (s.cutAt < s.esc.pos.toNat)

/-- A timer after n SEQ cycles (05 R130). -/
def Timer.pass (n : Nat) : Timer → Timer
  | .running v => if v.toNat ≤ n then .expired else .running (v - BitVec.ofNat 32 n)
  | .stopped => .stopped
  | .expired => .expired

/-- The word of this SEQ cycle: the one executed, or the one the engine stands at (05 R149, R154). -/
def Engine.here (e : Engine) : BitVec 12 := if e.spent then e.lastPc else e.pc

/-- A running engine after n SEQ cycles: its counts, its timers, the word of the cycle just over; the restore cycle of
an abandonment is the one after the cycle whose word has been executed (02 R38, 05 R130, R142, R146, R148). -/
def Engine.flow (n : Nat) (e : Engine) : Engine :=
  if e.running then
    { e with cycles := e.cycles + n, after := if e.committed then e.after + n else 0,
             timers := vmap (Timer.pass n) e.timers, lcLoaded := false, spent := false,
             lastPc := if n ≤ 1 then e.here else e.pc,
             restoring := e.restoring && e.spent && decide (n ≤ 1) }
  else e

/-- SEQ cycles to the guard's expiry (02 R38). -/
def Engine.toGuard (e : Engine) : Nat := e.w.toNat - e.cycles

/-- SEQ cycles to the start of the 65th cycle after the COMMIT word's (05 R148). -/
def Engine.toCommitLen (e : Engine) : Nat := 65 - e.after

/-- SEQ cycles to the first of the two limits of a routine; none where no routine runs. -/
def Engine.toLimit (e : Engine) : Option Nat :=
  if e.running then some (if e.committed then min e.toGuard e.toCommitLen else e.toGuard) else none

/-- Frame number in which counting goes on: CONFIGURE, RUN, MIRROR, SAFE, FACTORY (02 R21). -/
def modeCounts : Mode → Bool
  | .reset | .boot | .enumerate => false
  | .configure | .run | .mirror | .safe | .factory => true

/-- Mode code (14 R339). -/
def modeCode : Mode → Nat
  | .reset => 0 | .boot => 1 | .enumerate => 2 | .configure => 3
  | .run => 4 | .mirror => 5 | .safe => 6 | .factory => 7

/-- Mode now. -/
def State.mode (s : State) : Mode := s.modes.mode

/-- Whether RUN holds from this tick on: it does and no STOP takes effect at the tick, or the START due at it is about to
enter RUN (02 R22, R23). -/
def State.runNow (s : State) : Bool :=
  (s.mode == .run && s.esc.stopAt != some 0) || (s.mode == .configure && s.esc.startAt == some s.esc.frame)

end Sys2Proof.Machine
end

