-- ==== Sys2Proof/Machine/Flags.lean ====
section
/-! DEFINITION. The flag computations of the engine's arithmetic (05 R131, R539). -/

namespace Sys2Proof.Machine

open Sys2Proof

/-- Result and flags of the one 32-bit addition a + b + cin (R539): Z, N, carry out of bit 31, signed overflow. -/
def addFlags (a b : Word) (cin : Bool) : Word × Flags :=
  let total := a.toNat + b.toNat + b2n cin
  let r : Word := BitVec.ofNat 32 total
  let exact : Int := a.toInt + b.toInt + (b2n cin : Nat)
  (r, { z := r == 0, n := r.msb, c := decide (2 ^ 32 ≤ total), v := decide (r.toInt ≠ exact) })

/-- A − B as A + NOT B + 1 (R539). -/
def subFlags (a b : Word) : Word × Flags := addFlags a (~~~ b) true

/-- Flags of AND, OR, XOR and the shifts: Z and N of the result, C and V cleared (R131). -/
def logicFlags (r : Word) : Flags := { z := r == 0, n := r.msb, c := false, v := false }

/-- Flags of MUL and MULH: Z and N of the result, C and V kept (R131). -/
def mulFlags (old : Flags) (r : Word) : Flags := { old with z := r == 0, n := r.msb }

end Sys2Proof.Machine
end

