-- ==== Sys2Proof/Machine/Fusee.lean ====
section
/-! DEFINITION. The fusee: shares, capacities, budgets, metering and slack (02 R30 to R44). -/

namespace Sys2Proof.Machine

open Sys2Proof

/-- Effective throttle step (R44). -/
def State.throttle (s : State) : Nat := max (s.regF (adr pFUS 0x29) 0 3) s.thm.step.toNat

/-- Share in force s(x, c) (R40). -/
def State.share (s : State) (x c : Nat) : Nat :=
  (tget (BitVec.ofNat 11 (shareReset.getD (8 * x + c) 0)) s.fus.share (8 * x + c)).toNat

/-- Effective share e(x, c) (R32). -/
def State.effShare (s : State) (x c : Nat) : Nat :=
  if c = 0 then s.share x c * (8 - s.throttle) / 8 else s.share x c

/-- Capacity of a resource per frame: GE cycles, ADC slots, store port cycles of a group, Kwenlink bytes (R30). -/
def State.capacity (s : State) (x : Nat) : Nat :=
  let l := s.esc.len.toNat
  if x = 0 then l - 192 else if x = 1 then 16 * (l / 200) else if x = 2 then l else s.kl.drainRsv.toNat

/-- Budget B(x, c) (R32). -/
def State.budget (s : State) (x c : Nat) : Nat := s.capacity x * s.effShare x c / 1024

/-- Store budget of a class at unit level: the sixteen ports together (R31, R33 check 9, 17 R420). -/
def State.unitStore (s : State) (c : Nat) : Nat := 64 * s.esc.len.toNat * s.effShare 2 c / 1024

/-- Key of a use counter: the unit, or one group. -/
def useKey (g : Option GroupIx) (x c : Nat) : Nat :=
  match g with
  | none => 8 * x + c
  | some g => 32 * (g.val + 1) + 8 * x + c

/-- Use of a resource by a class in this frame. -/
def State.used (s : State) (g : Option GroupIx) (x c : Nat) : Nat := tget 0 s.fus.spent (useKey g x c)

/-- Use added. -/
def State.use (s : State) (g : Option GroupIx) (x c n : Nat) : State :=
  { s with fus := { s.fus with spent := tset 0 s.fus.spent (useKey g x c) (s.used g x c + n) } }

/-- Budget of a class in a scope. -/
def State.scopeBudget (s : State) (g : Option GroupIx) (x c : Nat) : Nat :=
  match g with
  | some _ => s.budget x c
  | none => if x = 2 then s.unitStore c else s.budget x c

/-- Whether slack may be lent at all (R42, R44). -/
def State.slackOn (s : State) : Bool := s.regB (adr pFUS 0x28) 0 && s.throttle == 0

/-- Class numbers (02 R40). -/
def cFG : ClassIx := 0
def cRMT : ClassIx := 1
def cRES : ClassIx := 2
def cCAL : ClassIx := 3
def cWEAR : ClassIx := 4
def cTEL : ClassIx := 5
def cMIR : ClassIx := 6
def cHOST : ClassIx := 7

/-- Whether a group's foreground work of the frame has ended; it has from cycle 64 in a group with none (R42, 05
R153). -/
def State.fgDone (s : State) (g : Group) : Bool :=
  g.due.isEmpty && (!g.eng.running || g.eng.vendor) && decide (64 ≤ s.esc.pos.toNat)

/-- What a class has taken of a resource beyond its budget. -/
def State.excess (s : State) (g : Option GroupIx) (x c : Nat) : Nat := s.used g x c - s.scopeBudget g x c

/-- FG budget that a group has not spent, once its foreground work has ended (R42). -/
def State.unspent (s : State) (g : GroupIx) (x : Nat) : Nat :=
  if s.fgDone (s.grp g) then s.budget x 0 - s.used (some g) x 0 else 0

/-- Slack that the background classes have taken in a scope: what they used beyond their budgets. -/
def State.slackTaken (s : State) (g : Option GroupIx) (x : Nat) : Nat :=
  ((List.range 8).drop 1).foldl (fun n c => n + s.excess g x c) 0

/-- Slack of a scope: unspent FG budget less what has been taken of it (R42). The store ports of the unit lend what each group
whose own foreground work has ended has not spent; the link lends once that of every group has. -/
def State.slack (s : State) (g : Option GroupIx) (x : Nat) : Nat :=
  if s.slackOn then
    match g with
    | some g => s.unspent g x - s.slackTaken (some g) x
    | none =>
      if x = 2 then (below 64).foldl (fun n g => n + (s.unspent g 2 - s.slackTaken (some g) 2)) 0 - s.slackTaken none 2
      else if s.groups.toList.all s.fgDone then s.scopeBudget none x 0 - s.used none x 0 - s.slackTaken none x
      else 0
  else 0

/-- The order in which the classes share slack (R42). -/
def slackOrder : List ClassIx := [cCAL, cWEAR, cTEL, cMIR, cHOST, cRMT, cRES]

/-- Whether a class has stopped in a resource for the rest of the frame (R41). -/
def State.stopped (s : State) (g : Option GroupIx) (x c : Nat) : Bool := tget 0 s.fus.stops (useKey g x c) != 0

/-- What a stopped class waits for (R41). -/
def State.waitsFor (s : State) (g : Option GroupIx) (x c : Nat) : Nat := tget 0 s.fus.stops (useKey g x c) - 1

/-- Slack a class may take: what the classes before it in the order do not wait for (R42). -/
def State.slackFor (s : State) (g : Option GroupIx) (x : Nat) (c : ClassIx) : Nat :=
  (slackOrder.takeWhile (· != c)).foldl (fun left k =>
    let n := s.waitsFor g x k.val
    if n ≤ left then left - n else left) (s.slack g x)

/-- What a class still has of a resource: its budget while it has not stopped, and slack (R41, R42). -/
def State.left (s : State) (g : Option GroupIx) (x : Nat) (c : ClassIx) : Nat :=
  (if s.stopped g x c.val then 0 else s.scopeBudget g x c.val - s.used g x c.val) + s.slackFor g x c

/-- Whether a class still has n units of a resource (R41 to R43). -/
def State.fits (s : State) (g : Option GroupIx) (x : Nat) (c : ClassIx) (n : Nat) : Bool := decide (n ≤ s.left g x c)

/-- A class stops in a resource for the rest of the frame, waiting for n units; STARVE counts the frame once (R41). -/
def State.starved (s : State) (g : Option GroupIx) (x : Nat) (c : ClassIx) (n : Nat) : State :=
  let s := { s with fus := { s.fus with stops := tset 0 s.fus.stops (useKey g x c.val) (n + 1) } }
  if s.fus.starve.contains c then s
  else
    let s := { s with fus := { s.fus with starve := c :: s.fus.starve } }
    (s.bump (adr pFUS (0x30 + c.val))).event pFUS 1

/-- A class takes n units; a stopped one waits no longer, and stays stopped. -/
def State.pay (s : State) (g : Option GroupIx) (x : Nat) (c : ClassIx) (n : Nat) : State :=
  let s := s.use g x c.val n
  if s.stopped g x c.val then { s with fus := { s.fus with stops := tset 0 s.fus.stops (useKey g x c.val) 1 } } else s

/-- A class takes n units, or stops. -/
def State.charge (s : State) (g : Option GroupIx) (x : Nat) (c : ClassIx) (n : Nat) : Bool × State :=
  if s.fits g x c n then (true, s.pay g x c n) else (false, s.starved g x c n)

/-- A packet leaves on KL_TX now (16 R394: the originator sends HOP = 1); without the root nothing does (13 R323). -/
def State.transmit (s : State) (p : KlPacket) : State :=
  if s.rootRuns then { s with kl := { s.kl with tx := s.kl.tx ++ [p] } } else s

/-- Link bytes of a packet (16 R389). -/
def linkBytes (p : KlPacket) : Nat := 8 * p.payload.length + 24

/-- Bytes of a packet that TEL pays: the telemetry records of an RSLT packet sent again (16 R401). -/
def State.telPart (s : State) (p : KlPacket) : Nat :=
  if p.kind = 3 then
    match s.kl.replay.find? (fun h => h.seq == p.seq) with
    | some h => h.tel
    | none => 0
  else 0

/-- The unit originates a metered packet: it leaves now, or waits for its class, or for a tick where the root is lost (02 R41, 13
R323, 16 R401). -/
def State.originate (s : State) (c : ClassIx) (p : KlPacket) : State :=
  if s.kl.wait.any (fun w => w.1 == c) || !s.rootRuns then { s with kl := { s.kl with wait := s.kl.wait ++ [(c, p)] } }
  else
    let t := s.telPart p
    let n := linkBytes p - t
    let own := s.fits none 3 c n
    if own && (t == 0 || s.fits none 3 cTEL t) then ((s.pay none 3 c n).pay none 3 cTEL t).transmit p
    else
      let s := if own then s.starved none 3 cTEL t else s.starved none 3 c n
      { s with kl := { s.kl with wait := s.kl.wait ++ [(c, p)] } }

/-- Waiting packets are offered again, in order (02 R41). -/
def State.retryWaiting (s : State) : State :=
  let w := s.kl.wait
  w.foldl (fun s cp => s.originate cp.1 cp.2) { s with kl := { s.kl with wait := [] } }

/-- Bytes of a 64-bit block in the order sent, bit 0 first (16 R387, R389). -/
def blockBytes (w : BitVec 64) : List Byte := (List.range 8).map fun i => w.extractLsb' (8 * i) 8

/-- The two 32-bit words of a block, in the order sent, bit 0 first (16 R387, R389). -/
def blockWords (w : BitVec 64) : List Word := [w.setWidth 32, w.extractLsb' 32 32]

/-- Header block of a packet with a given HOP (16 R390). -/
def klHeader (p : KlPacket) (hop : Byte) : BitVec 64 :=
  p.dest ++ p.src ++ p.kind ++ (BitVec.ofBool p.urg) ++ (BitVec.ofBool p.resp) ++ p.len ++ hop ++ 0#8 ++ p.seq

/-- CRC a packet carries: header with HOP 0, then payload (16 R391). -/
def klCrc (p : KlPacket) : BitVec 32 :=
  crc32 ((klHeader p 0 :: p.payload).flatMap blockWords)

/-- A packet of this unit, its length and CRC filled in. -/
def mkPacket (dest src : Byte) (kind : BitVec 4) (urg resp : Bool) (seq : BitVec 16)
    (payload : List (BitVec 64)) : KlPacket :=
  let p : KlPacket := ⟨.whole, dest, src, kind, urg, resp, BitVec.ofNat 10 payload.length, 1, seq, payload, 0⟩
  { p with crc := klCrc p }

/-- CRC-16, polynomial 0x1021, initial 0xFFFF, no inversion, bits MSB first (05 R139, 15 R365). -/
def crc16Bit (c : BitVec 16) (b : Bool) : BitVec 16 :=
  if (c.getLsbD 15) != b then (c <<< 1) ^^^ 0x1021#16 else c <<< 1

/-- CRC-16 over the bits of a value, MSB first. -/
def crc16 {n : Nat} (c : BitVec 16) (w : BitVec n) : BitVec 16 :=
  (List.range n).foldl (fun c i => crc16Bit c (w.getLsbD (n - 1 - i))) c

/-! ## Program headers (05 R139, R140) -/

/-- A header's fields, where it is intact and its program ends below `top` (05 R139, R140); FEATURE beside them. -/
def headerIn (top entry : Nat) (w : BitVec 192) : Option (Slot × Nat) :=
  let len := fld w 156 12
  let chk := (List.range 176).foldl (fun c i => crc16Bit c (w.getLsbD (191 - i))) 0xFFFF#16
  if fld w 176 16 = 0x4E56 ∧ fld w 0 16 = chk.toNat ∧ fld w 152 2 = 0 ∧ fld w 16 32 = 0 ∧ 2 ≤ len ∧ len ≤ 3072 ∧
      entry + len ≤ top ∧ 1 ≤ fld w 124 28 then
    some ({ entry := BitVec.ofNat 12 entry, len := BitVec.ofNat 12 len, rst := BitVec.ofNat 2 (fld w 154 2),
            w := BitVec.ofNat 28 (fld w 124 28), s := BitVec.ofNat 28 (fld w 96 28),
            a := BitVec.ofNat 24 (fld w 72 24), d := BitVec.ofNat 24 (fld w 48 24) }, fld w 168 8)
  else none

/-- The header of a customer program (05 R140). -/
def headerOf (entry : Nat) (w : BitVec 192) : Option (Slot × Nat) := headerIn 0xC00 entry w

end Sys2Proof.Machine
end

