-- ==== Sys2Proof/Machine/Rings.lean ====
section
/-! DEFINITION. Rings, event queues and descriptors (11): records and entries enter, gaps, watermarks,
publication at the tick, the drain's packets, descriptor access. -/

namespace Sys2Proof.Machine

open Sys2Proof

/-! ## Queues -/

/-- Selector of group event queue g (R270). -/
def selGroup (g : GroupIx) : Nat := 0x40000 + g.val

/-- Selector of unit event queue u (R270). -/
def selUnit (u : Nat) : Nat := 0x40040 + u % 8

/-- Ring of channel c and tag k (01 R10). -/
def ringOf (c k : Nat) : Nat := c * 256 + k

/-- Capacity C in slots (R272). -/
def Desc.cap (d : Desc) : Nat := 2 * d.size.toNat

/-- Modulus M of the slot counts (R272); 1 for a disabled queue. -/
def Desc.modulus (d : Desc) : Nat := if d.cap = 0 then 1 else d.cap * (262144 / d.cap)

/-- Fill in slots (R272). -/
def Desc.fill (d : Desc) : Nat := (d.wr + d.modulus - d.tail) % d.modulus

/-- A descriptor. -/
def State.desc (s : State) (sel : Nat) : Desc := tget {} s.rings.desc sel

/-- What stands beside a descriptor's words, the write position and FAILED, changed. -/
def State.markDesc (s : State) (sel : Nat) (d : Desc) : State :=
  { s with rings := { s.rings with desc := tset {} s.rings.desc sel d } }

/-- Words of a descriptor written by the unit: an injection armed for TARGET 5 inverts a parity bit (18 R443). -/
def State.setDesc (s : State) (sel : Nat) (d : Desc) : State :=
  let (i, s) := s.takeInjection 5
  s.markDesc sel { d with bad := d.bad || i.isSome }

/-- Byte address of a slot (R272). -/
def Desc.slotAdr (d : Desc) (slot : Nat) : Nat := 0x02000000 + 64 * d.base.toNat + 32 * (slot % d.cap)

/-- Eight words into a slot. -/
def State.writeSlot (s : State) (d : Desc) (slot : Nat) (ws : List Word) : State :=
  (List.range 8).foldl (fun s i => s.sramWrite (d.slotAdr slot + 4 * i) (ws.getD i 0)) s

/-- An entry of one or two slots takes its place at WR (R272, R288). -/
def State.putEntry (s : State) (sel : Nat) (ws : List Word) (frame : FrameNo) (tel : Bool) : State :=
  let d := s.desc sel
  let n := if ws.length ≤ 8 then 1 else 2
  let s := s.writeSlot d d.wr ws
  let s := if n = 2 then s.writeSlot d (d.wr + 1) (ws.drop 8) else s
  let s := s.markDesc sel { d with wr := (d.wr + n) % d.modulus }
  { s with rings := { s.rings with unsent := s.rings.unsent ++ [⟨sel, d.wr, n, frame, false, false, tel⟩] } }

/-- A dropped entry: PEND saturates, DROP_CNT and its event (R282). -/
def State.dropEntry (s : State) (sel : Nat) : State :=
  let d := s.desc sel
  let s := if d.pend = 0x3FFF then s else s.setDesc sel { d with pend := d.pend + 1 }
  (s.bump (adr pRING 0x0E)).event pRING 0

/-- Whether a fill crossed the watermark (R284). -/
def crossed (d : Desc) (before after : Nat) : Bool :=
  d.wmark != 0 && decide (before < 2 * d.wmark.toNat) && decide (2 * d.wmark.toNat ≤ after)

/-- Flags of a record header, bit numbers 54 to 63 of the header (R277). -/
structure Flagset where
  gap      : Bool := false
  poison   : Bool := false
  stale    : Bool := false
  underrun : Bool := false
  forced   : Bool := false
  ovr      : Bool := false
  cold     : Bool := false
  shadow   : Bool := false
  size64   : Bool := false
  event    : Bool := false
  deriving DecidableEq, Repr

/-- The two header words (R276, R277). -/
def headerWords (frame : FrameNo) (chan : Nat) (tag : Nat) (fmt : Nat) (f : Flagset) : List Word :=
  let hi := chan % 1024 + (tag % 256) <<< 10 + (fmt % 16) <<< 18 + b2n f.gap <<< 22 + b2n f.poison <<< 23 +
    b2n f.stale <<< 24 + b2n f.underrun <<< 25 + b2n f.forced <<< 26 + b2n f.ovr <<< 27 + b2n f.cold <<< 28 +
    b2n f.shadow <<< 29 + b2n f.size64 <<< 30 + b2n f.event <<< 31
  [BitVec.ofNat 32 frame.toNat, BitVec.ofNat 32 hi]

/-- Entries of a queue not yet sent leave the drain's list; DISCARD_CNT counts them (R275, R294). -/
def State.discardUnsent (s : State) (sel : Nat) : State :=
  let n := (s.rings.unsent.filter fun u => u.sel == sel).length
  let s := { s with rings := { s.rings with unsent := s.rings.unsent.filter fun u => u.sel != sel } }
  s.bumpBy (adr pRING 0x10) n

/-- A queue becomes FAILED after a parity error of its descriptor (R293, R294); the event entry apart. -/
def State.failQueue (s : State) (sel : Nat) : State :=
  let s := s.markDesc sel { s.desc sel with failed := true }
  let s := s.discardUnsent sel
  let s := (s.setReg (adr pRING 0x15) (BitVec.ofNat 32 sel)).bump (adr pRING 0x16)
  let s := (s.event pRING 4).parityError 3 sel
  s.raise srcRING kDESC_PARITY (if sel < 0x40000 then sel / 256 else 0)

/-- PEND returns to 0 as an entry or a gap record takes the count (R283, R285). -/
def State.clearPend (s : State) (sel : Nat) : State :=
  let d := s.desc sel
  if d.pend = 0 then s else s.setDesc sel { d with pend := 0 }

/-- An event-queue entry from its eight words; GAP and the drop count are filled in here (R285). A wrong parity of the
descriptor is found first (R294). -/
def State.enterEvent (s : State) (sel : Nat) (frame : FrameNo) (chan src reason : Nat) (value : Word)
    (pos : BitVec 28) : State :=
  let d := s.desc sel
  if d.failed then s.bump (adr pRING 0x10)
  else if d.bad then (s.failQueue sel).bump (adr pRING 0x10)
  else if d.size = 0 then (s.bump (adr pRING 0x0F)).event pRING 2
  else if d.fill + 1 ≤ d.cap then
    let ws := headerWords frame chan (sel - 0x40000) 0 { event := true, gap := d.pend != 0 } ++
      [BitVec.ofNat 32 (src % 256 + (reason % 256) <<< 8), value, pos.setWidth 32,
       d.pend.setWidth 32, 0, 0]
    let s := (s.clearPend sel).putEntry sel ws frame false
    if crossed d d.fill (d.fill + 1) then s.event pRING 1 else s
  else s.dropEntry sel

/-- Whether the newest entry of a queue has a lower SOURCE than one before it that arose in this SEQ cycle (R281). -/
def State.outOfOrder (s : State) (d : Desc) (early late : Unsent) : Bool :=
  let w (u : Unsent) (i : Nat) : Word := s.sram.word (d.slotAdr u.slot + 4 * i)
  early.slots == 1 && early.frame == s.esc.frame && w early 4 == s.esc.pos.setWidth 32 &&
    decide (fld (w late 2) 0 8 < fld (w early 2) 0 8)

/-- Two entries of a queue change places: CHAN, SOURCE with REASON, VALUE and POS; GAP and the drop count stay with the place. -/
def State.swapEvents (s : State) (d : Desc) (x y : Unsent) : State :=
  let m := s.sram
  let at_ (u : Unsent) (i : Nat) : Nat := d.slotAdr u.slot + 4 * i
  let chan (into from_ : Word) : Word := (into &&& ~~~0x3FF#32) ||| (from_ &&& 0x3FF#32)
  let put (m : Sram) (u v : Unsent) : Sram :=
    [2, 3, 4].foldl (fun m i => m.setWord (at_ u i) (s.sram.word (at_ v i)))
      (m.setWord (at_ u 1) (chan (s.sram.word (at_ u 1)) (s.sram.word (at_ v 1))))
  { s with sram := put (put m x y) y x }

/-- The newest entry of a queue takes its place among those of its SEQ cycle, newest first in the list. -/
def State.sinkEvent (d : Desc) : List Unsent → State → State
  | late :: early :: r, s =>
    if s.outOfOrder d early late then State.sinkEvent d (early :: r) (s.swapEvents d early late) else s
  | _, s => s

/-- An entry to group event queue g (R285, R286); those that enter in one cycle stand in ascending SOURCE order, the GE's first
(R281). DESIGN CHOICE (log entry 105): entries of one SEQ cycle count as of one CORE cycle; with the root lost they keep the
order in which they came. -/
def State.enterGroup (s : State) (g : GroupIx) (frame : FrameNo) (chan src reason : Nat) (value : Word) (pos : BitVec 28) : State :=
  let sel := selGroup g
  let s := s.enterEvent sel frame chan src reason value pos
  if s.rootRuns then
    State.sinkEvent (s.desc sel) (s.rings.unsent.filter fun u => u.sel == sel && !u.ready).reverse s
  else s

/-- An entry to group event queue g that arises now (R286). -/
def State.groupEvent (s : State) (g : GroupIx) (chan src reason : Nat) (value : Word) : State :=
  s.enterGroup g s.esc.frame chan src reason value s.esc.pos

/-- The latest unsent entry of this frame in a queue whose source and reason are `was` and whose value is `value` takes
another reason (06 R183). -/
def State.amendEvent (s : State) (sel : Nat) (was new value : Word) : State :=
  let d := s.desc sel
  let at_ (u : Unsent) : Nat := d.slotAdr u.slot + 8
  let mine (u : Unsent) : Bool :=
    u.sel == sel && u.frame == s.esc.frame && s.sram.word (at_ u) == was && s.sram.word (at_ u + 4) == value
  match (s.rings.unsent.filter mine).getLast? with
  | some u => s.sramWrite (at_ u) new
  | none => s

/-- An entry of the MC to a unit event queue (R286 SOURCE 8). -/
def State.unitEvent (s : State) (u src reason : Nat) (value : Word) : State :=
  s.enterEvent (selUnit u) s.esc.frame 0 src reason value s.esc.pos

/-- A ring fails: as a queue, with its event entry (R294). -/
def State.failRing (s : State) (ring : Nat) : State :=
  (s.failQueue ring).groupEvent (groupOf (ring / 256)) (ring / 256) 7 2 (BitVec.ofNat 32 ring)

/-- A record enters one ring: overflow, gap record, watermark (R282 to R284). -/
def State.enterRing (s : State) (ring : Nat) (e : Entry) (frame : FrameNo) : State :=
  let d := s.desc ring
  let l := if e.words.length ≤ 8 then 1 else 2
  let gap := if d.pend = 0 then 0 else 1
  if d.fill + gap + l ≤ d.cap then
    let s :=
      if d.pend = 0 then s
      else
        let ws := headerWords frame e.chan.toNat (ring % 256) 0 { gap := true } ++
          [d.pend.setWidth 32, 0, 0, 0, 0, 0]
        ((s.clearPend ring).putEntry ring ws frame false).bump (adr pRING 0x11)
    let s := s.putEntry ring e.words frame false
    if crossed d d.fill (d.fill + gap + l) then
      (s.event pRING 1).groupEvent (groupOf e.chan.toNat) e.chan.toNat 7 1 (BitVec.ofNat 32 ring)
    else s
  else s.dropEntry ring

/-- A record whose ring is FAILED, or is found so by its parity on this read, is discarded (R294). -/
def State.discardRecord (s : State) (ring : Nat) : State :=
  (if (s.desc ring).failed then s else s.failRing ring).bump (adr pRING 0x10)

/-- A record goes to the ring of its tag, or to tag 0, or nowhere (R280). -/
def State.enterRecord (s : State) (e : Entry) (frame : FrameNo) : State :=
  let r := ringOf e.chan.toNat e.tag.toNat
  let r0 := ringOf e.chan.toNat 0
  let d := s.desc r
  let d0 := s.desc r0
  if d.failed || d.bad then s.discardRecord r
  else if d.size ≠ 0 then s.enterRing r e frame
  else if d0.failed || d0.bad then (s.discardRecord r0).event pRING 2
  else if d0.size = 0 then (s.bump (adr pRING 0x0F)).event pRING 2
  else s.enterRing r0 e frame

/-! ## The tick (R287, R289, R275) -/

/-- Late entries are counted, then every WR is published as HEAD (R287, R289). -/
def State.publish (s : State) : State :=
  let s := if s.rings.unsent.any (fun u => u.ready && (s.mode != .mirror || decide (0x40000 ≤ u.sel))) then
    (s.bump (adr pRING 0x12)).event pRING 5 else s
  let s := s.rings.desc.foldl
    (fun s p => if p.2.head = p.2.wr then s else s.setDesc p.1 { p.2 with head := p.2.wr }) s
  { s with rings := { s.rings with unsent := s.rings.unsent.map fun u => { u with ready := true } } }

/-! ## Descriptor writes (R273 to R275) -/

/-- Whether two extents share a block. -/
def extentsMeet (b1 n1 b2 n2 : Nat) : Bool := decide (b1 < b2 + n2) && decide (b2 < b1 + n1)

/-- First failing check 1 to 3 of a submitted write; 0 where all pass (R274). -/
def State.descCheck (s : State) (sel base size wmark : Nat) : Nat :=
  if size = 0 then 0
  else if 393216 < base + size then 1
  else if size < wmark then 2
  else if s.rings.desc.any (fun p => p.1 != sel && p.2.size != 0 &&
      extentsMeet base size p.2.base.toNat p.2.size.toNat) then 3
  else 0

/-- DESC_STATUS (R296). -/
def State.descStatus (s : State) (sel reason : Nat) (done : Bool) : State :=
  s.setReg (adr pRING 0x0D) (BitVec.ofNat 32 (sel <<< 8 + b2n done <<< 7 + reason))

/-- A descriptor write is refused (R274); one that has waited is complete with it (19 R478). -/
def State.descRefused (s : State) (sel reason : Nat) : State :=
  let t := ((s.descStatus sel reason true).event pRING 3).refusePosted pRING
  if s.busy pRING then t.unpost pRING else t

/-- A descriptor write takes effect (R275). -/
def State.descApply (s : State) (sel : Nat) (base : BitVec 19) (size wmark : BitVec 16) : State :=
  ((s.discardUnsent sel).setDesc sel { base := base, size := size, wmark := wmark }).descStatus sel 0 true

/-- Whether a queue holds an entry that has not been sent. -/
def State.hasUnsent (s : State) (sel : Nat) : Bool := s.rings.unsent.any fun u => u.sel == sel

/-- A submitted descriptor write meets the checks of R275: refused, left to the tick, or in effect at once. -/
def State.descDo (s : State) (sel : Nat) (base : BitVec 19) (size wmark : BitVec 16) : State :=
  let r := s.descCheck sel base.toNat size.toNat wmark.toNat
  if r ≠ 0 then s.descRefused sel r
  else if s.mode = .run ∨ s.mode = .mirror ∨ s.mode = .safe then
    let s := (s.descStatus sel 0 false).post pRING
    { s with rings := { s.rings with pending := some (sel, base, size, wmark) } }
  else if s.mode ≠ .configure ∧ s.hasUnsent sel = true ∧ (s.desc sel).failed = false then s.descRefused sel 4
  else (s.descApply sel base size wmark).post pRING

/-- The four words of a descriptor (R271). -/
def Desc.words (d : Desc) : List Word :=
  [d.base.setWidth 32, d.wmark ++ d.size, BitVec.ofNat 32 d.head, BitVec.ofNat 32 (d.tail % 262144 + d.pend.toNat <<< 18)]

/-- The four words of a selected descriptor are loaded, and the first is the value read (R273). -/
def State.descTake (s : State) (sel : Nat) : State :=
  let ws := if sel < 262216 then (s.desc sel).words else [0, 0, 0, 0]
  ({ s with rings := { s.rings with loaded := ws } }).answer (ws.getD 0 0)

/-- Descriptor work is done. -/
def State.descWork (s : State) (w : DescWork) : State :=
  match w with
  | .submit sel base size wmark => s.descDo sel base size wmark
  | .load sel => s.descTake sel

/-- The words of the main store that descriptor work takes: the four of a ring's descriptor; an event queue's stand in a
file of the core die (R270). -/
def DescWork.cost : DescWork → Nat
  | .submit sel .. => if sel < 0x40000 then 4 else 0
  | .load sel => if sel < 0x40000 then 4 else 0

/-- Descriptor work asks for its words of the HOST store share: it is done, or it waits behind what waits already
(02 R30, R41; 15 R375), and a read behind a write that waits for its tick (19 R478). A write that waits keeps BUSY set,
and DESC_STATUS shows it as not complete (R296). -/
def State.descTry (s : State) (w : DescWork) : State :=
  let free := s.rings.waits.isEmpty && s.rings.pending.isNone
  let (ok, s) := if free && w.cost != 0 then s.charge none 2 cHOST w.cost else (free, s)
  if ok then s.descWork w
  else
    let s := { s with rings := { s.rings with waits := s.rings.waits ++ [w] } }
    match w with
    | .submit sel .. => s.descStatus sel 0 false
    | .load _ => s

/-- Descriptor work that waited is offered again, in order (02 R41). -/
def State.descRetry (s : State) : State :=
  let w := s.rings.waits
  w.foldl State.descTry { s with rings := { s.rings with waits := [] } }

/-- A write of DESC_DATA3 submits the four words and steps DESC_SEL (R273 to R275). A selector above the
last one reaches no descriptor: the write is ignored and the address still steps (19 R473). -/
def State.descSubmit (s : State) (_ : Word) : State :=
  let sel := (s.reg (adr pRING 0x08)).toNat
  if s.busy pRING then s.loseWrite pRING
  else
    let s := s.stepAdr pRING 0x08 262216
    if 262216 ≤ sel then s.post pRING
    else
      let base : BitVec 19 := (s.rings.fill.getD 0 0).setWidth 19
      let size : BitVec 16 := (s.rings.fill.getD 1 0).setWidth 16
      let wmark : BitVec 16 := (s.rings.fill.getD 1 0).extractLsb' 16 16
      (s.descTry (.submit sel base size wmark)).post pRING

/-- Whether a submitted descriptor write waits for its share (02 R41). -/
def State.descWaits (s : State) : Bool := s.rings.waits.any fun w =>
  match w with
  | .submit .. => true
  | .load _ => false

/-- A write of DESC_DATA3. -/
def execDescSubmit (v : Word) (s : State) : Host.Outcome State Fault Refusal := .next (s.descSubmit v)

/-- At the tick a pending descriptor write meets check 4 and takes effect or is refused; BUSY clears (R275). -/
def State.descEffect (s : State) : State :=
  match s.rings.pending with
  | none => s
  | some (sel, base, size, wmark) =>
    let s := { s with rings := { s.rings with pending := none } }
    if s.hasUnsent sel && !(s.desc sel).failed then s.descRefused sel 4
    else (s.descApply sel base size wmark).unpost pRING

/-- A read of DESC_DATA0 loads all four words of the selected descriptor (R273). -/
def State.descLoad (s : State) : State := s.descTry (.load (s.reg (adr pRING 0x08)).toNat)

/-- A read of DESC_DATA0; it waits while BUSY is set (19 R478). -/
def execDescLoad (s : State) : Host.Outcome State Fault Refusal := .next (if s.busy pRING then s else s.descLoad)

/-- What a read of DESC_DATA1 to DESC_DATA3 returns: the word as loaded, or 0 under a selector above the last one
(R273, 19 R473). -/
def State.descLoaded (s : State) (k : Nat) : Word :=
  if 262216 ≤ (s.reg (adr pRING 0x08)).toNat then 0 else s.rings.loaded.getD k 0

/-- A read of DESC_DATA3 returns word 3 as loaded and steps DESC_SEL (R273). -/
def State.descStepRead (s : State) : State :=
  (s.stepAdr pRING 0x08 262216).answer (s.descLoaded 3)

/-- A read of DESC_DATA3; it waits while BUSY is set (19 R478). -/
def execDescStepRead (s : State) : Host.Outcome State Fault Refusal := .next (if s.busy pRING then s else s.descStepRead)

/-- Format-table word: entry 0 is fixed as the gap format, KIND 3 with every item 0 (R278, R283). -/
def State.fmtWord (s : State) (a : Nat) : Word :=
  if a = 0 then 0x6 else if a < 4 then 0 else tget 0 s.rings.fmt a

/-- A posted write of FMT_DATA: CONFIGURE only, entry 0 never (R278). -/
def State.fmtDataWrite (s : State) (v : Word) : State :=
  if s.busy pRING then s.loseWrite pRING
  else
    let a := s.regF (adr pRING 0x13) 0 6
    let s := s.stepAdr pRING 0x13 64
    if s.mode = .configure ∧ 4 ≤ a then
      ({ s with rings := { s.rings with fmt := tset 0 s.rings.fmt a v } }).post pRING
    else s.refusePosted pRING

/-- A posted write of FMT_DATA. -/
def execFmtDataWrite (v : Word) (s : State) : Host.Outcome State Fault Refusal := .next (s.fmtDataWrite v)

/-- A read of FMT_DATA returns the word and steps FMT_ADDR (R278). -/
def State.fmtDataRead (s : State) : State :=
  (s.stepAdr pRING 0x13 64).answer (s.fmtWord (s.regF (adr pRING 0x13) 0 6))

/-- A read of FMT_DATA; it waits while BUSY is set (19 R478). -/
def execFmtDataRead (s : State) : Host.Outcome State Fault Refusal := .next (if s.busy pRING then s else s.fmtDataRead)

/-! ## Drain (R288, R289, 16 R399, R402) -/

/-- Words of an entry read from its slots; an uncorrectable payload word poisons it, an uncorrectable header
word is rebuilt (R292). -/
def State.readEntry (s : State) (u : Unsent) : List Word × State :=
  let d := s.desc u.sel
  let rd := (List.range (8 * u.slots)).foldl (fun (acc : List Word × Bool × Bool × State) i =>
      let r := acc.2.2.2.sramRead (d.slotAdr (u.slot + i / 8) + 4 * (i % 8))
      (acc.1 ++ [r.1], acc.2.1 || (r.2.1 && decide (i < 2)), acc.2.2.1 || (r.2.1 && decide (2 ≤ i)), r.2.2))
    (([] : List Word), false, false, s)
  let ws := rd.1
  let ws :=
    if rd.2.1 then
      let c := if u.sel < 0x40000 then u.sel / 256 else 0
      let k := if u.sel < 0x40000 then u.sel % 256 else u.sel - 0x40000
      headerWords u.frame c k 0 { poison := true, size64 := u.slots == 2 } ++ ws.drop 2
    else if rd.2.2.1 then
      [ws.getD 0 0, ws.getD 1 0 ||| (1#32 <<< 23)] ++ ws.drop 2
    else ws
  (ws, rd.2.2.2)

/-- The entries one packet takes: published, in order, whole, at most 4 KiB (R288). -/
def takePacket : List Unsent → Nat → List Unsent
  | [], _ => []
  | u :: r, n => if u.ready && decide (32 * u.slots ≤ n) then u :: takePacket r (n - 32 * u.slots) else []

/-- Words into 64-bit payload blocks, the earlier word low (R288, 16 R389). -/
def toBlocks : List Word → List (BitVec 64)
  | a :: b :: r => (b ++ a) :: toBlocks r
  | [a] => [(0#32 ++ a)]
  | [] => []

/-- Bytes held for replay. -/
def Kl.held (k : Kl) : Nat := k.replay.foldl (fun n h => n + 4 * h.words.length) 0

/-- One entry leaves its queue for the packet: TAIL advances past it (R288). A wrong descriptor parity found
here fails the queue instead, and the entry is discarded with the queue's others (R294). -/
def State.drainEntry (acc : List Word × State) (u : Unsent) : List Word × State :=
  let s := acc.2
  let d := s.desc u.sel
  if d.bad then
    let s := if d.failed then s else if u.sel < 0x40000 then s.failRing u.sel else s.failQueue u.sel
    (acc.1, s.bump (adr pRING 0x10))
  else
    let (ws, s) := s.readEntry u
    let s := s.setDesc u.sel { d with tail := (u.slot + u.slots) % d.modulus }
    (acc.1 ++ ws, s)

/-- Whether the replay buffer, of 256 KiB, takes n more bytes (16 R399). -/
def Kl.room (k : Kl) (n : Nat) : Bool := decide (k.held + n ≤ 262144)

/-- Whether the host's credit covers n more payload bytes, compared modulo 2^32 (16 R399). -/
def Kl.credited (k : Kl) (n : Nat) : Bool :=
  decide (n ≤ (k.limit - k.sent).toNat) && decide ((k.limit - k.sent).toNat < 2 ^ 31)

/-- The drain forms one RSLT packet, if credit, replay room and the budgets allow it: its store reads are RES's, those of
telemetry entries TEL's (R288, R289, 16 R399, R401). Without the root nothing is sent (13 R323). In MIRROR records carry
SHADOW and are not sent; event entries are (17 R422). -/
def State.drain (s : State) : State :=
  let elig := if s.mode = .mirror then s.rings.unsent.filter (fun u => decide (0x40000 ≤ u.sel)) else s.rings.unsent
  let es := takePacket elig 4096
  let bytes := es.foldl (fun n u => n + 32 * u.slots) 0
  let own := es.foldl (fun n u => if u.tel then n else n + 32 * u.slots) 0
  if s.rootRuns = false ∨ es.isEmpty ∨ s.kl.addr = 0xFE ∨ s.kl.credited bytes = false ∨ s.kl.wait.any (fun w => w.2.kind == 3) = true then s
  else if s.kl.room bytes = false then s.event pKL 4
  else
    let cost := own + 24
    if s.fits none 3 cRES cost = false then s.starved none 3 cRES cost
    else if s.fits none 2 cRES (own / 4) = false then s.starved none 2 cRES (own / 4)
    else if s.fits none 2 cTEL ((bytes - own) / 4) = false then s.starved none 2 cTEL ((bytes - own) / 4)
    else
      let s := ((s.pay none 3 cRES cost).pay none 2 cRES (own / 4)).pay none 2 cTEL ((bytes - own) / 4)
      let taken := es
      let s := { s with rings := { s.rings with unsent := s.rings.unsent.filter fun u => !taken.contains u } }
      let (ws, s) := taken.foldl State.drainEntry ([], s)
      if ws.isEmpty then s
      else
        let p := mkPacket 0xFE s.kl.addr 0x3 false false s.kl.nextSeq (toBlocks ws)
        let s := s.bump64 (adr pRING 0x17) (4 * ws.length)
        let s := { s with kl := { s.kl with sent := s.kl.sent + BitVec.ofNat 32 (4 * ws.length),
                                            replay := s.kl.replay ++ [({ seq := s.kl.nextSeq, words := ws, tel := bytes - own } : Held)],
                                            nextSeq := s.kl.nextSeq + 1 } }
        s.transmit p

/-- One packet of the drain. -/
def execDrainPacket (s : State) : Host.Outcome State Fault Refusal := .next s.drain

end Sys2Proof.Machine
end

