-- ==== Sys2Proof/Machine/FrontEnd.lean ====
section
/-! DEFINITION. Channel front end (03): records, gangs, relays, safe-path actions, comparators, node owner;
and the fault of a cell quad, which the safe path meets (06 R183, R184). -/

namespace Sys2Proof.Machine

open Sys2Proof

/-! ## Records (R75) -/

/-- OUT of a record. -/
def recOut (r : BitVec 64) : Bool := r.getLsbD 0

/-- RELAY of a power-up record. -/
def recRelay (r : BitVec 64) : Bool := r.getLsbD 4

/-- DRV of a record, 3 acting as 0. -/
def recDrv (r : BitVec 64) : DriveState :=
  match fld r 5 2 with
  | 1 => .low
  | 2 => .term
  | _ => .off

/-- Range code acting (R55): 5 to 7 act as 0. -/
def rangeCode (n : BitVec 3) : BitVec 3 := if n.toNat ≤ 4 then n else 0

/-- Level code acting (R65): above 60,000 acts as 60,000. -/
def levelCode (u : BitVec 16) : BitVec 16 := if 60000 < u.toNat then 60000 else u

/-- Current clamp code acting (R56): below 1,311 acts as 1,311. -/
def magCode (u : BitVec 16) : BitVec 16 := if u.toNat < 1311 then 1311 else u

/-- Whether the driver is off (R63). DEDUCED (log entry 48): a driver that only terminates the node is, whether TERM_EN or a
record's DRV = 2 put the termination on (R66, R75, 07 R190). -/
def DriveState.isOff : DriveState → Bool
  | .off | .term => true
  | .low | .high => false

/-- What OFF means on a lane whose node the driver owns: VT where TERM_EN is set (R66, 07 R190). -/
def Driver.offState (d : Driver) : DriveState := if d.termEn then .term else .off

/-- Idle bookkeeping of R63: the count starts when stage and driver are both off. -/
def FrontEnd.settle (now : Nat) (fe : FrontEnd) : FrontEnd :=
  if fe.stage.st = .hiz ∧ fe.driver.st.isOff = true then
    { fe with idleFrom := match fe.idleFrom with
        | none => some now
        | some t => some t }
  else { fe with idleFrom := none }

/-- Stage to HIZ. -/
def FrontEnd.hiz (fe : FrontEnd) : FrontEnd := { fe with stage := { fe.stage with st := .hiz, link := .none } }

/-- Driver off: where it has the node, TERM_EN terminates the node (R66). DESIGN CHOICE (log entry 129): KEEP then repeats OFF. -/
def FrontEnd.driverOff (fe : FrontEnd) : FrontEnd :=
  { fe with driver := { fe.driver with st := if fe.outSel then fe.driver.offState else .off, prev := .off } }

/-- A stage with its change of range under drive noted (R58). -/
def Stage.rangeMoved (now : Nat) (old new : Stage) : Stage :=
  if new.st ≠ .hiz ∧ new.st = old.st ∧ new.range ≠ old.range then { new with was := old.range, moved := some now }
  else if new.st = old.st then new
  else { new with moved := none }

/-- A record's force and driver values and the node-owner latch (R75, R540); in a gang the stage runs in range 4 (R60).
With `drives` false the outputs stay off whatever the record holds (17 R414). -/
def FrontEnd.applyRecord (now : Nat) (drives gang : Bool) (r : BitVec 64) (fe : FrontEnd) : FrontEnd :=
  let drv : DriveState := recDrv r
  let own := drv != DriveState.off
  let level := levelCode (r.extractLsb' 25 16)
  let st : StageState := if drives && recOut r && !own then .fv else .hiz
  let stage := { fe.stage with
    st := st, range := if gang then 4 else rangeCode (r.extractLsb' 1 3), code := r.extractLsb' 7 18, link := .none,
    mag := magCode (r.extractLsb' 41 16) }
  let fe := { fe with
    stage := Stage.rangeMoved now fe.stage stage,
    driver := { fe.driver with
      st := if drives then drv else if own then fe.driver.offState else .off, prev := .off,
      vil := if drv == DriveState.low then level else fe.driver.vil,
      linkVil := if drv == DriveState.low then false else fe.driver.linkVil,
      vt := if drv == DriveState.term then level else fe.driver.vt },
    outSel := own, action := .none }
  fe.settle now

/-! ## Gangs (R59 to R61) -/

/-- The mask of the gang that holds a lane, or the lane alone. -/
def State.gang (s : State) (g : GroupIx) (l : LaneIx) : LaneMask :=
  let masks := [0x18, 0x19, 0x1A, 0x1B].map fun o => (s.reg (adr (pGRP g) o)).setWidth 16
  match masks.find? (fun m => lane m l) with
  | some m => m
  | none => 1#16 <<< l.val

/-- Lowest lane of a mask, or `l`. -/
def lowest (m : LaneMask) (l : LaneIx) : LaneIx := (lanesOf m).headD l

/-- Leader of the gang of a lane; the lane itself outside a gang. -/
def State.leader (s : State) (g : GroupIx) (l : LaneIx) : LaneIx := lowest (s.gang g l) l

/-- Whether a lane belongs to a gang. -/
def State.ganged (s : State) (g : GroupIx) (l : LaneIx) : Bool := s.gang g l != 1#16 <<< l.val

/-- Whether this unit may drive at all (17 R414, R422). -/
def State.drives (s : State) : Bool := !s.pair.en || s.pair.ownOut

/-- Whether a tripped LIMIT channel is held disconnected (R73). -/
def FrontEnd.limitHeld (fe : FrontEnd) : Bool := (fe.hi.latch && fe.hi.limit) || (fe.lo.latch && fe.lo.limit)

/-- As `limitHeld`, for any member of the lane's gang (R61). -/
def State.limitHeld (s : State) (g : GroupIx) (l : LaneIx) : Bool :=
  (lanesOf (s.gang g l)).any fun m => (s.chan g m).fe.limitHeld

/-! ## Relays (R63, R64, 12 R305, R306) -/

/-- Retired flags of a channel's beams in force, A and B (12 R306, 20 R498). -/
def State.retired (s : State) (c : Nat) : Bool × Bool :=
  let r := (s.chan (groupOf c) (laneOf c)).fe.relay
  (r.retA, r.retB)

/-- The beam of the next close, `none` where both are retired; `true` is B. -/
def State.nextBeam (s : State) (g : GroupIx) (l : LaneIx) : Option Bool :=
  let r := (s.chan g l).fe.relay
  let want := if r.used then !r.beamB else false
  let (ra, rb) := s.retired (chanNo g l)
  let dead (b : Bool) := if b then rb else ra
  if !dead want then some want else if !dead (!want) then some (!want) else none

/-- A beam's pending count steps, saturating with WEAR_SAT (12 R305). -/
def State.countClose (s : State) (g : GroupIx) (l : LaneIx) (beamB : Bool) : State :=
  let r := (s.chan g l).fe.relay
  let n := if beamB then r.pendB else r.pendA
  if n = 0xFFFFFFFF then s
  else
    let s := s.modFe g l fun fe => { fe with relay := if beamB then { fe.relay with pendB := n + 1 } else { fe.relay with pendA := n + 1 } }
    if n + 1 = 0xFFFFFFFF then (s.event pWEAR 2).raise srcWEAR kWEAR_SAT (chanNo g l) else s

/-- A front-end refusal's event entry (11 R286). -/
def State.feEvent (s : State) (g : GroupIx) (l : LaneIx) (reason : Nat) (high : Bool) : State :=
  s.groupEvent g (chanNo g l) 3 reason (BitVec.ofNat 32 (l.val + b2n (!high) <<< 4))

/-- A relay command is refused with a reason code: 1 HOT, 2 BUSY, 3 RETIRED, 0 no entry (R63, R64, R73). -/
def State.refuseRelay (s : State) (g : GroupIx) (l : LaneIx) (reason : Nat) : State :=
  let s := s.bump (adr (pGRP g) 0x17)
  if reason = 0 then s
  else
    let s := s.feEvent g l reason true
    if reason = 1 then s.raise (srcGRP g) kRELAY_HOT 0 else s

/-- A relay starts to close on the next beam. -/
def State.relayClose (s : State) (g : GroupIx) (l : LaneIx) : State :=
  match s.nextBeam g l with
  | none => s.refuseRelay g l 3
  | some b =>
    let s := s.countClose g l b
    s.modFe g l fun fe => { fe with closes := fe.closes + 1, relay := { fe.relay with st := .closing, beamB := b, used := true } }

/-- A relay starts to open. -/
def State.relayOpen (s : State) (g : GroupIx) (l : LaneIx) : State :=
  s.modFe g l fun fe => { fe with relay := { fe.relay with st := .opening } }

/-- Whether a relay is in motion. -/
def RelayState.moving : RelayState → Bool
  | .closing | .opening => true
  | .opened | .closed => false

/-- Whether the idle check of R63 passes at root count `now`: RLY_IDLE × 100 ns, a code below 20 acting as 20. -/
def FrontEnd.cold (now : Nat) (fe : FrontEnd) : Bool :=
  match fe.idleFrom with
  | none => false
  | some t => decide (max fe.rlyIdle.toNat 20 * 320 ≤ now - t)

/-- A relay moves to a record's RELAY value with no check of R63 (R73, R76, R353): a relay already there, or on
its way there, stays. -/
def State.relayTo (s : State) (g : GroupIx) (l : LaneIx) (close : Bool) : State :=
  match (s.chan g l).fe.relay.st, close with
  | .closed, true | .closing, true | .opened, false | .opening, false => s
  | _, true => s.relayClose g l
  | _, false => s.relayOpen g l

/-! ## Cell quad setup and fault (06 R158, R180 to R184) -/

/-- Whether a stage-drive channel is set up as R158 asks. -/
def FrontEnd.linkedPi (fe : FrontEnd) : Bool :=
  fe.stage.st == .fv && fe.stage.link == .pi && !fe.outSel && fe.relay.st == .closed

/-- Code of a quad state (R172). -/
def quadCode : QuadState → Nat
  | .idle => 0 | .running => 1 | .ending => 2 | .paused => 3 | .done => 4 | .faulted => 5 | .refused => 6

/-- Whether a quad is active (R172, R113). -/
def QuadState.active : QuadState → Bool
  | .running | .ending | .paused | .faulted => true
  | .idle | .done | .refused => false

/-- INFO, item 15 (R180): STEP, COND, SERIAL; PAUSED and CURVE_RANGE kept. -/
def Quad.info (q : Quad) : Word :=
  BitVec.ofNat 32 (q.step.toNat + q.cond.toNat <<< 6 + q.serial.toNat <<< 16) ||| ((q.stats[15]) &&& 0x03000000#32)

/-- QSTAT (R177). -/
def Quad.qstat (q : Quad) : Word :=
  BitVec.ofNat 32 (quadCode q.st + q.step.toNat <<< 4 + q.cond.toNat <<< 10 + q.reason.toNat <<< 16 +
    q.cause.toNat <<< 20 + q.serial.toNat <<< 24)

/-- The step ends with condition `cond`: the live statistics go to the step-end image (R180, R181). -/
def Quad.endStep (q : Quad) (cond : BitVec 3) : Quad :=
  let q := { q with cond := cond }
  let st := q.stats.set 15 q.info
  { q with stats := st, image := st, ended := some (q.words.getD 0 0), succ := none }

/-- Rank of a safe-path action (R77). -/
def SafeAction.rank : SafeAction → Nat
  | .none => 0 | .cutoff => 1 | .safeState => 2 | .disconnect => 3

/-- Whether an operation under way restores an output. -/
def TileOp.restores : TileOp → Bool
  | .restore _ => true
  | .armPw _ | .disarmPw | .adcRead | .tdcOpen _ | .tdcClose | .tdcRead | .tdcClear => false

/-- One channel takes a safe-path action; a stronger one already applied stands (R77), and no output on its way is restored after
it (17 R425). A failed group's channels keep their state (14 R349). -/
def State.actRaw (s : State) (g : GroupIx) (l : LaneIx) (a : SafeAction) : State :=
  let fe := (s.chan g l).fe
  if (s.grp g).failed ∨ a.rank < fe.action.rank then s
  else
    let now := s.rootNow
    let rec_ := (s.chan g (s.leader g l)).fe.safeRec
    let opens : Bool := match a with
      | .disconnect => true
      | .safeState => !recOut rec_ && recDrv rec_ == DriveState.off
      | .cutoff | .none => false
    let s := s.modG g fun gr => { gr with
      holdOut := { gr.holdOut with acted := gr.holdOut.acted || lane gr.hold l }
      pat := { gr.pat with safe := setLane gr.pat.safe l true }
      sends := gr.sends.filter fun x => !(x.lane == l && x.op.restores) }
    let s := s.modFe g l fun fe =>
      match a with
      | .none => fe
      | .disconnect => { (fe.hiz.driverOff.settle now) with action := .disconnect }
      | .cutoff => { fe.applyRecord now s.drives (s.ganged g l) rec_ with action := .cutoff }
      | .safeState => { fe.applyRecord now s.drives (s.ganged g l) rec_ with action := .safeState }
    if opens then s.relayTo g l false else s

/-- A safe-path action on every member of a lane's gang: the leader's record applies to all (R77). -/
def State.actGang (s : State) (g : GroupIx) (l : LaneIx) (a : SafeAction) : State :=
  (lanesOf (s.gang g l)).foldl (fun s m => s.actRaw g m a) s

/-- FP_LAST and the counts of an ending of a hold; every ending but OK leaves the lane due (12 R302, R312). -/
def State.holdResult (s : State) (g : GroupIx) (l : LaneIx) (result : Nat) : State :=
  let s := s.setReg (adr pCAL 0x15) (BitVec.ofNat 32 (chanNo g l + result <<< 12))
  let s := s.modG g fun gr => { gr with fpDue := setLane gr.fpDue l (result != 0) }
  if result = 0 then s.bump (adr pCAL 0x13) else (s.bump (adr pCAL 0x14)).event pCAL 3

/-- Results that FP_COMMIT has staged for a lane and that its hold discards do not take effect (12 R302). -/
def State.dropCommit (s : State) (g : GroupIx) (l : LaneIx) : State :=
  let a := adr (pGRP g) 0x2B
  if (s.grp g).holdEnd = some 0 then s.setReg a (s.reg a &&& ~~~(1#32 <<< l.val)) else s

/-- A force-path hold of a lane ends at once, its result discarded, with ABORT (04 R112, 12 R302). -/
def State.abortHold (s : State) (g : GroupIx) (l : LaneIx) : State :=
  if lane (s.grp g).hold l then
    let s := (s.dropCommit g l).modG g fun gr => { gr with
      hold := setLane gr.hold l false, holdPts := [], holdSlots := 0, holdFrames := 0, holdRes := none, holdEnd := none }
    s.holdResult g l 3
  else s

/-- The last element that satisfies a test is replaced. -/
def replaceLast {α : Type} (p : α → Bool) (x : α) : List α → List α
  | [] => []
  | a :: r => if p a && !r.any p then x :: r else a :: replaceLast p x r

/-- Value word of a quad's event entry (R184, 11 R286). -/
def quadValue (g : GroupIx) (j : QuadIx) : Word := BitVec.ofNat 32 (quadNo g j)

/-- A cause of the same SEQ cycle that has a lower number is the one recorded: in QSTAT, the message and the event entry
(R183). -/
def State.lowerCause (s : State) (g : GroupIx) (j : QuadIx) (cause : Nat) : State :=
  let was := (s.quad g j).cause.toNat
  let src := srcGRP g
  let old := msgWord src kQUAD (quadNo g j + was <<< 8)
  let new : Msg := { word := msgWord src kQUAD (quadNo g j + cause <<< 8) }
  let q := tget [] s.flt.queues src
  let s := { s with flt := { s.flt with queues := tset [] s.flt.queues src (replaceLast (fun m => m.word == old) new q) } }
  let s := s.amendEvent (selGroup g) (BitVec.ofNat 32 (4 + was <<< 8)) (BitVec.ofNat 32 (4 + cause <<< 8)) (quadValue g j)
  s.modQ g j fun q => { q with cause := BitVec.ofNat 4 cause }

/-- A quad fault (R184): CUTOFF on channel 4q, the step ends with FAULT, the message and the event. An idle, done
or refused quad has nothing to fault (R172); of several causes in one SEQ cycle the lowest is recorded (R183). -/
def State.quadFault (s : State) (g : GroupIx) (j : QuadIx) (cause : Nat) : State :=
  let q := s.quad g j
  let now := s.rootNow / 16
  if q.st = .running ∨ q.st = .ending ∨ q.st = .paused then
    let s := s.modQ g j fun q => { q.endStep 5 with
      st := .faulted, cause := BitVec.ofNat 4 cause, faultAt := some now, pulse := false, wait := false }
    let s := s.actGang g (quadLane j 0) .cutoff
    let s := s.bump (adr (pGRP g) 0x3D)
    let s := s.raise (srcGRP g) kQUAD (quadNo g j + cause <<< 8)
    s.groupEvent g (chanNo g (quadLane j 0)) 4 cause (quadValue g j)
  else if q.st = .faulted ∧ q.faultAt = some now ∧ cause < q.cause.toNat then s.lowerCause g j cause
  else s

/-- Channel 4q has changed: a running or ending quad that lost its link faults with cause LINK (R183). -/
def State.checkLink (s : State) (g : GroupIx) (l : LaneIx) : State :=
  let j := quadOf l
  let q := s.quad g j
  if l = quadLane j 0 ∧ (q.st = .running ∨ q.st = .ending) ∧ s.mode ≠ .mirror ∧
      (s.chan g l).fe.linkedPi = false then s.quadFault g j 10
  else s

/-- A safe-path action on one channel, with what follows from it in a quad and in a hold. -/
def State.act (s : State) (g : GroupIx) (l : LaneIx) (a : SafeAction) : State :=
  let s := s.actRaw g l a
  let s := if a = .disconnect then s.abortHold g l else s
  s.checkLink g l

/-- An action on every lane of a mask, ascending. -/
def State.actMask (s : State) (g : GroupIx) (m : LaneMask) (a : SafeAction) : State :=
  (lanesOf m).foldl (fun s l => s.act g l a) s

/-- An action on every channel of the unit. -/
def State.actAll (s : State) (a : SafeAction) : State := s.eachG fun s g => s.actMask g 0xFFFF a

/-! ## Comparators (R67 to R73) -/

/-- Mode acting (R69): 5 to 7 act as OFF. -/
def Comparator.acting (c : Comparator) : Nat := if c.mode.toNat ≤ 4 then c.mode.toNat else 0

/-- A comparator of a channel; `low` selects the low one. -/
def FrontEnd.cmp (fe : FrontEnd) (low : Bool) : Comparator := if low then fe.lo else fe.hi

/-- A comparator changed. -/
def FrontEnd.modCmp (fe : FrontEnd) (low : Bool) (f : Comparator → Comparator) : FrontEnd :=
  if low then { fe with lo := f fe.lo } else { fe with hi := f fe.hi }

/-- High half of CMP_LATCH from the channels. -/
def Group.hiLatch (g : Group) : LaneMask := maskOf fun l => (g.ch l).fe.hi.latch

/-- Low half of CMP_LATCH. -/
def Group.loLatch (g : Group) : LaneMask := maskOf fun l => (g.ch l).fe.lo.latch

/-- CMP_LATCH (R79). -/
def State.cmpLatch (s : State) (g : GroupIx) : Word := (s.grp g).loLatch ++ (s.grp g).hiLatch

/-- CMP_QUAL (R73). -/
def State.cmpQual (s : State) (g : GroupIx) : Word :=
  (maskOf fun l => ((s.grp g).ch l).fe.lo.qualified) ++ (maskOf fun l => ((s.grp g).ch l).fe.hi.qualified)

/-- GE_IRQ_PEND (05 R154). -/
def State.irqPend (s : State) (g : GroupIx) : Word := s.cmpLatch g &&& s.reg (adr (pGRP g) 0x34)

/-- Rises already taken are forgotten where the pending bit has fallen (05 R148). -/
def State.irqSettle (s : State) (g : GroupIx) : State :=
  let p := s.irqPend g
  s.modG g fun gr => { gr with irqSeen := gr.irqSeen &&& p }

/-- SEQ cycle of a root count. -/
def seqCycleOf (root : Nat) : Nat := root / 16

/-- A latch bit clears, with the hold of a LIMIT trip (R71, R73). -/
def Comparator.clear (c : Comparator) : Comparator := { c with latch := false, limit := false }

/-- Latch bits of the lanes of two masks clear. -/
def State.clearLatches (s : State) (g : GroupIx) (hi lo : LaneMask) : State :=
  let s := s.modG g fun gr => gr.modLanes (hi ||| lo) fun l c =>
    { c with fe := { c.fe with hi := if lane hi l then c.fe.hi.clear else c.fe.hi,
                               lo := if lane lo l then c.fe.lo.clear else c.fe.lo } }
  s.irqSettle g

/-- Root cycles of the die-to-die link in each direction: 20 ns (01 R6). -/
def linkDelay : Nat := 64

/-- A clear of latch bits is issued; it acts in the SEQ cycle in which it reaches the tile, and a trip of that cycle comes
after it (R71). -/
def State.issueClear (s : State) (g : GroupIx) (hi lo : LaneMask) : State :=
  s.modG g fun gr => { gr with clears := gr.clears ++ [⟨seqCycleOf (s.rootNow + linkDelay), hi, lo⟩] }

/-- A comparator set to OFF: not tripped, unqualified (R72); its latch bit stays. -/
def Comparator.off (c : Comparator) : Comparator :=
  { c with mode := 0, tripped := false, blanking := false, qualified := false }

/-- Root cycles of a blanking code: BLANK × 5 ns, a code above 2,048 acting as 2,048 (R70). -/
def blankTime (code : Nat) : Nat := 16 * min code 2048

/-- Blanking code of a comparator in CPM word 0x0D (R70, R78). -/
def State.blankCode (s : State) (g : GroupIx) (l : LaneIx) (low : Bool) : Nat :=
  fld (s.cpmL g l 0x0D) (if low then 16 else 0) 12

/-- A threshold set loaded from its CPM word at root count `now`, with its blanking time in root cycles; the blanking timer
restarts, the latch stays (R70, R78). DEDUCED (log entry 96): the blanking code is loaded with the set. -/
def Comparator.load (now blank : Nat) (c : Comparator) (w : Word) : Comparator :=
  let c := { c with thr := w.extractLsb' 0 16, hyst := w.extractLsb' 16 7, mode := w.extractLsb' 24 3,
                    swClear := bit w 27, fromI := bit w 28, blank := blank }
  if c.acting = 0 then { c with tripped := false, blanking := false, qualified := false }
  else { c with blanking := c.tripped && c.qualified, blankTo := now + blank }

/-- The raw output changes at root count `now`; the first change is the first exit from the band, and blanking starts with
the trip (R68, R70, R72). -/
def Comparator.change (now : Nat) (c : Comparator) (tripped : Bool) : Comparator :=
  if c.acting = 0 then c
  else if c.tripped = tripped then { c with qualified := true }
  else { c with tripped := tripped, blanking := tripped, blankTo := now + c.blank, qualified := true }

/-- Whether the trip of a comparator can be qualified: blanking has run with the output tripped, in a mode that
latches (R69, R70, R72). -/
def Comparator.canTrip (c : Comparator) : Bool :=
  decide (2 ≤ c.acting) && c.tripped && c.blanking && c.qualified

/-- A qualified trip: the latch, the event entry, and the action of its mode (R69, R71, R77). In MIRROR, LIMIT and
CUTOFF act as MONITOR (17 R422). -/
def State.tripQualified (s : State) (g : GroupIx) (l : LaneIx) (low : Bool) : State :=
  let c := ((s.chan g l).fe.cmp low)
  if c.canTrip then
    let isLimit := c.acting == 3 && s.mode != .mirror
    let s := s.modFe g l fun fe =>
      { fe.modCmp low (fun c => { c with latch := true, limit := c.limit || isLimit, blanking := false }) with trips := fe.trips + 1 }
    let s := s.feEvent g l 5 (!low)
    if isLimit then s.actMask g (s.gang g l) .disconnect
    else if c.acting = 4 ∧ s.mode ≠ .mirror ∧ l ≠ quadLane (quadOf l) 0 then
      let s := s.actGang g (quadLane (quadOf l) 0) .cutoff
      s.quadFault g (quadOf l) 5
    else s
  else s

/-- A relay enters OPEN or CLOSED (R64). -/
def execRelaySettled (g : GroupIx) (l : LaneIx) (s : State) : Host.Outcome State Fault Refusal := .next <|
  s.modFe g l fun fe => { fe with relay := { fe.relay with st :=
    match fe.relay.st with
    | .closing => .closed
    | .opening => .opened
    | .closed => .closed
    | .opened => .opened } }

/-- Marks the channels whose LIMIT latch has just cleared, with the other members of their gangs, which the trip
disconnected with them, for the restore of R73; CONFIGURE only. -/
def State.markRestore (s : State) (g : GroupIx) (was : LaneMask) : State :=
  if s.mode = .configure then
    let freed := (lanesOf was).filter fun l => !(s.chan g l).fe.limitHeld
    let m := maskOf fun k => freed.any fun l => lane (s.gang g l) k
    s.modG g fun gr => gr.modLanes m fun _ c => { c with fe := { c.fe with restore := true } }
  else s

/-- Lanes held disconnected by their own LIMIT latch. -/
def Group.limitMask (g : Group) : LaneMask := maskOf fun l => (g.ch l).fe.limitHeld

/-- Latch bits clear, and a restore of R73 is marked. -/
def State.clearAndMark (s : State) (g : GroupIx) (hi lo : LaneMask) : State :=
  let was := (s.grp g).limitMask
  (s.clearLatches g hi lo).markRestore g was

/-- The clears of a group that have reached the tile act (R71). -/
def State.clearsArrive (s : State) (g : GroupIx) : State :=
  let l := (s.grp g).clears
  let here (c : LatchClear) : Bool := decide (c.arrives ≤ seqCycleOf s.rootNow)
  if l.any here then
    (l.filter here).foldl (fun s c => s.clearAndMark g c.hi c.lo)
      (s.modG g fun gr => { gr with clears := l.filter fun c => !here c })
  else s

/-- A write of CMP_CLR (R71). -/
def State.cmpClrWrite (s : State) (g : GroupIx) (v : Word) : State :=
  s.issueClear g (v.setWidth 16) (v.extractLsb' 16 16)

/-- A write of `GRP[g].CMP_CLR`. -/
def execCmpClrWrite (g : GroupIx) (v : Word) (s : State) : Host.Outcome State Fault Refusal :=
  .next (s.cmpClrWrite g v)

/-- A write of a GANG register: CONFIGURE, not one lane, no overlap (R59). The members of a gang run in range 4 (R60). DESIGN
CHOICE (log entry 97): a lane that leaves a gang stays in range 4 until its next force operation or record. -/
def State.gangWrite (s : State) (g : GroupIx) (k : Fin 4) (v : Word) : State :=
  let m : LaneMask := v.setWidth 16
  let others := ((below 4).filter (· != k)).map fun i => (s.reg (adr (pGRP g) (0x18 + i.val))).setWidth 16
  if s.mode = .configure ∧ countLanes m ≠ 1 ∧ others.all (fun (o : LaneMask) => o &&& m == 0) = true then
    let s := s.setReg (adr (pGRP g) (0x18 + k.val)) (m.setWidth 32)
    let now := s.rootNow
    s.modG g fun gr => gr.modLanes m fun _ c =>
      { c with fe := { c.fe with stage := Stage.rangeMoved now c.fe.stage { c.fe.stage with range := 4 } } }
  else
    (s.refuse (pGRP g)).groupEvent g 0 3 4 (BitVec.ofNat 32 (k.val + m.toNat <<< 16))

/-- A write of a GANG register. -/
def execGangWrite (g : GroupIx) (k : Fin 4) (v : Word) (s : State) : Host.Outcome State Fault Refusal :=
  .next (s.gangWrite g k v)

end Sys2Proof.Machine
end

