-- ==== Sys2Proof/Machine/Stop.lean ====
section
/-! DEFINITION. What ends work: the cancellation of a pass, the abandonment of a routine, group stops, entry to SAFE (02
R38, 05 R144 to R149, 14 R354, R355); and how SEQ cycles pass, with what acts at its own cycle (05 R130, R142, R148, 03 R71). -/

namespace Sys2Proof.Machine

open Sys2Proof

/-! ## Converter slices -/

/-- Slice that serves a lane (04 R105). -/
def Group.sliceIx (g : Group) (l : LaneIx) : Fin 17 := g.tb.serve[l]

/-- Slice that serves a lane. -/
def Group.slice (g : Group) (l : LaneIx) : Slice := g.slices[g.sliceIx l]

/-- The slice that serves a lane changed. -/
def Group.modSlice (g : Group) (l : LaneIx) (f : Slice → Slice) : Group :=
  { g with slices := vmod g.slices (g.sliceIx l) f }

/-- Whether a start is pending for a lane's slice on its way there (04 R91). -/
def Measure.startWaits (m : Measure) : Bool := !m.waitS.isEmpty || !m.waitU.isEmpty || !m.waitP.isEmpty

/-- A job leaves its slice: a waiting start begins at once, or the slice powers down unless a start is pending
for it (04 R91, R94). -/
def Slice.finish (keep : Bool) (sl : Slice) : Slice :=
  match sl.next with
  | some j => { sl with job := some j, next := none }
  | none => { sl with job := none, powered := sl.powered && keep, warming := sl.warming && keep }

/-- A slice that nothing runs on and no start is pending for powers down (04 R91). -/
def Slice.settle (keep : Bool) (sl : Slice) : Slice :=
  if sl.job.isNone && sl.next.isNone && !keep then { sl with powered := false, warming := false } else sl

/-- The slice of a lane after a start for it has been dropped. -/
def Group.settleSlice (g : Group) (l : LaneIx) : Group := g.modSlice l (Slice.settle (g.ch l).ms.startWaits)

/-- The job of a lane's slice leaves it. -/
def Group.finishJob (g : Group) (l : LaneIx) : Group :=
  g.modSlice l (Slice.finish (g.ch l).ms.startWaits)

/-- Whether a job is CONTINUOUS (04 R86); an urgent request never is (04 R93). -/
def Job.continuous (j : Job) : Bool := j.mode == 2 && j.kind == .scheduled

/-- Every CONTINUOUS conversion that satisfies a test stops (04 R88). -/
def Group.stopCont (g : Group) (p : Job → Bool) : Group :=
  (below 16).foldl (fun g l =>
    match (g.slice l).job with
    | some j => if j.continuous && p j then g.finishJob l else g
    | none => g) g

/-- Source acting on a lane (04 R81, R82): 5 to 7 act as VNODE, DIFF on lane 15 too. -/
def srcActing (src : BitVec 3) (l : LaneIx) : Nat :=
  if src.toNat = 2 ∧ l.val = 15 then 0 else if 5 ≤ src.toNat then 0 else src.toNat

/-- Coefficient words of a source in a stage range, a gang's lanes in range 4 (04 R114, 03 R60): gain word; the offset
follows it. -/
def coefWord (src : Nat) (range : BitVec 3) (gang : Bool) : Nat :=
  if src = 1 then (if gang then 0x2A else 0x22 + 2 * (min range.toNat 4)) else if src = 2 then 0x2E else 0x2C

/-- What holds on a lane now for a sample of a source (04 R83, R114). -/
def State.sampling (s : State) (g : GroupIx) (l : LaneIx) (src : BitVec 3) (edge : Option Nat) : Sampling :=
  let sl := (s.grp g).slice l
  let k := srcActing src l
  let range := (s.chan g l).fe.stage.range
  let w := coefWord k range (s.ganged g l)
  { edge := edge, src := k, range := range, gain := sl.gain, ofs := sl.ofs,
    cg := (s.coef g l w).setWidth 24, co := (s.coef g l (w + 1)).setWidth 24 }

/-- A conversion that is not CONTINUOUS begins its next sample at once on a slice that is up (04 R91, R94); in a hold it takes
none of the channel's sources (04 R111). -/
def State.beginSample (s : State) (g : GroupIx) (l : LaneIx) : State :=
  let sl := (s.grp g).slice l
  match sl.job with
  | none => s
  | some j =>
    if j.continuous || sl.warming || j.take.isSome || lane (s.grp g).hold l then s
    else
      let k := s.sampling g l j.src none
      s.modG g fun gr => gr.modSlice l fun sl => { sl with job := some { j with take := some k } }

/-! ## Time stampers -/

/-- Root count at which LEN closes the window; none where LEN is 0 (09 R244). -/
def Stamper.lenEnd (t : Stamper) : Option Nat := if t.len = 0 then none else some (t.openAt + 16 * t.len.toNat)

/-- Whether the window is open at a root count: opened, and LEN has not passed (09 R244). -/
def Stamper.isOpen (t : Stamper) (now : Nat) : Bool :=
  t.opened && t.lenEnd.all fun e => decide (now < e)

/-- Whether a root cycle is the one in which a CLOSE, LEN or a tick closes the window (09 R244). -/
def Stamper.closing (t : Stamper) (now : Nat) : Bool :=
  t.shutAt == some now || (t.opened && t.lenEnd == some now)

/-- A window that is open closes in this root cycle, which still takes stops (09 R244). -/
def Stamper.shut (now : Nat) (t : Stamper) : Stamper :=
  if t.isOpen now || t.closing now then { t with opened := false, shutAt := some now } else { t with opened := false }

/-- A CLOSE or a tick: nothing for a window that an OPEN has opened in the same SEQ cycle, since the CLOSE applies first, and
such a window belongs to the frame that begins (09 R244, R245). -/
def Stamper.close (now : Nat) (t : Stamper) : Stamper := if t.openAt = now then t else t.shut now

/-- A CLEAR: a stop accepted in the same SEQ cycle is kept, since the clear applies first (09 R247). -/
def Stamper.clear (now : Nat) (t : Stamper) : Stamper :=
  { t with fifo := t.fifo.filter fun x => decide (8 * now ≤ x.at_), lost := false }

/-- Whether an operation opens a window. -/
def TileOp.opens : TileOp → Bool
  | .tdcOpen _ => true
  | .armPw _ | .disarmPw | .adcRead | .tdcClose | .tdcRead | .tdcClear | .restore _ => false

/-- Whether an operation arms a pulse-width start. -/
def TileOp.arms : TileOp → Bool
  | .armPw _ => true
  | .disarmPw | .adcRead | .tdcOpen _ | .tdcClose | .tdcRead | .tdcClear | .restore _ => false

/-- The windows of a group close, with nothing accepted in the cycle (09 R244), those with them whose OPEN is still on its way
(log entry 118). -/
def Group.shutWindows (g : Group) : Group :=
  { g.modLanes 0xFFFF fun _ c => { c with td := { c.td with opened := false, shutAt := none } } with
    sends := g.sends.filter fun x => !x.op.opens }

/-! ## Cancellation of a pass (05 R146) -/

/-- Conversions, arms and starts of one pass are cancelled in a lane; results on their way are discarded. -/
def Group.cancelLane (p : Nat) (g : Group) (l : LaneIx) : Group :=
  let mine (o : Option Job) : Option Job := o.bind fun j => if j.pass = p then none else some j
  let others (j : Job) : Bool := j.pass != p
  let g := g.modC l fun c => { c with ms := { c.ms with
    waitS := c.ms.waitS.filter others, waitU := c.ms.waitU.filter others, waitP := c.ms.waitP.filter others,
    pw := c.ms.pw.bind (fun a => if a.job.pass = p then none else some a),
    arrivals := c.ms.arrivals.filter fun a => !(a.started && a.pass == p) } }
  let g := g.modSlice l fun sl => { sl with next := mine sl.next }
  match (g.slice l).job with
  | some j => if j.pass = p then g.finishJob l else g
  | none => g.settleSlice l

/-- Windows of the pass close and discard the stamps they accepted (09 R248). DESIGN CHOICE (log entry 79): stamps of a
window of the pass that had closed before are discarded with them, so that a repeated pass sees only its own. -/
def Stamper.cancel (p : Nat) (t : Stamper) : Stamper :=
  { t with opened := t.opened && t.pass != p, shutAt := if t.pass = p then none else t.shutAt,
           fifo := t.fifo.filter fun x => x.pass != p }

/-- The group's burst or attachment started by the pass ends (07 R202). Followers of a cancelled owner's burst
return to pending. -/
def State.cancelPattern (s : State) (g : GroupIx) (p : Nat) : State :=
  let pg := (s.grp g).pat
  if pg.pass = p then
    let st := s.streams[pg.stream]
    match pg.att with
    | .idle => s
    | .pending _ => s.modG g fun gr => { gr with pat := { gr.pat with att := .idle, done := true } }
    | .attached =>
      if st.owner = g ∧ st.oPass = p ∧ (st.st = .running ∨ st.st = .underrun) then
        s.modSt pg.stream fun x => { x with stop := true, requeue := true }
      else s.modG g fun gr => { gr with pat := { gr.pat with detach := true } }
  else s

/-- Whether an operation under way starts a window or an arm of a pass. -/
def TileOp.ofPass (p : Nat) : TileOp → Bool
  | .armPw j => j.pass == p
  | .tdcOpen q => q == p
  | .disarmPw | .adcRead | .tdcClose | .tdcRead | .tdcClear | .restore _ => false

/-- Everything the pass started and that has not ended is cancelled, its OPENs and ARM_PWs on their way to the tile with it
(log entry 118). -/
def State.cancelPass (s : State) (g : GroupIx) (p : Nat) : State :=
  let s := s.modG g fun gr => { (below 16).foldl (Group.cancelLane p) gr with
    sends := gr.sends.filter fun x => !x.op.ofPass p }
  let s := (below 16).foldl (fun s l => s.beginSample g l) s
  let s := s.modG g fun gr => gr.modLanes 0xFFFF fun _ c => { c with td := c.td.cancel p }
  s.cancelPattern g p

/-! ## Group stop (02 R38, 05 R149) -/

/-- Captures ARMED, PRE or POST end ABORTED (10 R262). -/
def State.abortCapture (s : State) (g : GroupIx) : State :=
  let a := (s.grp g).acq
  if a.st = .armed ∨ a.st = .pre ∨ a.st = .post then
    (s.modG g fun gr => { gr with acq := { gr.acq with
      st := .aborted, sums := [], kept := if gr.acq.trigPt.isSome then gr.acq.kept else min gr.acq.point gr.acq.pre } }).event (pACQ g) 2
  else s

/-- The group's pattern activity ends with a group stop, a STOP or SAFE (07 R201). -/
def State.endPattern (s : State) (g : GroupIx) : State :=
  let pg := (s.grp g).pat
  match pg.att with
  | .idle => s
  | .pending _ => s.modG g fun gr => { gr with pat := { gr.pat with att := .idle, done := true } }
  | .attached =>
    if s.streams[pg.stream].owner = g then s.modSt pg.stream fun x => { x with stop := true }
    else s.modG g fun gr => { gr with pat := { gr.pat with detach := true } }

/-- The waveform source is forced to FAULT_CODE; a STOP already received still takes effect at its tick (08 R231, R232). -/
def State.wavFault (s : State) (g : GroupIx) : State :=
  let code : BitVec 14 := (s.reg (adr (pWAV g) 0x14)).setWidth 14
  s.modG g fun gr => { gr with wav := { gr.wav with st := .fault, out := code } }

/-- The engine's routine stops at once; the staging buffer of an uncommitted routine is discarded (05 R144). The
registers and the stack keep what they hold, for inspection (05 R154). -/
def Group.haltEngine (g : Group) : Group :=
  if g.eng.running then
    let e := g.eng
    { g with
      staging := if e.committed then g.staging else [],
      eng := { e with running := false, committed := false, shown := e.regs.x, lastPc := e.here, spent := false,
                      abDue := false, postLoss := false, restoring := false } }
  else g

/-- SEQ cycles a routine has used by the end of the present one (05 R142). -/
def Engine.usedCycles (e : Engine) : Nat := if e.running then e.cycles + 1 else 0

/-- Every hold of the group ends with ABORT, and no hold is requested (12 R302). -/
def State.abortHolds (s : State) (g : GroupIx) : State :=
  let s := (lanesOf (s.grp g).hold).foldl (fun s l => s.abortHold g l) s
  s.modG g fun gr => { gr with holdReq := none }

/-- The actions of R38 on a group, with the fault kind and microword address it records. -/
def State.groupActions (s : State) (g : GroupIx) (kind addr : Nat) : State :=
  let s := s.use (some g) 0 (s.grp g).eng.cls.val (s.grp g).eng.usedCycles
  let s := s.modG g fun gr =>
    { (((gr.haltEngine).stopCont fun _ => true).shutWindows) with
      slots := Vector.replicate 8 {}, leaving := Vector.replicate 8 none, due := [], gstop := true }
  let s := s.actMask g 0xFFFF .safeState
  let s := ((s.endPattern g).abortCapture g).wavFault g
  let s := s.abortHolds g
  let s := s.setReg (adr (pGRP g) 0x33) (BitVec.ofNat 32 (kind <<< 16 + addr))
  s.groupEvent g 0 2 kind (BitVec.ofNat 32 addr)

/-- A group stop by the engine itself: its fault, the event entries and the actions (R38, R149). -/
def State.groupStop (s : State) (g : GroupIx) (kind : Nat) (addr : BitVec 12) : State :=
  let s := s.raiseActed (srcGRP g) kind addr.toNat
  let s := if kind = kCYCLE_GUARD then
      (s.event pESC 3).groupEvent g 0 1 0x10 (BitVec.ofNat 32 (s.grp g).eng.slot.val)
    else s
  s.groupActions g kind addr.toNat

/-! ## Abandonment (05 R145 to R148) -/

/-- Whether a group is attached to a running burst (11 R279). -/
def State.inBurst (s : State) (p : PatGroup) : Bool := p.att == .attached && s.streams[p.stream].st == .running

/-- What the word of a SEQ cycle reads: the group as it stands at the start of the cycle (R123). -/
def State.latchView (s : State) (g : GroupIx) : State :=
  let irq := s.irqPend g != 0
  s.modG g fun gr => { gr with eng := { gr.eng with view :=
      { regs := gr.eng.regs, fresh := maskOf (fun l => (gr.ch l).ms.fresh), hiL := gr.hiLatch, loL := gr.loLatch,
        timers := gr.eng.timers, patDone := gr.pat.done, fails := gr.pat.fails,
        stamps := maskOf (fun l => !(gr.ch l).td.fifo.isEmpty),
        settled := maskOf (fun l => !(gr.ch l).fe.relay.st.moving), chans := gr.chans, quads := gr.quads,
        pat := gr.pat, burst := s.inBurst gr.pat, irq := irq, hold := gr.hold } } }

/-- Whether the parity of a stored microword is wrong (R120). -/
def State.ucBad (s : State) (g : GroupIx) (a : Nat) : Bool :=
  let w := s.uc g a
  ucParity (ucBits w) != w.extractLsb' 192 24

/-- The word at the engine's address is fetched: a parity error stops the group (R120, R149). -/
def State.fetch (s : State) (g : GroupIx) : State :=
  let e := (s.grp g).eng
  if e.running && s.ucBad g e.pc.toNat then (s.parityError 0 e.pc.toNat).groupStop g kGE_PARITY e.pc else s

/-- Registers at release come back: X, flags and LC; the cycle that was under way is over and the restore cycle
follows it (R146). -/
def Engine.restore (e : Engine) : Engine :=
  { e with regs := e.rel, stack := [], timers := Vector.replicate 4 .stopped, pc := e.entry + 1, lastPc := e.here,
           restarts := e.restarts + 1, pass := e.pass + 1, restoring := true, spent := true,
           abDue := false, postLoss := false, lcLoaded := false, after := 0 }

/-- The routine is abandoned at the end of the present cycle: restored for another pass, or the group stops with
RESTART_LIMIT (R146, R147). -/
def State.abandonNow (s : State) (g : GroupIx) : State :=
  let e := (s.grp g).eng
  if e.rst.toNat ≤ e.restarts.toNat then s.groupStop g kRESTART_LIMIT e.here
  else
    let s := s.cancelPass g e.pass
    let s := s.modG g fun gr => { gr with staging := [], eng := gr.eng.restore }
    (s.bump (adr (pGRP g) 0x36)).fetch g

/-- An abandoning event reaches the engine. One that falls in the restore cycle belongs to the abandonment
already made; one that comes before the cycle's word has been executed acts at its end, as the word's operations
are issued; a committed routine ends first, and a loss then stops the group (R146, R148). -/
def State.abandonEvent (s : State) (g : GroupIx) (loss : Bool) : State :=
  let e := (s.grp g).eng
  if e.running = false ∨ e.restoring = true then s
  else if e.committed then (if loss then s.modE g fun e => { e with postLoss := true } else s)
  else if e.spent then s.abandonNow g
  else s.modE g fun e => { e with abDue := true, postLoss := e.postLoss || loss }

/-- A CPM parity error on a read by the engine (R145, 11 R293): counted, reported, and the routine abandoned. -/
def State.cpmParity (s : State) (g : GroupIx) (a : Nat) : State :=
  let s := s.parityError 2 a
  let s := s.raise (srcGRP g) kCPM_PARITY 0
  s.abandonEvent g true

/-- Words of a lane that an operation reads: each with wrong parity is reported, and the operation then does nothing on the
lane (R145, 11 R293). -/
def State.readCpm (s : State) (g : GroupIx) (l : LaneIx) (ws : List Nat) (f : State → State) : State :=
  let bad := (ws.map fun w => 64 * l.val + w).filter (s.cpmBad g)
  if bad.isEmpty then f s else bad.foldl (fun s k => s.cpmParity g k) s

/-! ## Operations at the tile (01 R6; 04 R92, R97; 09 R242 to R247) -/

/-- Operations are issued to the lanes of a mask; each acts where it reaches the tile, 20 ns after the SEQ edge (01 R6). -/
def State.send (s : State) (g : GroupIx) (m : LaneMask) (op : TileOp) : State :=
  s.modG g fun gr => { gr with sends := gr.sends ++ (lanesOf m).map fun l => ⟨s.rootNow + linkDelay, l, op⟩ }

/-- Values start on their way from the tile to a lane's result latch (05 R132). -/
def State.sendBack (s : State) (g : GroupIx) (l : LaneIx) (a : Arrival) : State :=
  s.modMs g l fun x => { x with arrivals := x.arrivals ++ [a] }

/-- ARM_PW at the tile copies PW_EVT and PW_WIDTH (04 R92). -/
def State.armPw (s : State) (g : GroupIx) (l : LaneIx) (j : Job) : State :=
  s.readCpm g l [0x12, 0x13] fun s =>
    let a : PwArm := { evt := s.cpmL g l 0x12, width := s.cpmL g l 0x13, job := j }
    s.modMs g l fun x => { x with pw := some a }

/-- READ takes the latest block and its count as the slice holds them (04 R97). -/
def State.adcRead (s : State) (g : GroupIx) (l : LaneIx) : State :=
  let x := (s.chan g l).ms
  s.sendBack g l { l0 := x.block, l1 := some (x.blockCnt.setWidth 32), ovr := x.blockOvr, started := false }

/-- A window opens or reopens at a root count, with copies of TDC_CFG and TDC_WIN (09 R242, R244, R245). -/
def State.tdcOpen (s : State) (g : GroupIx) (l : LaneIx) (now pass : Nat) : State :=
  s.readCpm g l [0x30, 0x31] fun s =>
    let cfg := s.cpmL g l 0x30
    let len : BitVec 24 := (s.cpmL g l 0x31).setWidth 24
    s.modTd g l fun t => { t with
      opened := true, pass := pass, cfg := cfg, len := len, presc := 0, count := 0, acc := 0, openAt := now, shutAt := none }

/-- What a READ of an empty buffer writes (09 R247). -/
def emptyStamp (l : LaneIx) : BitVec 64 := BitVec.ofNat 64 (l.val <<< 60 + 1 <<< 46)

/-- READ removes the oldest stamp (09 R247). -/
def State.tdcRead (s : State) (g : GroupIx) (l : LaneIx) : State :=
  let st := match (s.chan g l).td.fifo with
    | x :: _ => x.word
    | [] => emptyStamp l
  let s := s.modTd g l fun t => { t with fifo := t.fifo.drop 1 }
  s.sendBack g l { l0 := st.setWidth 32, l1 := some (st.extractLsb' 32 32), started := false }

/-- A takeover's restored state, range and setpoint reach a stage: of a unit that still drives, and a channel that no LIMIT trip
holds; a node that the driver owns keeps its stage in HIZ (17 R424, R425; 03 R66, R73). -/
def State.restoreStage (s : State) (g : GroupIx) (l : LaneIx) (c : ChannelSnap) : State :=
  s.modFe g l fun fe =>
    if s.drives && !fe.limitHeld then
      { fe with stage := { fe.stage with
          st := if fe.outSel then .hiz else c.stage, range := c.range, code := c.code, link := c.link } }.settle s.rootNow
    else fe

/-- An operation has reached the tile. -/
def State.tileAct (s : State) (g : GroupIx) (x : TileSend) : State :=
  match x.op with
  | .armPw j => s.armPw g x.lane j
  | .disarmPw => s.modMs g x.lane fun m => { m with pw := none }
  | .adcRead => s.adcRead g x.lane
  | .tdcOpen pass => s.tdcOpen g x.lane x.arrives pass
  | .tdcClose => s.modTd g x.lane (Stamper.close x.arrives)
  | .tdcRead => s.tdcRead g x.lane
  | .tdcClear => s.modTd g x.lane (Stamper.clear x.arrives)
  | .restore c => s.restoreStage g x.lane c

/-- The operations of a group that have reached the tile act, in the order in which they were issued (01 R6). -/
def State.sendsArrive (s : State) (g : GroupIx) : State :=
  let l := (s.grp g).sends
  let here (x : TileSend) : Bool := decide (x.arrives ≤ s.rootNow)
  if l.any here then
    (l.filter here).foldl (fun s x => s.tileAct g x) (s.modG g fun gr => { gr with sends := l.filter fun x => !here x })
  else s

/-! ## Time (02 R38, 05 R130, R142, R148; 09 R236) -/

/-- SEQ cycles pass in the frame with nothing due in them: the position, the root count, the engines' counts and
timers, clears and operations on their way; a word then reads the state at the start of its cycle. -/
def State.flow (s : State) (n : Nat) : State :=
  if n = 0 then s
  else
    let s := { s with
      esc := { s.esc with pos := s.esc.pos + BitVec.ofNat 28 n, root := s.esc.root + BitVec.ofNat 64 (16 * n) },
      groups := vmap (fun g : Group => { g with eng := g.eng.flow n }) s.groups,
      stores := vmap (fun t : GroupStores => { t with cpmWas := [], tblWas := [] }) s.stores }
    s.eachG fun s g =>
      let s := (s.clearsArrive g).sendsArrive g
      if (s.grp g).eng.running then s.latchView g else s

/-- Cycles in which an abandoning event came and whose word has not been sent are over (R146). -/
def State.endCycles (s : State) : State :=
  s.eachG fun s g =>
    let e := (s.grp g).eng
    if e.running && e.abDue then s.abandonNow g else s

/-- SEQ cycles to the first limit of a running routine. -/
def State.toLimit (s : State) : Option Nat :=
  s.groups.toList.foldl (fun m g =>
    match m, g.eng.toLimit with
    | none, x => x
    | some a, none => some a
    | some a, some b => some (min a b)) none

/-- The engine as it stood in the cycle just over. -/
def Engine.back (e : Engine) : Engine := { e with spent := true, cycles := e.cycles - 1 }

/-- The limits that have been reached: the guard, at the word of the cycle just over; the 65th cycle after the COMMIT
word, at its own word (02 R38, 05 R148, R149). -/
def State.fireLimits (s : State) : State :=
  s.eachG fun s g =>
    let e := (s.grp g).eng
    if e.running && decide (e.w.toNat ≤ e.cycles) then (s.modE g Engine.back).groupStop g kCYCLE_GUARD e.lastPc
    else if e.running && e.committed && decide (65 ≤ e.after) then s.groupStop g kCOMMIT_LEN e.pc
    else s

/-- n SEQ cycles pass, the limits of running routines acting at their instants; `fuel` bounds how many. -/
def State.advanceFor : Nat → Nat → State → State
  | 0, n, s => s.flow n
  | fuel + 1, n, s =>
    if n = 0 then s
    else
      let s := s.endCycles
      match s.toLimit with
      | none => s.flow n
      | some k => if k ≤ n then State.advanceFor fuel (n - k) (s.flow k).fireLimits else s.flow n

/-- n SEQ cycles of the frame pass, corrected words being written back in the first (11 R292); each of the 64 engines meets at
most one limit. -/
def State.advance (s : State) (n : Nat) : State := if n = 0 then s else State.advanceFor 65 n s.writeBack

/-- Time passes to a SEQ cycle of this frame that is still ahead (09 R236). -/
def State.passTo (s : State) (cycle : Nat) : State := s.advance (cycle - s.esc.pos.toNat)

/-- n SEQ cycles pass if they lie in this frame (02 R21: a tick ends the frame). -/
def State.within (s : State) (n : Nat) : State := if s.esc.pos.toNat + n < s.frameCycles then s.advance n else s

/-- SEQ cycles from now to the one in which a root count has been reached. -/
def State.cyclesTo (s : State) (root : Nat) : Nat := (root - s.rootNow + 15) / 16

/-- A trip is qualified: time passes to the end of blanking, and the trip takes effect where the output is still tripped
and the instant lies in this frame (03 R70). The tile needs no clock for it: while the root stands the row itself is the end of
blanking (01 R7). -/
def State.blankEnd (s : State) (g : GroupIx) (l : LaneIx) (low : Bool) : State :=
  if s.rootRuns then
    let c := (s.chan g l).fe.cmp low
    let s := if c.canTrip then s.within (s.cyclesTo c.blankTo) else s
    if c.blankTo ≤ s.rootNow then s.tripQualified g l low else s
  else s.tripQualified g l low

/-- A qualified trip (03 R70). -/
def execTripQualified (g : GroupIx) (l : LaneIx) (low : Bool) (s : State) : Host.Outcome State Fault Refusal :=
  .next (s.blankEnd g l low)

/-- In CONFIGURE, a channel whose LIMIT latch has cleared goes back to its power-up record: the first event, with
the relay settled, moves the relay and, where it already holds the RELAY value, applies the values; the
event after the motion applies them (R73). DESIGN CHOICE (log entry 77): a gang member takes its leader's force and driver
values and its own RELAY value; where both beams are retired the values apply with the relay open. In a unit that may not drive
only the relay moves (17 R414). -/
def State.limitRestore (s : State) (g : GroupIx) (l : LaneIx) : State :=
  let fe := (s.chan g l).fe
  if s.mode = .configure ∧ fe.restore = true ∧ s.limitHeld g l = false ∧ fe.relay.st.moving = false ∧
      (s.grp g).failed = false then
    let r := (s.chan g (s.leader g l)).fe.puRec
    let want := recRelay fe.puRec
    if (fe.relay.st == .closed) == want || (want && (s.nextBeam g l).isNone) then
      s.modFe g l fun fe =>
        { (if s.drives then fe.applyRecord s.rootNow true (s.ganged g l) r else fe) with restore := false }
    else s.relayTo g l want
  else s

/-- SEQ cycles to the one in which the last clear under way in a group reaches the tile. -/
def State.toClears (s : State) (g : GroupIx) : Nat :=
  (s.grp g).clears.foldl (fun n c => max n (c.arrives - seqCycleOf s.rootNow)) 0

/-- LIMIT_RESTORE: clears on their way arrive first (R71, R73). -/
def execLimitRestore (g : GroupIx) (l : LaneIx) (s : State) : Host.Outcome State Fault Refusal :=
  .next ((s.within (s.toClears g)).limitRestore g l)

/-! ## SAFE (14 R354, R355) -/

/-- `GRP[g].ARM_STATUS` written (02 R47): TARGET and START_FRAME, slot, reason, DONE set. -/
def State.armStatus (s : State) (g : GroupIx) (target : Nat) (startFrame : Bool) (slot : Nat) (reason : Nat) : State :=
  s.setReg (adr (pGRP g) 0x09)
    (BitVec.ofNat 32 ((target % 65536) <<< 16 + b2n startFrame <<< 8 + 1 <<< 7 + slot <<< 4 + reason))

/-- Every slot of a group is emptied; ARM_STATUS shows the reason for the last of them (R355). -/
def State.emptySlots (s : State) (g : GroupIx) (reason : Nat) : State :=
  let held := (below 8).filter fun i => (s.grp g).slots[i].st != .empty
  let s := held.foldl (fun s i => s.armStatus g (s.regF (adr (pGRP g) 0x09) 16 16) (s.regB (adr (pGRP g) 0x09) 8) i.val reason) s
  s.modG g fun gr => { gr with slots := Vector.replicate 8 {}, leaving := Vector.replicate 8 none, due := [] }

/-- A mode is entered: PREV, the entry frame, CHANGED (R359). -/
def State.enterMode (s : State) (m : Mode) : State :=
  let now := if s.rootRuns then some s.rootNow else none
  let o := s.modes
  let was : ModeWas := { mode := o.mode, prev := o.prev, entry := o.entry, pend := o.pend, changed := (s.hdr pMODE).evt.getLsbD 0 }
  let s := { s with modes := { o with prev := o.mode, mode := m, entry := s.esc.frame, entryAt := now, was := was } }
  s.event pMODE 0

/-- Code of a SAFE cause (R354). -/
def causeFAULT : Nat := 1
def causeESTOP : Nat := 2
def causeROOT : Nat := 3
def causeDUAL : Nat := 4
def causeTHERMAL : Nat := 5
def causeMC : Nat := 6

/-- A cause is recorded (R354): its bit, and the first cause where none was pending; of two in one SEQ cycle, or with
the root lost in one cycle of the collector, the lower code is the first. -/
def State.recordCause (s : State) (c : Nat) : State :=
  let m := s.modes
  let now := if s.rootRuns then some s.rootNow else none
  let first := m.pend == 0
  let lower := m.causeAt == now && (now.isSome || m.causeOpen) && decide (c < m.cause.toNat)
  { s with modes := { m with
      cause := if first || lower then BitVec.ofNat 4 c else m.cause,
      causeAt := if first then now else m.causeAt,
      causeOpen := if first then now.isNone else m.causeOpen,
      pend := m.pend ||| (1#6 <<< (c - 1)) } }

/-- The work of the unit ends as R355 lists it; the channels' action comes after the quads' own cause. DESIGN CHOICE (log
entry 106): SAFE entered from BOOT or ENUMERATE applies the safe records too, as 03 R77 and R355 have it of any entry. -/
def State.safeActions (s : State) (a : SafeAction) : State :=
  let s := s.eachG fun s g =>
    let s := s.modG g fun gr => (((gr.haltEngine).stopCont fun _ => true).shutWindows)
    let s := s.emptySlots g 0x7
    let s := (below 4).foldl (fun s j => s.quadFault g j 11) s
    ((s.endPattern g).abortCapture g).wavFault g
  let s := s.eachG State.abortHolds
  let s := s.actAll a
  { s with lines := vmap (fun l => { l with st := .idle, low := false, pendForced := false, expired := false }) s.lines,
           streams := vmap (fun x => { x with stop := x.stop || x.st == .running || x.st == .underrun }) s.streams,
           esc := { s.esc with startAt := none, stopAt := none } }

/-- A RECOVER that had passed its checks is reported refused with CAUSE (R357). -/
def State.cancelRecover (s : State) : State :=
  if s.modes.recover then
    ({ s with modes := { s.modes with recover := false } }.setReg (adr pMODE 0x09)
      (BitVec.ofNat 32 (0x03 <<< 16 + 1 <<< 15 + 6))).event pMODE 2
  else s

/-- Whether a cause can move or hold the unit in SAFE in its present mode (R354). -/
def State.safeReach (s : State) (c : Nat) : Bool :=
  match s.mode with
  | .reset | .factory => false
  | .boot | .enumerate => c != 2
  | .configure | .run | .mirror | .safe => true

/-- An entry of this SEQ cycle that stands behind SAFE in the order of R357, a takeover, STOP, RECOVER, START or FACTORY, is
not taken: the unit is in the mode it had, with PREV, the entry frame, CHANGED and SAFE_PEND as they were. -/
def State.undoEntry (s : State) : State :=
  let m := s.modes
  let late : Bool := match m.mode, m.prev with
    | .run, .mirror | .run, .configure | .configure, .run | .configure, .safe | .factory, .configure => true
    | _, _ => false
  if m.entryAt == some s.rootNow && late then
    let took := m.mode == .run && m.prev == .mirror
    let back := m.was.mode == .safe
    let s := { s with
      modes := { m with mode := m.was.mode, prev := m.was.prev, entry := m.was.entry, pend := m.was.pend, entryAt := none,
                        recover := back, cfg := .idle, flush := m.flush && !back }
      pair := if took then { s.pair with ownOut := false, takeAt := none } else s.pair }
    s.modHdr pMODE fun h => { h with evt := (h.evt &&& ~~~1#16) ||| (if m.was.changed then 1 else 0) }
  else s

/-- A SAFE cause arises (R354, R355). In SAFE it is recorded, and an urgent STOP disconnects the channels (R77).
In FACTORY the channels take the action and the mode stays (18 R436, 02 R51). With the domains gated no mode changes (13 R325). -/
def State.enterSafe (s : State) (c : Nat) : State :=
  let a := if c = 2 then SafeAction.disconnect else .safeState
  let was := s.mode
  let s := if s.clk.gated then s else s.undoEntry
  if s.mode = .factory then s.actAll a
  else if s.safeReach c = false || s.clk.gated then s
  else if s.mode = .safe then
    let s := ((if was = .safe then s else s.safeActions a).recordCause c).cancelRecover
    if c = 2 then s.actAll a else s
  else
    let s := (s.safeActions a).recordCause c
    let s := { s with modes := { s.modes with flush := true, cfg := .idle, factory := false, assigned := false },
                      msp := { s.msp with raw := 0, mastering := false } }
    (s.enterMode .safe).event pMODE 1

end Sys2Proof.Machine
end

