-- ==== Sys2Proof/Machine/Operands.lean ====
section
/-! DEFINITION. Operand forms of the microword: registers, immediates, branch conditions, setpoint sources,
step-table words (05 R123, R127, R131, R133; 06 R166, R173). -/

namespace Sys2Proof.Machine

open Sys2Proof

/-! ## Registers and immediates (05 R123, R131) -/

/-- Register as the word reads it: X0 reads 0 (R131). -/
def WordView.x (v : WordView) (r : RegIx) : Word := if r = 0 then 0 else v.regs.x[r]

/-- Register read by the running word of group g. -/
def State.xreg (s : State) (g : GroupIx) (r : RegIx) : Word := (s.grp g).eng.view.x r

/-- Register written; X0 ignores writes (R131). -/
def Regs.set (r : Regs) (i : RegIx) (v : Word) : Regs := if i = 0 then r else { r with x := r.x.set i.val v i.isLt }

/-- Register of an engine written at the end of the word's cycle. -/
def State.setX (s : State) (g : GroupIx) (r : RegIx) (v : Word) : State :=
  s.modE g fun e => { e with regs := e.regs.set r v }

/-- Flags of an engine written. -/
def State.setFlags (s : State) (g : GroupIx) (f : Flags) : State :=
  s.modE g fun e => { e with regs := { e.regs with flags := f } }

/-- IMM sign-extended. -/
def immS (i : BitVec 24) : Word := i.signExtend 32

/-- IMM zero-extended. -/
def immZ (i : BitVec 24) : Word := i.setWidth 32

/-! ## Branch conditions (05 R127) -/

/-- CLAMP_ACT as a word reads it (03 R57): an analog fact, a free value at each look, on the lanes outside HIZ at the
start of the cycle. -/
def State.clampAct (s : State) (g : GroupIx) : LaneMask × State :=
  let (n, s) := s.draw
  (Config.clampSense g.val n &&& maskOf fun l => ((s.grp g).eng.view.chans[l]).fe.stage.st != .hiz, s)

/-- Whether every lane of `m` is in `p`. -/
def allIn (m p : LaneMask) : Bool := m &&& ~~~ p == 0

/-- Whether some lane of `m` is in `p`. -/
def anyIn (m p : LaneMask) : Bool := m &&& p != 0

/-- BR_COND on the state at the start of the word's cycle (R127). -/
def State.cond (s : State) (g : GroupIx) (code : BitVec 6) (m : LaneMask) (a : RegIx) : Bool × State :=
  let v := (s.grp g).eng.view
  let f := v.regs.flags
  if 0x20 ≤ code.toNat then (bit (v.x a) (code.toNat - 0x20), s)
  else if code.toNat = 0x15 then
    let (c, s) := s.clampAct g
    (anyIn m c, s)
  else
    let b : Bool := match code.toNat with
      | 0x00 => true
      | 0x02 => f.z
      | 0x03 => f.n
      | 0x04 => f.c
      | 0x05 => f.v
      | 0x08 => v.timers[0] == .expired
      | 0x09 => v.timers[1] == .expired
      | 0x0A => v.timers[2] == .expired
      | 0x0B => v.timers[3] == .expired
      | 0x0C => allIn m v.fresh
      | 0x0D => anyIn m (v.hiL ||| v.loL)
      | 0x0E => anyIn m v.hiL
      | 0x0F => anyIn m v.loL
      | 0x10 => v.patDone
      | 0x11 => anyIn m v.fails
      | 0x12 => allIn m v.stamps
      | 0x13 => allIn m v.settled
      | 0x14 => v.irq
      | 0x16 => anyIn m v.hold
      | 0x17 => s.mode == .mirror
      | _ => false
    (b, s)

/-! ## Setpoint sources (05 R133) -/

/-- Where a force operation takes its setpoint. -/
inductive Setpoint where
  | cpm (w : Nat)
  | value (code : BitVec 18)
  | link (k : ForceLink)
  deriving DecidableEq, Repr

/-- FORCE_SRC of FV (`fi` false) or FI on lane l (R133, 08 R219): word of the CPM, register, IMM, waveform source,
PI output. -/
def setpoint (fi : Bool) (src : BitVec 4) (l : LaneIx) (b : Word) (imm : BitVec 24) : Setpoint :=
  let base := if fi then 2 else 0
  match src.toNat with
  | 1 => .cpm (base + 1)
  | 2 => .value (b.setWidth 18)
  | 3 => .value (imm.setWidth 18)
  | 4 => if fi then .cpm base else .link .wave
  | 5 => if fi ∨ l.val % 4 ≠ 0 then .cpm base else .link .pi
  | _ => .cpm base

/-! ## Step-table words (06 R166) -/

/-- Offset of a step-table word within its quad's area. -/
def tblOff (a : Nat) : Nat := a % 1024

/-- Quad of a step-table word. -/
def tblQuad (a : Nat) : QuadIx := ⟨a / 1024 % 4, Nat.mod_lt _ (by decide)⟩

/-- A step-table word over a stored word: QSTAT, statistics and image come from the sequencers (R166). -/
def tblOver (quads : Vector Quad 4) (a : Nat) (stored : Word) : Word :=
  let o := tblOff a
  let q := quads[tblQuad a]
  if o = 0x310 then q.qstat
  else if 0x311 ≤ o ∧ o ≤ 0x31F then 0
  else if o = 0x32F then q.info
  else if 0x320 ≤ o ∧ o ≤ 0x32E then q.stats.toList.getD (o - 0x320) 0
  else if 0x330 ≤ o ∧ o ≤ 0x33F then q.image.toList.getD (o - 0x330) 0
  else stored

/-- A step-table word as LDTBL reads it: at the start of the SEQ cycle (05 R123). -/
def State.tblRead (s : State) (g : GroupIx) (a : Nat) : Word := tblOver (s.grp g).eng.view.quads a (s.tbl g a)

/-- A step-table word as the host reads it. -/
def State.tblHost (s : State) (g : GroupIx) (a : Nat) : Word := tblOver (s.grp g).quads a (s.tblNow g a)

/-- Whether a step-table word accepts writes (R166). -/
def tblWritable (a : Nat) : Bool := decide (tblOff a < 0x310) || decide (0x340 ≤ tblOff a)

/-- A step-table word written by STTBL or the host; a QCTL write with RUN = 0 waits for the PI boundary (R173). -/
def State.tblWrite (s : State) (g : GroupIx) (a : Nat) (v : Word) : State :=
  if tblWritable a then
    let s := s.setTbl g a v
    if tblOff a = 0x300 ∧ bit v 0 = false then s.modQ g (tblQuad a) fun q => { q with runClear := true } else s
  else s

/-- Whether a step-table word's parity is wrong; a read of one is counted (11 R293). -/
def State.tblCheck (s : State) (g : GroupIx) (a : Nat) : Bool × State :=
  if s.tblBad g a then (true, s.parityError 4 a) else (false, s)

end Sys2Proof.Machine
end

