-- ==== Sys2Proof/Machine/Records.lean ====
section
/-! DEFINITION. Records of the engine and the quads: items, headers, acquisition payloads, the staging buffer
(05 R138, R144; 10 R266, R267; 11 R276 to R281). -/

namespace Sys2Proof.Machine

open Sys2Proof

/-- FAIL_READ word of a group's pattern state (07 R193): fail bits, attached to a running burst, UNDERRUN. -/
def PatGroup.failWord (p : PatGroup) (burst : Bool) : Word :=
  BitVec.ofNat 32 (p.fails.toNat + b2n burst <<< 16 + b2n p.underrun <<< 17)

/-- Whether some junction is below the accuracy floor in force (18 R446, R452). -/
def State.cold (s : State) : Bool := s.thm.sensors.toList.any fun t => decide (t.value.toInt < s.thmLimit 3)

/-- FAIL_READ word as the running word reads it (05 R123). -/
def State.failWord (s : State) (g : GroupIx) : Word :=
  let v := (s.grp g).eng.view
  v.pat.failWord v.burst

/-- What fills the items of a record (R279): the lane's channel, quad, pattern state and hold, and for a GE record the
registers A and B and IMM. A GE record takes them at the start of its cycle, a quad's record as they stand. -/
structure ItemSource where
  lane : LaneIx
  chan : Channel
  quad : Quad
  pat  : PatGroup
  burst : Bool
  held : Bool
  xa   : Word := 0
  xb   : Word := 0
  imm  : Word := 0
  deriving DecidableEq, Repr

/-- The items of a GE record of lane l. -/
def State.geItems (s : State) (g : GroupIx) (l : LaneIx) (xa xb imm : Word) : ItemSource :=
  let v := (s.grp g).eng.view
  { lane := l, chan := v.chans[l], quad := v.quads[quadOf l], pat := v.pat, burst := v.burst, held := lane v.hold l, xa := xa, xb := xb,
    imm := imm }

/-- The items of the record of quad j (06 R182): its lane is 4j. -/
def State.quadItems (s : State) (g : GroupIx) (j : QuadIx) : ItemSource :=
  let l := quadLane j 0
  { lane := l, chan := s.chan g l, quad := s.quad g j, pat := (s.grp g).pat, burst := s.inBurst (s.grp g).pat, held := lane (s.grp g).hold l }

/-- Word i of an integrator image (R279): Q, E, S low word first, the two counts. -/
def imgWord (im : IntegImage) (i : Nat) : Word :=
  match i with
  | 0 => im.q.setWidth 32
  | 1 => im.q.extractLsb' 32 32
  | 2 => im.e.setWidth 32
  | 3 => im.e.extractLsb' 32 32
  | 4 => im.s.setWidth 32
  | 5 => im.s.extractLsb' 32 32
  | 6 => im.miss
  | _ => im.stale

/-- Payload word of an item code (R279). -/
def State.item (s : State) (src : ItemSource) (code : Nat) : Word :=
  let c := src.chan
  let q := src.quad
  if code = 0x01 then c.ms.l0
  else if code = 0x02 then c.ms.l1
  else if code = 0x03 then src.xa
  else if code = 0x04 then src.xb
  else if code = 0x05 then src.imm
  else if code = 0x06 then s.esc.pos.setWidth 32
  else if code = 0x07 then (s.esc.frame.extractLsb' 32 16).setWidth 32
  else if code = 0x08 then
    BitVec.ofNat 32 (b2n c.fe.hi.latch + 2 * b2n c.fe.lo.latch + 4 * b2n c.fe.hi.qualified + 8 * b2n c.fe.lo.qualified)
  else if code = 0x09 then src.pat.failWord src.burst
  else if 0x10 ≤ code ∧ code ≤ 0x17 then imgWord c.ms.capImg (code - 0x10)
  else if 0x18 ≤ code ∧ code ≤ 0x1F then imgWord c.ms.tickImg (code - 0x18)
  else if code = 0x2F then q.info
  else if 0x20 ≤ code ∧ code ≤ 0x2E then q.stats.toList.getD (code - 0x20) 0
  else if 0x30 ≤ code ∧ code ≤ 0x3F then q.image.toList.getD (code - 0x30) 0
  else if code = 0x40 then q.qstat
  else 0

/-- Item code i of a format-table entry (R278). -/
def State.itemCode (s : State) (fmt i : Nat) : Nat :=
  let byte := i + 1
  fld (s.fmtWord (4 * fmt + byte / 4)) (8 * (byte % 4)) 8

/-- SIZE64 of an entry (R278). -/
def State.fmtSize64 (s : State) (fmt : Nat) : Bool := bit (s.fmtWord (4 * fmt)) 0

/-- KIND of an entry acting (R278): 3 to 7 act as 0 outside entry 0. -/
def State.fmtKind (s : State) (fmt : Nat) : Nat :=
  let k := fld (s.fmtWord (4 * fmt)) 1 3
  if k ≤ 2 then k else 0

/-! ## Acquisition payloads (10 R266, R267) -/

/-- Points D per lane of a capture (10 R261). -/
def Capture.depth (a : Capture) : Nat := 16384 / max (countLanes a.lanes) 1

/-- Whether the capture can be read out (10 R266). -/
def Capture.readable (a : Capture) : Bool := a.st == .done || a.st == .stopped || a.st == .aborted

/-- Index, counted from the first point, of the oldest point kept (10 R264, R266). -/
def Capture.oldest (a : Capture) : Nat :=
  match a.trigPt with
  | some t => t - a.kept
  | none => a.point - a.kept

/-- Word of the capture memory that holds point p of a lane (10 R261). -/
def Capture.wordOf (a : Capture) (l : LaneIx) (p : Nat) : Nat :=
  let k := (lanesOf a.lanes).findIdx (fun x => x == l)
  k * a.depth + p % a.depth

/-- Byte address of word w of a group's capture memory (01 R8). -/
def acqAdr (g : GroupIx) (w : Nat) : Nat := 0x03C00000 + 65536 * g.val + 4 * w

/-- VIOL of a capture's group. -/
def State.violWord (s : State) (g : GroupIx) : Word := s.reg (adr (pACQ g) 0x11)

/-- The header payload of a capture (10 R267). -/
def State.acqHeader (s : State) (g : GroupIx) : List Word :=
  let a := (s.grp g).acq
  let w1 := a.line.val + b2n a.forced <<< 2 + b2n (a.st == .stopped) <<< 3 + b2n a.noTrig <<< 4 + b2n a.fired <<< 5 +
    b2n (a.misses != 0) <<< 6 + b2n (a.st == .aborted) <<< 7 + a.j <<< 8 + a.lanes.toNat <<< 16
  [BitVec.ofNat 32 (a.kept % 65536 + a.stored <<< 16), BitVec.ofNat 32 w1, a.ts.setWidth 32,
   BitVec.ofNat 32 (fld a.ts 32 15 + b2n a.unlock <<< 15 + b2n a.xo <<< 16),
   BitVec.ofNat 32 a.trigRoot, BitVec.ofNat 32 (a.trigRoot >>> 32), a.f.setWidth 32, a.frameT.setWidth 32,
   s.violWord g, a.misses, a.skew.setWidth 32, 0, 0, 0]

/-- The next points of a lane: payload, points carried, a poisoned word met, an overrange point met (10 R266). -/
def State.acqData (s : State) (g : GroupIx) (l : LaneIx) : List Word × Nat × Bool × Bool × State :=
  let a := (s.grp g).acq
  let total := a.kept + a.stored
  let from_ := a.rd[l]
  let n := if a.readable && lane a.lanes l then min 13 (total - from_) else 0
  let r := (List.range n).foldl (fun (acc : List Word × Bool × Bool × State) i =>
      let w := a.wordOf l (a.oldest + from_ + i)
      let (v, bad, s') := acc.2.2.2.sramRead (acqAdr g w)
      (acc.1 ++ [v], acc.2.1 || bad, acc.2.2.1 || a.ovr.contains w, s')) (([] : List Word), false, false, s)
  let w0 := BitVec.ofNat 32 (from_ % 16384 + l.val <<< 14 + n <<< 18)
  (w0 :: (r.1 ++ List.replicate (13 - n) 0), n, r.2.1, r.2.2.1, r.2.2.2)

/-! ## Building and writing (05 R138, R144) -/

/-- A record of lane `src.lane` in a format (R276 to R279, R266). -/
def State.buildRecord (s : State) (g : GroupIx) (src : ItemSource) (fmt : Nat) (tag : Byte) : Entry × State :=
  let l := src.lane
  let c := chanNo g l
  let flags : Flagset := { stale := src.held, underrun := src.pat.underrun, cold := s.cold,
                           shadow := s.mode == .mirror }
  let entry (f : Flagset) (payload : List Word) (n : Nat) : Entry :=
    { words := headerWords s.esc.frame c tag.toNat fmt f ++ payload, chan := BitVec.ofNat 10 c, tag := tag, lane := l.val, acq := n }
  match s.fmtKind fmt with
  | 1 =>
    let f := { flags with size64 := true, forced := (s.grp g).acq.forced }
    (entry f (s.acqHeader g) 0, s)
  | 2 =>
    let (ws, n, bad, ovr, s) := s.acqData g l
    let f := { flags with size64 := true, forced := (s.grp g).acq.forced, poison := bad, ovr := ovr }
    (entry f ws n, s)
  | _ =>
    let big := s.fmtSize64 fmt
    let codes := (List.range (if big then 14 else 6)).map (s.itemCode fmt)
    let f := { flags with size64 := big, ovr := codes.contains 0x01 && src.chan.ms.resOvr }
    (entry f (codes.map (s.item src)) 0, s)

/-- A record of group g enters its ring; its store writes count to a class, and a capture's read pointer
advances (R280, 02 R33, 10 R266). -/
def State.releaseRecord (s : State) (g : GroupIx) (c : ClassIx) (e : Entry) : State :=
  let s := s.enterRecord e s.esc.frame
  let s := s.use (some g) 2 c.val e.words.length
  if e.acq = 0 then s
  else
    s.modG g fun gr =>
      { gr with acq := { gr.acq with rd := vmod gr.acq.rd (laneOf e.lane) fun n => n + e.acq } }

/-- A staged entry goes to its destination (R144). -/
def State.releaseStaged (s : State) (g : GroupIx) (e : Staged) : State :=
  match e with
  | .record e => s.releaseRecord g (s.grp g).eng.cls e
  | .event code value pos frame => s.enterGroup g frame 0 0 code.toNat value pos

/-- Record bytes held in staging (R144). -/
def stagedBytes (l : List Staged) : Nat :=
  l.foldl (fun n e => match e with
    | .record e => n + 4 * e.words.length
    | .event .. => n) 0

/-- Events held in staging. -/
def stagedEvents (l : List Staged) : Nat :=
  l.foldl (fun n e => match e with
    | .record _ => n
    | .event .. => n + 1) 0

/-- Whether one more entry fits the staging buffer: 1 KiB of records, 16 events (R144). -/
def stageFits (l : List Staged) (e : Staged) : Bool :=
  match e with
  | .record r => decide (stagedBytes l + 4 * r.words.length ≤ 1024)
  | .event .. => decide (stagedEvents l + 1 ≤ 16)

/-- A routine writes an entry: staged before the commit, straight to its destination after it; an overflow of the
staging buffer stops the group (R144). -/
def State.writeEntry (s : State) (g : GroupIx) (e : Staged) : State :=
  let gr := s.grp g
  if gr.eng.running = false then s
  else if gr.eng.committed then s.releaseStaged g e
  else if stageFits gr.staging e then s.modG g fun gr => { gr with staging := gr.staging ++ [e] }
  else s.groupStop g kSTAGE_FULL gr.eng.pc

end Sys2Proof.Machine
end

