-- ==== Sys2Proof/Machine/Engine.lean ====
section
/-! DEFINITION. The group engine (05): release, sequencing, commit, arithmetic, timers, arrivals, records and
events. Each field of a microword is a command; the SEQ command of a word ends its cycle (log entry 7). -/

namespace Sys2Proof.Machine

open Sys2Proof

/-- Where the word of this SEQ cycle has been executed, the next cycle begins; it begins in this frame or not at all. -/
def State.nextCycle (s : State) (g : GroupIx) : State :=
  let e := (s.grp g).eng
  let n := b2n e.spent + b2n e.restoring
  if e.running && decide (n ≠ 0) && decide (s.esc.pos.toNat + n < s.frameCycles) then s.advance n else s

/-- Whether the engine is about to execute the word it stands at. -/
def Engine.ready (e : Engine) : Bool := e.running && !e.spent && !e.restoring

/-- A field of the running word acts; nothing happens in a group whose engine runs no routine. -/
def State.field (s : State) (g : GroupIx) (f : State → State) : State :=
  let s := s.nextCycle g
  if (s.grp g).eng.ready then f s else s

/-! ## The end of a cycle (R123, R129, R149) -/

/-- The cycle's word has been executed: the next one is fetched (R123). -/
def State.endCycle (s : State) (g : GroupIx) (next : BitVec 12) : State :=
  (s.modE g fun e => { e with lastPc := e.pc, pc := next, spent := true, lcLoaded := false }).fetch g

/-- The routine goes to address `next` (a natural number, so that an increment past the store shows): outside the
extent the group stops (R129); an abandoning event of this cycle acts now (R146). DESIGN CHOICE (log entry 100): a word that
leaves the extent, or overruns its stack, in the cycle of such an event stops the group. -/
def State.goTo (s : State) (g : GroupIx) (next : Nat) : State :=
  let e := (s.grp g).eng
  if next < e.entry.toNat ∨ e.entry.toNat + e.len.toNat ≤ next then s.groupStop g kEXTENT e.pc
  else if e.abDue then s.abandonNow g
  else s.endCycle g (BitVec.ofNat 12 next)

/-- The address after the present one. -/
def Engine.seqPc (e : Engine) : Nat := e.pc.toNat + 1

/-- A SEQ field acts, with the condition it tests. -/
def State.seq (s : State) (g : GroupIx) (f : Engine → State → State) : State :=
  s.field g fun s => f (s.grp g).eng s

/-! ## Release (02 R36, 05 R142) -/

/-- Whether the escapement releases the group's next routine in the present SEQ cycle or a later one of this frame:
in the cycle R36 gives, inside the body (02 R24, R25, R36). -/
def State.releasable (s : State) (g : GroupIx) : Bool :=
  let gr := s.grp g
  !gr.eng.running && !gr.gstop && (s.mode == .run || s.mode == .mirror) && decide (64 ≤ gr.nextAt) &&
    decide (s.esc.pos.toNat ≤ gr.nextAt) && decide (gr.nextAt < s.cutAt)

/-- The engine as a routine is released on it: copy of the registers, guard, timers and stack (R128, R130, R142,
R146). -/
def Engine.start (e : Engine) (i : Fin 8) (sl : Slot) : Engine :=
  { e with rel := e.regs, timers := Vector.replicate 4 .stopped, stack := [], entry := sl.entry, len := sl.len,
           pc := sl.entry + 1, lastPc := sl.entry + 1, running := true, committed := false, vendor := false, cls := cFG, slot := i,
           rst := sl.rst, restarts := 0, restoring := false, pass := e.pass + 1, w := sl.w, cycles := 0, after := 0,
           postLoss := false, spent := false, abDue := false, lcLoaded := false }

/-- The first due program of the group is released in its cycle; time passes to it (02 R25, R36). -/
def State.release (s : State) (g : GroupIx) : State :=
  match (s.grp g).due with
  | [] => s
  | (i, sl) :: rest =>
    if s.releasable g then
      let s := s.passTo (s.grp g).nextAt
      let pend := s.irqPend g
      let s := s.modG g fun gr => { gr with due := rest, staging := [], irqSeen := pend, eng := gr.eng.start i sl }
      (s.latchView g).fetch g
    else s

/-- The escapement releases a routine. -/
def execRoutineRelease (g : GroupIx) (s : State) : Host.Outcome State Fault Refusal := .next (s.release g)

/-! ## Commit and END (R142 to R144, R148) -/

/-- The routine commits: the staged entries go out in the order written (R143, R144). -/
def State.commitNow (s : State) (g : GroupIx) : State :=
  let e := (s.grp g).eng
  if e.running = false ∨ e.committed = true then s
  else
    let st := (s.grp g).staging
    let pend := s.irqPend g
    let s := s.modG g fun gr => { gr with staging := [], irqSeen := gr.irqSeen ||| pend,
                                          eng := { gr.eng with committed := true, after := 0, abDue := false } }
    st.foldl (fun s e => s.releaseStaged g e) s

/-- A word with COMMIT = 1. -/
def execCommit (g : GroupIx) (s : State) : Host.Outcome State Fault Refusal :=
  .next (s.field g fun s => s.commitNow g)

/-- The slot of an ended customer routine: a ONCE program leaves it; a program disarmed late has had its last run, and
its words are free (02 R35, R37, 05 R121). -/
def Group.slotDone (g : Group) (i : Fin 8) : Group :=
  let sl := g.slots[i]
  let gone : Option Slot := g.leaving[i]
  let late : Bool := gone.any fun p => p.cur
  let left : Slot :=
    if sl.st = .once && !late then (if sl.next || sl.after || sl.start then { sl with cur := false } else {})
    else sl
  { g with slots := g.slots.set i.val left i.isLt, leaving := if late then g.leaving.set i.val none i.isLt else g.leaving }

/-- The routine ends with its word (R142): committed first, its cycles charged to its class, the registers shown, and a
loss after the commit stops the group (R148). An END word with COMMIT = 0 commits as its own operations have been issued
(DESIGN CHOICE, log entry 99). -/
def State.endRoutine (s : State) (g : GroupIx) : State :=
  let s := s.commitNow g
  let e := (s.grp g).eng
  let s := s.use (some g) 0 e.cls.val (e.cycles + 1)
  let s := s.modG g fun gr =>
    let gr := { gr with eng := { gr.eng with
      running := false, committed := false, lastPc := e.pc, stack := [], shown := e.regs.x, spent := false, abDue := false,
      postLoss := false, restoring := false, lcLoaded := false }, nextAt := s.esc.pos.toNat + 1 }
    if e.vendor then gr else gr.slotDone e.slot
  if e.postLoss then s.groupStop g kPOST_COMMIT_LOSS e.pc else s

/-- SEQ END. -/
def execEndSeq (g : GroupIx) (s : State) : Host.Outcome State Fault Refusal :=
  .next (s.field g fun s => s.endRoutine g)

/-! ## Sequencing (R125 to R129) -/

/-- SEQ NEXT. -/
def execNext (g : GroupIx) (s : State) : Host.Outcome State Fault Refusal :=
  .next (s.seq g fun e s => s.goTo g e.seqPc)

/-- SEQ BRANCH. -/
def execBranch (g : GroupIx) (cond : BitVec 6) (target : BitVec 12) (m : LaneMask) (a : RegIx) (s : State) :
    Host.Outcome State Fault Refusal :=
  .next (s.seq g fun e s =>
    let (c, s) := s.cond g cond m a
    s.goTo g (if c then target.toNat else e.seqPc))

/-- SEQ CALL: the return stack holds 8 entries (R128). -/
def execCall (g : GroupIx) (cond : BitVec 6) (target : BitVec 12) (m : LaneMask) (a : RegIx) (s : State) :
    Host.Outcome State Fault Refusal :=
  .next (s.seq g fun e s =>
    let (c, s) := s.cond g cond m a
    if c then
      if 8 ≤ e.stack.length then s.groupStop g kSTACK e.pc
      else (s.modE g fun e => { e with stack := (e.pc + 1) :: e.stack }).goTo g target.toNat
    else s.goTo g e.seqPc)

/-- SEQ RETURN (R128). -/
def execReturn (g : GroupIx) (cond : BitVec 6) (m : LaneMask) (a : RegIx) (s : State) :
    Host.Outcome State Fault Refusal :=
  .next (s.seq g fun e s =>
    let (c, s) := s.cond g cond m a
    if c then
      match e.stack with
      | [] => s.groupStop g kSTACK e.pc
      | r :: rest => (s.modE g fun e => { e with stack := rest }).goTo g r.toNat
    else s.goTo g e.seqPc)

/-- SEQ WAIT. -/
def execWait (g : GroupIx) (cond : BitVec 6) (m : LaneMask) (a : RegIx) (s : State) :
    Host.Outcome State Fault Refusal :=
  .next (s.seq g fun e s =>
    let (c, s) := s.cond g cond m a
    s.goTo g (if c then e.seqPc else e.pc.toNat))

/-- SEQ WAIT_TO: the condition wins over an expiry in the same cycle (R126). -/
def execWaitTo (g : GroupIx) (cond : BitVec 6) (target : BitVec 12) (m : LaneMask) (a : RegIx) (s : State) :
    Host.Outcome State Fault Refusal :=
  .next (s.seq g fun e s =>
    let (c, s) := s.cond g cond m a
    s.goTo g (if c then e.seqPc else if e.view.timers[3] = .expired then target.toNat else e.pc.toNat))

/-- SEQ LOOP: tests LC as at the start of the cycle; a word that also loads LC loses the decrement (R126). -/
def execLoop (g : GroupIx) (target : BitVec 12) (s : State) : Host.Outcome State Fault Refusal :=
  .next (s.seq g fun e s =>
    if e.view.regs.lc = 0 then s.goTo g e.seqPc
    else
      let s := if e.lcLoaded then s else s.modE g fun e => { e with regs := { e.regs with lc := e.view.regs.lc - 1 } }
      s.goTo g target.toNat)

/-! ## Arithmetic (R131, R539) -/

/-- An ALU operation that writes A and sets flags; what it computes from the state at the start of its cycle. -/
def State.alu (s : State) (g : GroupIx) (a : RegIx) (r : State → Word × Flags) : State :=
  s.field g fun s => (s.setX g a (r s).1).setFlags g (r s).2

/-- An ALU operation that writes A and sets no flag. -/
def State.aluMove (s : State) (g : GroupIx) (a : RegIx) (v : State → Word) : State :=
  s.field g fun s => s.setX g a (v s)

/-- An operation that sets flags only. -/
def State.aluTest (s : State) (g : GroupIx) (f : State → Flags) : State :=
  s.field g fun s => s.setFlags g (f s)

/-- A result with Z and N set from it, C and V cleared. -/
def logic (r : Word) : Word × Flags := (r, logicFlags r)

/-- The flags the word reads. -/
def State.oldFlags (s : State) (g : GroupIx) : Flags := (s.grp g).eng.view.regs.flags

/-- The signed product of two words (R131). -/
def sprod (a b : Word) : Int := a.toInt * b.toInt

/-- MOV. -/
def execMov (g : GroupIx) (a b : RegIx) (s : State) : Host.Outcome State Fault Refusal :=
  .next (s.aluMove g a fun s => s.xreg g b)

/-- MOVI. -/
def execMovi (g : GroupIx) (a : RegIx) (imm : BitVec 24) (s : State) : Host.Outcome State Fault Refusal :=
  .next (s.aluMove g a fun _ => immS imm)

/-- MOVIU. -/
def execMoviu (g : GroupIx) (a : RegIx) (imm : BitVec 24) (s : State) : Host.Outcome State Fault Refusal :=
  .next (s.aluMove g a fun _ => immZ imm)

/-- ADD. -/
def execAdd (g : GroupIx) (a b : RegIx) (s : State) : Host.Outcome State Fault Refusal :=
  .next (s.alu g a fun s => addFlags (s.xreg g a) (s.xreg g b) false)

/-- ADDI. -/
def execAddi (g : GroupIx) (a : RegIx) (imm : BitVec 24) (s : State) : Host.Outcome State Fault Refusal :=
  .next (s.alu g a fun s => addFlags (s.xreg g a) (immS imm) false)

/-- SUB. -/
def execSub (g : GroupIx) (a b : RegIx) (s : State) : Host.Outcome State Fault Refusal :=
  .next (s.alu g a fun s => subFlags (s.xreg g a) (s.xreg g b))

/-- AND. -/
def execAnd (g : GroupIx) (a b : RegIx) (s : State) : Host.Outcome State Fault Refusal :=
  .next (s.alu g a fun s => logic (s.xreg g a &&& s.xreg g b))

/-- OR. -/
def execOr (g : GroupIx) (a b : RegIx) (s : State) : Host.Outcome State Fault Refusal :=
  .next (s.alu g a fun s => logic (s.xreg g a ||| s.xreg g b))

/-- XOR. -/
def execXor (g : GroupIx) (a b : RegIx) (s : State) : Host.Outcome State Fault Refusal :=
  .next (s.alu g a fun s => logic (s.xreg g a ^^^ s.xreg g b))

/-- SHL by IMM[4:0]. -/
def execShl (g : GroupIx) (a : RegIx) (imm : BitVec 24) (s : State) : Host.Outcome State Fault Refusal :=
  .next (s.alu g a fun s => logic (s.xreg g a <<< fld imm 0 5))

/-- SHR by IMM[4:0]. -/
def execShr (g : GroupIx) (a : RegIx) (imm : BitVec 24) (s : State) : Host.Outcome State Fault Refusal :=
  .next (s.alu g a fun s => logic (s.xreg g a >>> fld imm 0 5))

/-- SAR by IMM[4:0]. -/
def execSar (g : GroupIx) (a : RegIx) (imm : BitVec 24) (s : State) : Host.Outcome State Fault Refusal :=
  .next (s.alu g a fun s => logic ((s.xreg g a).sshiftRight (fld imm 0 5)))

/-- CMP. -/
def execCmp (g : GroupIx) (a b : RegIx) (s : State) : Host.Outcome State Fault Refusal :=
  .next (s.aluTest g fun s => (subFlags (s.xreg g a) (s.xreg g b)).2)

/-- CMPI. -/
def execCmpi (g : GroupIx) (a : RegIx) (imm : BitVec 24) (s : State) : Host.Outcome State Fault Refusal :=
  .next (s.aluTest g fun s => (subFlags (s.xreg g a) (immS imm)).2)

/-- LDLC. -/
def execLdlc (g : GroupIx) (a : RegIx) (s : State) : Host.Outcome State Fault Refusal :=
  .next (s.field g fun s =>
    let v := s.xreg g a
    s.modE g fun e => { e with lcLoaded := true, regs := { e.regs with lc := v } })

/-- MUL. -/
def execMul (g : GroupIx) (a b : RegIx) (s : State) : Host.Outcome State Fault Refusal :=
  .next (s.alu g a fun s =>
    let r : Word := BitVec.ofInt 32 (sprod (s.xreg g a) (s.xreg g b))
    (r, mulFlags (s.oldFlags g) r))

/-- MULH. -/
def execMulh (g : GroupIx) (a b : RegIx) (s : State) : Host.Outcome State Fault Refusal :=
  .next (s.alu g a fun s =>
    let r : Word := BitVec.ofInt 32 (sprod (s.xreg g a) (s.xreg g b) / 2 ^ 32)
    (r, mulFlags (s.oldFlags g) r))

/-- LDCPM: a parity error abandons the routine and the value is not used (R145). -/
def execLdcpm (g : GroupIx) (a : RegIx) (imm : BitVec 24) (s : State) : Host.Outcome State Fault Refusal :=
  .next (s.field g fun s =>
    let k := fld imm 0 10
    if s.cpmBad g k then s.cpmParity g k else s.setX g a (s.cpm g k))

/-- STCPM. -/
def execStcpm (g : GroupIx) (a : RegIx) (imm : BitVec 24) (s : State) : Host.Outcome State Fault Refusal :=
  .next (s.field g fun s => s.setCpm g (fld imm 0 10) (s.xreg g a))

/-- LDRES. -/
def execLdres (g : GroupIx) (a : RegIx) (imm : BitVec 24) (s : State) : Host.Outcome State Fault Refusal :=
  .next (s.field g fun s =>
    let m := ((s.grp g).eng.view.chans[laneOf (fld imm 0 4)]).ms
    s.setX g a (if bit imm 4 then m.l1 else m.l0))

/-- LDTBL. -/
def execLdtbl (g : GroupIx) (a : RegIx) (imm : BitVec 24) (s : State) : Host.Outcome State Fault Refusal :=
  .next (s.field g fun s =>
    let k := fld imm 0 12
    let (_, s) := s.tblCheck g k
    s.setX g a (s.tblRead g k))

/-- STTBL. -/
def execSttbl (g : GroupIx) (a : RegIx) (imm : BitVec 24) (s : State) : Host.Outcome State Fault Refusal :=
  .next (s.field g fun s => s.tblWrite g (fld imm 0 12) (s.xreg g a))

/-- LDFRM. -/
def execLdfrm (g : GroupIx) (a : RegIx) (s : State) : Host.Outcome State Fault Refusal :=
  .next (s.aluMove g a fun s => s.esc.frame.setWidth 32)

/-- LDPOS. -/
def execLdpos (g : GroupIx) (a : RegIx) (s : State) : Host.Outcome State Fault Refusal :=
  .next (s.aluMove g a fun s => s.esc.pos.setWidth 32)

/-! ## Timers (R130) -/

/-- A timer loaded: 0 reads expired in the next word. -/
def timerOf (v : Word) : Timer := if v = 0 then .expired else .running v

/-- A timer set. -/
def State.setTimer (s : State) (g : GroupIx) (t : Fin 4) (v : Timer) : State :=
  s.modE g fun e => { e with timers := e.timers.set t.val v t.isLt }

/-- TIMER_OP load TIMER_VAL. -/
def execTimerLoadVal (g : GroupIx) (t : Fin 4) (v : BitVec 20) (s : State) : Host.Outcome State Fault Refusal :=
  .next (s.field g fun s => s.setTimer g t (timerOf (v.setWidth 32)))

/-- TIMER_OP load X[REG_B]. -/
def execTimerLoadReg (g : GroupIx) (t : Fin 4) (b : RegIx) (s : State) : Host.Outcome State Fault Refusal :=
  .next (s.field g fun s => s.setTimer g t (timerOf (s.xreg g b)))

/-- TIMER_OP stop. -/
def execTimerStop (g : GroupIx) (t : Fin 4) (s : State) : Host.Outcome State Fault Refusal :=
  .next (s.field g fun s => s.setTimer g t .stopped)

/-- SEQ cycles until a timer reads expired; 0 where it is not counting. -/
def Timer.left : Timer → Nat
  | .running v => v.toNat
  | .stopped => 0
  | .expired => 0

/-- A timer expires: time passes to the word that reads it so (R130). -/
def State.timerEnd (s : State) (g : GroupIx) (t : Fin 4) : State :=
  let e := (s.grp g).eng
  if e.running then s.within (e.timers[t]).left else s

/-- A running timer has counted down. -/
def execTimerExpire (g : GroupIx) (t : Fin 4) (s : State) : Host.Outcome State Fault Refusal := .next (s.timerEnd g t)

/-! ## Events that stop or abandon (02 R38, 05 R145, R148) -/

/-- The guard expires: time passes to the end of the W-th cycle, and a routine that has not ended by then stops its
group (02 R38, R39). -/
def State.guardEnd (s : State) (g : GroupIx) : State :=
  let e := (s.grp g).eng
  if e.running then s.within e.toGuard else s

/-- The guard expires. -/
def execCycleGuardExpiry (g : GroupIx) (s : State) : Host.Outcome State Fault Refusal := .next (s.guardEnd g)

/-- Time passes to the 65th cycle after the COMMIT word; a committed routine that still runs stops its group (R148). -/
def State.commitEnd (s : State) (g : GroupIx) : State :=
  let e := (s.grp g).eng
  if e.running && e.committed then s.within e.toCommitLen else s

/-- The 65th cycle after the COMMIT word. -/
def execCommitLen (g : GroupIx) (s : State) : Host.Outcome State Fault Refusal := .next (s.commitEnd g)

/-- A GE_IRQ_PEND bit that has risen reaches the engine (R145, R148): its rise is taken once. -/
def State.interrupt (s : State) (g : GroupIx) : State :=
  let p := s.irqPend g
  if p &&& ~~~ (s.grp g).irqSeen = 0 then s
  else
    let s := s.modG g fun gr => { gr with irqSeen := gr.irqSeen ||| p }
    if (s.grp g).eng.vendor then s else s.abandonEvent g false

/-- An interrupt. -/
def execInterrupt (g : GroupIx) (s : State) : Host.Outcome State Fault Refusal := .next (s.interrupt g)

/-- A die-to-die transfer for the group is discarded (R145, 20 R512). -/
def execLinkXfer (g : GroupIx) (s : State) : Host.Outcome State Fault Refusal := .next <|
  let s := (s.bump (adr (pTILE (tileOf g)) 0x0A)).event (pTILE (tileOf g)) 1
  (s.raise (srcGRP g) kLINK_XFER 0).abandonEvent g true

/-- A die-to-die link error not tied to a group transfer (18 R434, 20 R512). -/
def execTileLink (t : TileIx) (s : State) : Host.Outcome State Fault Refusal :=
  .next (((s.bump (adr (pTILE t) 0x0B)).event (pTILE t) 0).raise (srcTILE t) kTILE_LINK 0)

/-- Values arrive at the GE: L0, and L1 for a READ, and FRESH (R132). -/
def execResultArrival (g : GroupIx) (l : LaneIx) (s : State) : Host.Outcome State Fault Refusal := .next <|
  s.modMs g l fun m =>
    match m.arrivals with
    | [] => m
    | a :: rest => { m with arrivals := rest, l0 := a.l0, l1 := a.l1.getD m.l1, fresh := true, resOvr := a.ovr }

/-! ## Records and events (R138) -/

/-- REC_FMT: one record per lane of CHMASK, ascending; 0 writes nothing. -/
def execRecWrite (g : GroupIx) (m : LaneMask) (fmt : BitVec 4) (tag : Byte) (a b : RegIx) (imm : BitVec 24) (s : State) :
    Host.Outcome State Fault Refusal :=
  .next (s.field g fun s =>
    if fmt = 0 then s
    else
      let xa := s.xreg g a
      let xb := s.xreg g b
      (lanesOf m).foldl (fun s l =>
        let (e, s) := s.buildRecord g (s.geItems g l xa xb (immZ imm)) fmt.toNat tag
        s.writeEntry g (.record e)) s)

/-- EVT: one entry to the group event queue; 0 writes nothing. -/
def execEvtWrite (g : GroupIx) (e : BitVec 4) (a : RegIx) (s : State) : Host.Outcome State Fault Refusal :=
  .next (s.field g fun s =>
    if e = 0 then s else s.writeEntry g (.event e (s.xreg g a) s.esc.pos s.esc.frame))

end Sys2Proof.Machine
end

