-- ==== Sys2Proof/Machine/Force.lean ====
section
/-! DEFINITION. Channel operations of the microword: FORCE_OP, LEVEL_LOAD, CMP_OP, CMP_THR_SEL (05 R133 to R136,
03 R53 to R73). -/

namespace Sys2Proof.Machine

open Sys2Proof

/-! ## Which operations reach the tile -/

/-- Whether operations on stage, relay and levels reach the tile: never in MIRROR (17 R422). -/
def State.reachesTile (s : State) : Bool := s.mode != .mirror

/-- Whether any lane of a gang is in a force-path hold (04 R111). -/
def State.heldGang (s : State) (g : GroupIx) (l : LaneIx) : Bool := s.gang g l &&& (s.grp g).hold != 0

/-- Why a force operation on a lane is ignored and counted: a gang member that does not lead, a tripped LIMIT
channel, a hold; and, unless it applies a record, a node owned by the driver (R60, R66, R73, 04 R111). -/
def State.forceIgnored (s : State) (g : GroupIx) (l : LaneIx) (record : Bool) : Bool :=
  s.leader g l != l || s.limitHeld g l || s.heldGang g l || (!record && (s.chan g l).fe.outSel)

/-- Whether a force-path hold keeps a lane's output: until the safe path acts on it (04 R111, R112). -/
def State.keepsOutput (s : State) (g : GroupIx) (l : LaneIx) : Bool := lane (s.grp g).hold l && !(s.grp g).holdOut.acted

/-- The code a stage forces at this moment (06 R162, 08 R218, R219): its own, the DAC's on the stage's scale, or
the regulator's, in a gang its leader's (R60). -/
def State.stageCode (s : State) (g : GroupIx) (l : LaneIx) : BitVec 18 :=
  let st := (s.chan g l).fe.stage
  if s.keepsOutput g l then (s.grp g).holdOut.code
  else match st.link with
  | .none => st.code
  | .wave => BitVec.ofNat 18 (16 * (s.grp g).wav.out.toNat)
  | .pi => (s.quad g (quadOf (s.leader g l))).pi.u

/-- What a force operation does to one stage, the range being 4 in a gang (R60). A member whose node the driver owns stays in
HIZ and counts as an operation ignored (R66). -/
def State.forceGang (s : State) (g : GroupIx) (l : LaneIx) (f : LaneIx → Stage → Stage) : State :=
  let now := s.rootNow
  let on := s.drives
  let gang := s.ganged g l
  let s := (lanesOf (s.gang g l)).foldl (fun s m =>
    if (s.chan g m).fe.outSel then s.bump (adr (pGRP g) 0x1D)
    else s.modFe g m fun fe =>
      let st := f m fe.stage
      let st := if gang then { st with range := 4 } else st
      let st := if on then st else { st with st := .hiz }
      { fe with stage := Stage.rangeMoved now fe.stage st, action := .none }.settle now) s
  (lanesOf (s.gang g l)).foldl (fun s m => s.checkLink g m) s

/-- A force operation on every lane of CHMASK, ascending: the words of the CPM it reads are checked, and an
ignored one is counted (R73, R133). -/
def State.forceOp (s : State) (g : GroupIx) (m : LaneMask) (reads : LaneIx → List Nat)
    (f : State → LaneIx → Stage → Stage) : State :=
  s.field g fun s =>
    if s.reachesTile then
      (lanesOf m).foldl (fun s l =>
        if s.forceIgnored g l false then s.bump (adr (pGRP g) 0x1D)
        else
          s.readCpm g l (reads l) fun s => s.forceGang g l fun _ st => f s l st) s
    else s

/-! ## Force operations (R133) -/

/-- FORCE_OP HIZ. -/
def execForceHiz (g : GroupIx) (m : LaneMask) (s : State) : Host.Outcome State Fault Refusal :=
  .next (s.forceOp g m (fun _ => []) fun _ _ st => { st with st := .hiz, link := .none })

/-- Words of the CPM that FV and FI read: the setpoint's, STAGE, VCLAMP, ICLAMP. -/
def setpointReads (p : Setpoint) : List Nat :=
  match p with
  | .cpm w => [w, 4, 5, 6]
  | .value _ => [4, 5, 6]
  | .link _ => [4, 5, 6]

/-- A stage as FV or FI leaves it (R133): state, setpoint or link, range and clamps of the CPM. -/
def State.forced (s : State) (g : GroupIx) (l : LaneIx) (k : StageState) (p : Setpoint) (st : Stage) : Stage :=
  { st with
    st := k,
    code := match p with
      | .cpm w => (s.cpmL g l w).setWidth 18
      | .value c => c
      | .link _ => st.code,
    link := match p with
      | .link k => k
      | .cpm _ => .none
      | .value _ => .none,
    range := rangeCode ((s.cpmL g l 6).setWidth 3),
    mag := magCode ((s.cpmL g l 5).setWidth 16),
    vclamp := s.cpmL g l 4 }

/-- FORCE_OP FV. -/
def execForceFv (g : GroupIx) (m : LaneMask) (src : BitVec 4) (b : RegIx) (imm : BitVec 24) (s : State) :
    Host.Outcome State Fault Refusal :=
  .next (s.forceOp g m (fun l => setpointReads (setpoint false src l 0 imm))
    fun s l st => s.forced g l .fv (setpoint false src l (s.xreg g b) imm) st)

/-- FORCE_OP FI. -/
def execForceFi (g : GroupIx) (m : LaneMask) (src : BitVec 4) (b : RegIx) (imm : BitVec 24) (s : State) :
    Host.Outcome State Fault Refusal :=
  .next (s.forceOp g m (fun l => setpointReads (setpoint true src l 0 imm))
    fun s l st => s.forced g l .fi (setpoint true src l (s.xreg g b) imm) st)

/-- FORCE_OP RANGE: the range alone is loaded; a link ends at the code the stage forces (R58, 06 R162, 08 R219). -/
def execForceRange (g : GroupIx) (m : LaneMask) (s : State) : Host.Outcome State Fault Refusal :=
  .next (s.forceOp g m (fun _ => [6]) fun s l st =>
    { st with range := rangeCode ((s.cpmL g l 6).setWidth 3), code := s.stageCode g l, link := .none })

/-- FORCE_OP SAFE: the safe record of each lane, a gang taking its leader's; relay unchanged (R133, R540). -/
def execForceSafe (g : GroupIx) (m : LaneMask) (s : State) : Host.Outcome State Fault Refusal :=
  .next (s.field g fun s =>
    if s.reachesTile then
      (lanesOf m).foldl (fun s l =>
        if s.forceIgnored g l true then s.bump (adr (pGRP g) 0x1D)
        else
          let r := (s.chan g l).fe.safeRec
          let s := (lanesOf (s.gang g l)).foldl (fun s k => s.modFe g k (FrontEnd.applyRecord s.rootNow s.drives (s.ganged g l) r)) s
          (lanesOf (s.gang g l)).foldl (fun s k => s.checkLink g k) s) s
    else s)

/-! ## Relays (R61, R63, R64, R73, R133) -/

/-- A relay command on the gang of a lane, by the order of log entry 16: nothing where every relay is already in the
commanded state; a close of a tripped LIMIT channel refused; BUSY; RETIRED; HOT; then the motion. -/
def State.relayCmd (s : State) (g : GroupIx) (l : LaneIx) (close : Bool) : State :=
  let want : RelayState := if close then .closed else .opened
  let all := lanesOf (s.gang g l)
  let move := all.filter fun m => (s.chan g m).fe.relay.st != want
  if move.isEmpty then s
  else if close && s.limitHeld g l then s.refuseRelay g l 0
  else if move.any (fun m => (s.chan g m).fe.relay.st.moving) then s.refuseRelay g l 2
  else if close && move.any (fun m => (s.nextBeam g m).isNone) then s.refuseRelay g l 3
  else if all.any (fun m => !(s.chan g m).fe.cold s.rootNow) then s.refuseRelay g l 1
  else
    let s := move.foldl (fun s m =>
      let s := s.modFe g m fun fe => { fe with action := .none }
      if close then s.relayClose g m else s.relayOpen g m) s
    move.foldl (fun s m => s.checkLink g m) s

/-- A relay operation of a word: once for each gang named (R61). -/
def State.relayOp (s : State) (g : GroupIx) (m : LaneMask) (close : Bool) : State :=
  s.field g fun s =>
    if s.reachesTile then
      (lanesOf m).foldl (fun s l =>
        if lowest (s.gang g l &&& m) l = l then s.relayCmd g l close else s) s
    else s

/-- FORCE_OP RLY_CLOSE. -/
def execRlyClose (g : GroupIx) (m : LaneMask) (s : State) : Host.Outcome State Fault Refusal :=
  .next (s.relayOp g m true)

/-- FORCE_OP RLY_OPEN. -/
def execRlyOpen (g : GroupIx) (m : LaneMask) (s : State) : Host.Outcome State Fault Refusal :=
  .next (s.relayOp g m false)

/-! ## Level loads (R65, R134, R540; 08 R220) -/

/-- The node-owner latch takes a value (R540): 0 to 1 puts the stage in HIZ, 1 to 0 turns the driver off. A driver that is off
with the node its own terminates it where TERM_EN is set (R66). -/
def FrontEnd.setOwner (now : Nat) (v : Bool) (fe : FrontEnd) : FrontEnd :=
  let rises := v && !fe.outSel
  let falls := !v && fe.outSel
  let fe := { fe with outSel := v }
  let fe := if rises then fe.hiz else if falls then fe.driverOff else fe
  let fe := if v && fe.driver.st.isOff then { fe with driver := { fe.driver with st := fe.driver.offState } } else fe
  fe.settle now

/-- One lane of a LEVEL_LOAD. -/
def State.levelLane (s : State) (g : GroupIx) (l : LaneIx) (bits : BitVec 8) : State :=
  let mask := s.reg (adr (pWAV g) 0x11)
  let now := s.rootNow
  let w7 := s.cpmL g l 7
  let w8 := s.cpmL g l 8
  let w6 := s.cpmL g l 6
  let s := s.modFe g l fun fe =>
    let d := fe.driver
    let linkHi := bit mask l.val
    let linkLo := bit mask (16 + l.val)
    let d := if bit bits 0 then
        (if linkHi then { d with linkVih := true } else { d with linkVih := false, vih := levelCode (w7.extractLsb' 16 16) })
      else d
    let d := if bit bits 1 then
        (if linkLo then { d with linkVil := true } else { d with linkVil := false, vil := levelCode (w7.setWidth 16) })
      else d
    let d := if bit bits 2 then { d with vt := levelCode (w8.setWidth 16) } else d
    let fe := { fe with driver := d }
    if bit bits 4 then
      { fe with driver := { fe.driver with termEn := bit w6 4 }, rlyIdle := w6.extractLsb' 16 16 }.setOwner now (bit w6 3)
    else fe
  let s := if bit bits 3 ∧ s.leader g l = l then
      let mag := magCode ((s.cpmL g l 5).setWidth 16)
      let vc := s.cpmL g l 4
      (lanesOf (s.gang g l)).foldl (fun s m => s.modFe g m fun fe => { fe with stage := { fe.stage with mag := mag, vclamp := vc } }) s
    else s
  s.checkLink g l

/-- CPM words a LEVEL_LOAD reads. -/
def levelReads (bits : BitVec 8) : List Nat :=
  (if bit bits 0 || bit bits 1 then [7] else []) ++ (if bit bits 2 then [8] else []) ++
    (if bit bits 3 then [4, 5] else []) ++ (if bit bits 4 then [6] else [])

/-- LEVEL_LOAD. -/
def execLevelLoad (g : GroupIx) (m : LaneMask) (bits : BitVec 8) (s : State) : Host.Outcome State Fault Refusal :=
  .next (s.field g fun s =>
    if s.reachesTile then
      (lanesOf m).foldl (fun s l => s.readCpm g l (levelReads bits) fun s => s.levelLane g l bits) s
    else s)

/-! ## Comparator operations (R136) -/

/-- Lanes of a mask if the select bit is set. -/
def selMask (m : LaneMask) (b : Bool) : LaneMask := if b then m else 0

/-- CMP_OP clear: SEL bit 0 high, bit 1 low. -/
def execCmpClear (g : GroupIx) (m : LaneMask) (sel : BitVec 2) (s : State) : Host.Outcome State Fault Refusal :=
  .next (s.field g fun s => s.issueClear g (selMask m (bit sel 0)) (selMask m (bit sel 1)))

/-- CMP_OP off. -/
def execCmpOff (g : GroupIx) (m : LaneMask) (sel : BitVec 2) (s : State) : Host.Outcome State Fault Refusal :=
  .next (s.field g fun s => s.modG g fun gr => gr.modLanes m fun _ c =>
    { c with fe := { c.fe with hi := if bit sel 0 then c.fe.hi.off else c.fe.hi,
                               lo := if bit sel 1 then c.fe.lo.off else c.fe.lo } })

/-- CPM words a CMP_THR_SEL reads: [3] high from set [2], [1] low from set [0]. -/
def thrReads (bits : BitVec 4) : List Nat :=
  (if bit bits 3 then [0x09 + b2n (bit bits 2)] else []) ++ (if bit bits 1 then [0x0B + b2n (bit bits 0)] else []) ++
    (if bit bits 3 || bit bits 1 then [0x0D] else [])

/-- CMP_THR_SEL. -/
def execCmpThrSel (g : GroupIx) (m : LaneMask) (bits : BitVec 4) (s : State) : Host.Outcome State Fault Refusal :=
  .next (s.field g fun s =>
    (lanesOf m).foldl (fun s l =>
      s.readCpm g l (thrReads bits) fun s =>
        let wh := s.cpmL g l (0x09 + b2n (bit bits 2))
        let wl := s.cpmL g l (0x0B + b2n (bit bits 0))
        let bh := blankTime (s.blankCode g l false)
        let bl := blankTime (s.blankCode g l true)
        s.modFe g l fun fe => { fe with hi := if bit bits 3 then fe.hi.load s.rootNow bh wh else fe.hi,
                                        lo := if bit bits 1 then fe.lo.load s.rootNow bl wl else fe.lo }) s)

end Sys2Proof.Machine
end

