-- ==== Sys2Proof/Machine/Measure.lean ====
section
/-! DEFINITION. Conversions up to the sample (04): the ADC operations of the microword, starts at the slice,
averaging, integrators, the tourbillon, force-path holds. -/

namespace Sys2Proof.Machine

open Sys2Proof

/-! ## Measurement sets (R86, R96, R116) -/

/-- Mode acting (R86, R93): 3 acts as SINGLE; CONTINUOUS acts as SINGLE for an urgent request. -/
def modeActing (m : BitVec 2) (kind : StartKind) : BitVec 2 :=
  if m = 1 then 1 else if m = 2 ∧ kind = .scheduled then 2 else 0

/-- A request with the measurement set as it reads at issue. -/
def State.measJob (s : State) (g : GroupIx) (l : LaneIx) (set : Bool) (kind : StartKind) (due : Nat) : Job :=
  let w := s.cpmL g l (0x10 + b2n set)
  let e := (s.grp g).eng
  let mode := modeActing (w.extractLsb' 9 2) kind
  { kind := kind, src := w.setWidth 3, mode := mode, k := if mode = 0 then 0 else min (fld w 4 5) 16,
    prog := e.entry, cls := e.cls, pass := e.pass, due := due }

/-- The FRESH bit of a lane clears at issue (05 R132). -/
def State.unfresh (s : State) (g : GroupIx) (l : LaneIx) : State := s.modMs g l fun m => { m with fresh := false }

/-- The FRESH bits of the lanes of a mask clear. -/
def State.unfreshAll (s : State) (g : GroupIx) (m : LaneMask) : State := (lanesOf m).foldl (fun s l => s.unfresh g l) s

/-- Lanes of CHMASK in turn; a lane whose CPM words have wrong parity reports it and takes no part (05 R145). -/
def State.cpmLanes (s : State) (g : GroupIx) (m : LaneMask) (reads : List Nat) (f : State → LaneIx → State) : State :=
  (lanesOf m).foldl (fun s l => s.readCpm g l reads fun s => f s l) s

/-- A request among those waiting, the earliest end of ADC_DLY first. -/
def insertDue (j : Job) : List Job → List Job
  | [] => [j]
  | k :: r => if j.due < k.due then j :: k :: r else k :: insertDue j r

/-- A commit-only operation: before the commit the group stops with ORDER (05 R150). -/
def State.commitOnly (s : State) (g : GroupIx) (f : State → State) : State :=
  s.field g fun s =>
    if (s.grp g).eng.committed then f s else s.groupStop g kORDER (s.grp g).eng.pc

/-! ## ADC_OP (05 R135) -/

/-- ADC_OP START (R90). -/
def execAdcStart (g : GroupIx) (m : LaneMask) (set : Bool) (dly : BitVec 12) (s : State) :
    Host.Outcome State Fault Refusal :=
  .next (s.field g fun s => s.cpmLanes g m [0x10 + b2n set] fun s l =>
    let j := s.measJob g l set .scheduled (s.rootNow + 16 * dly.toNat)
    (s.unfresh g l).modMs g l fun x => { x with waitS := insertDue j x.waitS })

/-- ADC_OP URGENT (R93). -/
def execAdcUrgent (g : GroupIx) (m : LaneMask) (set : Bool) (s : State) : Host.Outcome State Fault Refusal :=
  .next (s.field g fun s => s.cpmLanes g m [0x10 + b2n set] fun s l =>
    let j := s.measJob g l set .urgent 0
    (s.unfresh g l).modMs g l fun x => { x with waitU := x.waitU ++ [j] })

/-- ADC_OP ARM_PW: the measurement set is copied at issue, PW_EVT and PW_WIDTH at the tile (R92). -/
def execAdcArmPw (g : GroupIx) (m : LaneMask) (set : Bool) (s : State) : Host.Outcome State Fault Refusal :=
  .next (s.commitOnly g fun s => s.cpmLanes g m [0x10 + b2n set] fun s l =>
    s.send g (1#16 <<< l.val) (.armPw (s.measJob g l set .pulse 0)))

/-- ADC_OP DISARM_PW. -/
def execAdcDisarmPw (g : GroupIx) (m : LaneMask) (s : State) : Host.Outcome State Fault Refusal :=
  .next (s.field g fun s => s.send g m .disarmPw)

/-- A lane's CONTINUOUS conversion stops (R88). -/
def State.stopLane (s : State) (g : GroupIx) (l : LaneIx) : State :=
  match ((s.grp g).slice l).job with
  | some j => if j.continuous then (s.modG g fun gr => gr.finishJob l).beginSample g l else s
  | none => s

/-- ADC_OP STOP. -/
def execAdcStop (g : GroupIx) (m : LaneMask) (s : State) : Host.Outcome State Fault Refusal :=
  .next (s.field g fun s => (lanesOf m).foldl (fun s l => s.stopLane g l) s)

/-- ADC_OP READ: the latest block and its count, as the slice holds them when it reaches the tile, go to the GE (R97); FRESH
clears at issue (05 R132). -/
def execAdcRead (g : GroupIx) (m : LaneMask) (s : State) : Host.Outcome State Fault Refusal :=
  .next (s.field g fun s => (s.unfreshAll g m).send g m .adcRead)

/-- ADC_OP INT_CAPTURE: acts at the next clock edge (R102). DESIGN CHOICE (log entry 119): the next edge after its SEQ edge. -/
def execIntCapture (g : GroupIx) (m : LaneMask) (s : State) : Host.Outcome State Fault Refusal :=
  .next (s.field g fun s => (lanesOf m).foldl (fun s l => s.modMs g l fun x =>
    { x with capPend := if x.capPend = .captureClear then .captureClear else .capture }) s)

/-- ADC_OP INT_CAPTURE_CLEAR (R102). -/
def execIntCaptureClear (g : GroupIx) (m : LaneMask) (s : State) : Host.Outcome State Fault Refusal :=
  .next (s.commitOnly g fun s => (lanesOf m).foldl (fun s l => s.modMs g l fun x =>
    { x with capPend := .captureClear }) s)

/-! ## Starts at the slice (R91, R93, R94) -/

/-- ADC slots a start takes (02 R31); a CONTINUOUS one takes them at the clock edges. -/
def Job.slots (j : Job) (cold : Bool) : Nat := (if j.continuous then 0 else 2 ^ j.k) + b2n cold

/-- A job begins on a free slice: at once, or after the start-up of R91. -/
def State.beginJob (s : State) (g : GroupIx) (l : LaneIx) (j : Job) : State :=
  let up := ((s.grp g).slice l).powered && !((s.grp g).slice l).warming
  let s := s.use (some g) 1 j.cls.val (j.slots (!up))
  let s := s.modG g fun gr => gr.modSlice l fun sl => { sl with job := some j, warming := !up, powered := true }
  s.beginSample g l

/-- A conversion or start that the unit discards (R89, R94). -/
def State.overrun (s : State) (g : GroupIx) : State := s.raise (srcGRP g) kADC_OVERRUN 0

/-- A scheduled start reaches the slice (R94). -/
def State.scheduledStart (s : State) (g : GroupIx) (l : LaneIx) (j : Job) : State :=
  let sl := (s.grp g).slice l
  match sl.job with
  | none => s.beginJob g l j
  | some cur =>
    if cur.kind ≠ .scheduled then
      let s := s.bump (adr (pGRP g) 0x20)
      let s := s.use (some g) 1 j.cls.val (j.slots false)
      (s.modG g fun gr => gr.modSlice l fun sl => { sl with job := some j }).beginSample g l
    else if cur.continuous || sl.next.isSome then s.overrun g
    else
      let s := s.use (some g) 1 j.cls.val (j.slots false)
      s.modG g fun gr => gr.modSlice l fun sl => { sl with next := some j }

/-- An urgent request reaches the slice: dropped and counted unless the slice is free (R93). A slice in a
force-path hold is converting (R111); a scheduled start in its ADC_DLY wait is pending (R89, R93). -/
def State.urgentStart (s : State) (g : GroupIx) (l : LaneIx) (j : Job) : State :=
  let sl := (s.grp g).slice l
  if sl.job.isSome || sl.next.isSome || sl.warming || lane (s.grp g).hold l || !(s.chan g l).ms.waitS.isEmpty then
    (s.bump (adr (pGRP g) 0x20)).modG g fun gr => gr.settleSlice l
  else s.beginJob g l j

/-- The earliest scheduled start of a lane takes effect (R90). -/
def execScheduledStartEffect (g : GroupIx) (l : LaneIx) (s : State) : Host.Outcome State Fault Refusal := .next <|
  match (s.chan g l).ms.waitS with
  | [] => s
  | j :: rest => (s.modMs g l fun x => { x with waitS := rest }).scheduledStart g l j

/-- The first urgent request of a lane takes effect (R93). -/
def execUrgentStartEffect (g : GroupIx) (l : LaneIx) (s : State) : Host.Outcome State Fault Refusal := .next <|
  match (s.chan g l).ms.waitU with
  | [] => s
  | j :: rest => (s.modMs g l fun x => { x with waitU := rest }).urgentStart g l j

/-- A pulse ends at the armed comparator: within width and polarity it fires the arm once (R92). -/
def execPwPulseQualified (g : GroupIx) (l : LaneIx) (low released : Bool) (width : Nat) (s : State) :
    Host.Outcome State Fault Refusal := .next <|
  let c := s.chan g l
  match c.ms.pw with
  | none => s
  | some a =>
    let hi := fld a.width 16 16
    if bit a.evt 12 = low ∧ bit a.evt 13 = released ∧ (c.fe.cmp low).acting ≠ 0 ∧ fld a.width 0 16 ≤ width ∧
        (hi = 0 ∨ width ≤ hi) then
      s.modMs g l fun x => { x with pw := none, waitP := x.waitP ++ [a.job] }
    else s

/-- A pulse-width start takes effect DLY after the pulse (R92, R93). -/
def execPwStartEffect (g : GroupIx) (l : LaneIx) (s : State) : Host.Outcome State Fault Refusal := .next <|
  match (s.chan g l).ms.waitP with
  | [] => s
  | j :: rest => (s.modMs g l fun x => { x with waitP := rest }).urgentStart g l j

/-- The start-up of R91 ends and sampling begins. -/
def execSlicePowerUp (g : GroupIx) (l : LaneIx) (s : State) : Host.Outcome State Fault Refusal := .next <|
  if ((s.grp g).slice l).warming then
    (s.modG g fun gr => gr.modSlice l fun sl => { sl with warming := false }).beginSample g l
  else s

/-! ## Samples and results (R83, R96 to R101) -/

/-- Zero code of a source (R114). -/
def zeroCode (src : Nat) : Int := if src = 1 ∨ src = 2 then 524288 else 262144

/-- Corrected sample in 1/16 codes (R83, R114). -/
def Sampling.correct (k : Sampling) (raw : BitVec 20) : Int :=
  let x := Config.sliceCorrect k.gain k.ofs raw
  let z := zeroCode k.src
  clampInt 0 (16 * 1048575) (roundUp (16 * z * 2 ^ 26 + (x - 16 * z - k.co.toInt) * (2 ^ 26 + k.cg.toInt)) (2 ^ 26))

/-- A raw sample at either end of the range (R85). -/
def overrange (raw : BitVec 20) : Bool := raw == 0 || raw == 1048575

/-- Result word of a sum of 2^k samples in 1/16 codes (R96, R97). -/
def resultWord (sum : Int) (k : Nat) : Word :=
  let y := roundUp (sum * 2 ^ (k / 2)) (16 * 2 ^ k)
  BitVec.ofNat 32 (y.toNat % 2 ^ 28 + (k / 2) <<< 28)

/-- x_i enters Q and S (R98, R101). -/
def Integ.addQ (i : Integ) (x : Int) : Integ := { i with q := i.q + BitVec.ofInt 64 x, s := i.s + 1 }

/-- A product enters the energy sum: E is its floor over 65,536, the remainder is kept (R99, R101). -/
def Integ.addE (i : Integ) (p : Int) : Integ :=
  let total := i.e.toInt * 65536 + (i.rem.toNat : Int) + p
  { i with e := BitVec.ofInt 64 (total / 65536), rem := BitVec.ofInt 16 (total % 65536) }

/-- A counted sample without its partner (R99). -/
def Integ.addMiss (i : Integ) : Integ := { i with miss := i.miss + 1 }

/-- Partner lane of a lane, if its energy is enabled (R99, R116); none where the word's parity is wrong (log entry 131). -/
def State.partner (s : State) (g : GroupIx) (l : LaneIx) : Option LaneIx :=
  let w := s.cpmL g l 0x14
  if bit w 0 && !s.cpmBad g (64 * l.val + 0x14) then some (laneOf (fld w 4 4)) else none

/-- CPM words that the unit itself reads, and not the engine: each with wrong parity is counted and reported, and no routine is
abandoned (11 R293, 05 R145; log entry 131). -/
def State.cpmRead (s : State) (g : GroupIx) (as_ : List Nat) : State :=
  (as_.filter (s.cpmBad g)).foldl (fun s a => (s.parityError 2 a).raise (srcGRP g) kCPM_PARITY 0) s

/-- A sample of IMON or DIFF counts in its lane's integrators; its product waits for the partner's sample of the
same edge, or is missed at once where it is on no edge (R98, R99). -/
def State.integrate (s : State) (g : GroupIx) (l : LaneIx) (edge : Option Nat) (x : Int) : State :=
  let s := (s.cpmRead g [64 * l.val + 0x14]).modMs g l fun m => { m with integ := m.integ.addQ x, lastX := some x }
  match s.partner g l with
  | none => s
  | some p =>
    match edge with
    | none => s.modMs g l fun m => { m with integ := m.integ.addMiss }
    | some b =>
      match (s.chan g p).ms.vAt with
      | some (b', v) =>
        if b' = b then s.modMs g l fun m => { m with integ := m.integ.addE (x * v) }
        else s.modMs g l fun m => { m with ePend := some (b, x, p) }
      | none => s.modMs g l fun m => { m with ePend := some (b, x, p) }

/-- A VNODE sample on an edge serves every lane whose partner it is (R99). -/
def State.partnerSample (s : State) (g : GroupIx) (p : LaneIx) (b : Nat) (v : Int) : State :=
  let s := s.modMs g p fun m => { m with vAt := some (b, v) }
  (below 16).foldl (fun s l =>
    match (s.chan g l).ms.ePend with
    | some (b', x, p') =>
      if b' = b && p' == p then
        s.modMs g l fun m => { m with ePend := none, integ := m.integ.addE (x * v) }
      else s
    | none => s) s

/-- Values of a lane's integrators (R102). -/
def Integ.image (i : Integ) : IntegImage := ⟨i.q, i.e, i.s, i.miss, i.stale⟩

/-- Counters cleared; the remainder stays (R102, R103). -/
def Integ.clear (i : Integ) : Integ := { i with q := 0, e := 0, s := 0, miss := 0, stale := 0 }

/-- Whether a clear of INT_SEL has reached the tile by a root count (R103). -/
def Measure.clears (m : Measure) (now : Nat) : Bool :=
  match m.clrPend with
  | some t => decide (t ≤ now)
  | none => false

/-- A lane at a clock edge at root count `now`: products left without a partner are missed, captures and clears act, and the
values are kept for the tick image and the snapshot (R99, R102, R103). -/
def Measure.atEdge (now : Nat) (m : Measure) : Measure :=
  let clears := m.clears now
  let m := if m.ePend.isSome then { m with ePend := none, integ := m.integ.addMiss } else m
  let m := { m with vAt := none }
  let m := if m.capPend = .none then m else { m with capImg := m.integ.image }
  let m := if m.capPend = .captureClear ∨ clears = true then { m with integ := m.integ.clear } else m
  { m with capPend := .none, clrPend := if clears then none else m.clrPend, edgeImg := m.integ.image, prevImg := m.edgeImg }

/-- A held lane whose CONTINUOUS conversion would have taken a sample of an integrand on edge `b` adds its last one, with
its product or its miss (R99, R112). -/
def State.substitute (s : State) (g : GroupIx) (l : LaneIx) (b : Nat) : State :=
  match (s.chan g l).ms.lastX with
  | none => s
  | some x => (s.integrate g l (some b) x).modMs g l fun m => { m with integ := { m.integ with stale := m.integ.stale + 1 } }

/-- A write of INT_SEL sets LANE; with CLR in CONFIGURE it clears that lane at the first clock edge after its arrival at the
tile (R103). Like any write of a select register it clears WRAP (19 R460). -/
def State.intSelWrite (s : State) (g : GroupIx) (v : Word) : State :=
  let s := (s.setReg (adr (pGRP g) 0x22) (BitVec.ofNat 32 (fld v 0 4))).modHdr (pGRP g) fun h => { h with wrap := false }
  if bit v 8 ∧ s.mode = .configure then
    let t := if s.rootRuns then s.rootNow + linkDelay else s.rootNow
    s.modMs g (laneOf (fld v 0 4)) fun m => { m with clrPend := some t }
  else s

/-- A write of `GRP[g].INT_SEL`. -/
def execIntSelWrite (g : GroupIx) (v : Word) (s : State) : Host.Outcome State Fault Refusal :=
  .next (s.intSelWrite g v)

/-- A write of COEF_COMMIT: ones request the transfer, zeros have no effect (R115). -/
def State.coefCommitWrite (s : State) (g : GroupIx) (v : Word) : State :=
  let a := adr (pGRP g) 0x2B
  s.setReg a (s.reg a ||| (v &&& 0xFFFF))

/-- A write of `GRP[g].COEF_COMMIT`. -/
def execCoefCommitWrite (g : GroupIx) (v : Word) (s : State) : Host.Outcome State Fault Refusal :=
  .next (s.coefCommitWrite g v)

/-- The staged coefficients of committed lanes become active together (R115); a word with wrong parity is counted and reported,
and the active one stays (log entry 131). -/
def State.coefTick (s : State) (g : GroupIx) : State :=
  let a := adr (pGRP g) 0x2B
  let m : LaneMask := (s.reg a).setWidth 16
  let s := (lanesOf m).foldl (fun s l =>
    let s := s.cpmRead g ((List.range 16).map fun w => 64 * l.val + 0x20 + w)
    (List.range 16).foldl (fun s w =>
      let v := s.cpmL g l (0x20 + w)
      if s.cpmBad g (64 * l.val + 0x20 + w) then s
      else s.modS g fun t => { t with coef := tset 0 t.coef (16 * l.val + w) v }) s) s
  s.setReg a 0

/-! ## Tourbillon (R105 to R110) -/

/-- SHADOW starts at the first lane from `l` on that is not in a hold (R105). -/
def Group.tbShadow (g : Group) (l : LaneIx) : Group :=
  let order := (below 16).map fun i => laneOf ((l.val + i.val) % 16)
  let first := (order.find? fun i => !lane g.hold i).getD l
  { g with tb := { g.tb with st := .shadow, lane := first, pairs := {}, newCoef := none, newCal := none, wdac := false } }

/-- The lane after a lane in the rotation. -/
def nextLane (l : LaneIx) : LaneIx := laneOf ((l.val + 1) % 16)

/-- Rotation enabled. -/
def State.tbOn (s : State) : Bool := s.regB (adr pCAL 0x08) 0

/-- A write of CAL.TB_CTRL: EN from 0 to 1 starts or restarts every stopped rotation at SHADOW; EN = 0 stops the
rotations that are not HALTED (R105, R110; log entry 19). -/
def State.tbCtrlWrite (s : State) (v : Word) : State :=
  let was := s.tbOn
  let s := s.setReg (adr pCAL 0x08) (v &&& 0x1F01)
  if s.tbOn then
    if was then s
    else s.allG fun g => if g.tb.st = .off ∨ g.tb.st = .halted then g.tbShadow g.tb.lane else g
  else s.allG fun g =>
    if g.tb.st = .halted then g
    else { g with tb := { g.tb with st := .off, spare := if g.tb.st = .recal then g.tb.freed else g.tb.spare,
                                     newCoef := none, newCal := none, wdac := false } }

/-- A write of CAL.TB_CTRL. -/
def execTbEnable (v : Word) (s : State) : Host.Outcome State Fault Refusal := .next (s.tbCtrlWrite v)

/-- Pairs of a SHADOW (R118). -/
def State.tbPairs (s : State) : Nat := 2 ^ min 20 (max 10 (s.regF (adr pCAL 0x08) 8 5))

/-- A pair of corrected samples joins those collected; a change of the live source or range discards the others (R106). -/
def Pairs.add (p : Pairs) (key : Nat × BitVec 3) (yl ys : Int) : Pairs :=
  let p := if p.key = some key then p else { key := some key }
  { p with n := p.n + 1, sumL := p.sumL + yl, sqL := p.sqL + yl * yl, sumS := p.sumS + ys, sqS := p.sqS + ys * ys }

/-- In SHADOW the spare takes a sample with every sample of the live slice; its own coefficient corrects it (R106, R107). DESIGN
CHOICE (log entry 123): an overrange sample of the spare does not count in ADC_OVR (R85). -/
def State.shadowSample (s : State) (g : GroupIx) (l : LaneIx) (k : Sampling) (yl : Int) (spare : BitVec 20) : State :=
  let tb := (s.grp g).tb
  if tb.st = .shadow ∧ tb.lane = l ∧ tb.pairs.n < s.tbPairs then
    let sl := (s.grp g).slices[tb.spare]
    let ys := { k with gain := sl.gain, ofs := sl.ofs }.correct spare
    s.modG g fun gr => { gr with tb := { gr.tb with pairs := gr.tb.pairs.add (k.src, k.range) yl ys } }
  else s

/-- A signed error word of 24 bits; free where the field does not hold the value. -/
def matchField (v : Int) (free : BitVec 24) : BitVec 24 :=
  if -8388608 ≤ v ∧ v < 8388608 then BitVec.ofInt 24 v else free

/-- The judgement of R107 from what SHADOW collected, in 1/16 codes: whether the gain is held, the two error words, and
whether the match is accepted. Variances n·Σx² − (Σx)² stand for the standard deviations. DESIGN CHOICE (log entry 122): a standard
deviation is that of the n samples themselves, over n. -/
def State.tbJudge (s : State) (p : Pairs) : Bool × BitVec 24 × BitVec 24 × Bool :=
  let vl := ((p.n : Int) * p.sqL - p.sumL * p.sumL).toNat
  let vs := ((p.n : Int) * p.sqS - p.sumS * p.sumS).toNat
  let sd := 16 * s.regF (adr pCAL 0x09) 0 16
  let gl := s.regF (adr pCAL 0x0A) 0 24
  let ol := s.regF (adr pCAL 0x0B) 0 24
  let held := decide (vl < (sd * p.n) * (sd * p.n))
  let okG := decide ((2 ^ 26 - gl) * (2 ^ 26 - gl) * vs ≤ 2 ^ 52 * vl) && decide (2 ^ 52 * vl ≤ (2 ^ 26 + gl) * (2 ^ 26 + gl) * vs) &&
    vs != 0
  let okO := decide ((p.sumL - p.sumS).natAbs ≤ ol * p.n)
  let root := isqrt (2 ^ 52 * vl / max vs 1)
  let exact := decide (root * root * vs = 2 ^ 52 * vl)
  let up := !exact && Config.roundsUp 1 vl vs
  let ge : BitVec 24 :=
    if vs = 0 then Config.matchWord true p.n p.sumL p.sqL p.sumS p.sqS
    else matchField ((root + b2n up : Nat) - 2 ^ 26) (Config.matchWord true p.n p.sumL p.sqL p.sumS p.sqS)
  let oe := matchField (freeRound 2 (p.sumL - p.sumS) p.n) (Config.matchWord false p.n p.sumL p.sqL p.sumS p.sqS)
  (held, ge, oe, (held || okG) && okO)

/-- TB_MATCH judges the match and stages the handover, or moves on (R107 to R109). -/
def State.tbMatch (s : State) (g : GroupIx) : State :=
  let tb := (s.grp g).tb
  if tb.st ≠ .match then s
  else
    let (held, ge, oe, ok) := s.tbJudge tb.pairs
    let s := (s.setReg (adr (pGRP g) 0x2E) (ge.setWidth 32)).setReg (adr (pGRP g) 0x2F) (oe.setWidth 32)
    let s := s.modG g fun gr => { gr with tb := { gr.tb with gainHeld := held, pairs := {} } }
    if ok then s.modG g fun gr => { gr with tb := { gr.tb with st := .handover } }
    else
      let s := (s.raise (srcGRP g) kTB_MISMATCH (chanNo g tb.lane)).bump (adr pCAL 0x0D)
      (s.event pCAL 0).modG g fun gr => gr.tbShadow (nextLane gr.tb.lane)

/-- Whether the present cycle lies in the lock window of a frame (02 R24, R25). -/
def State.lockWindow (s : State) : Bool := decide (s.esc.pos.toNat < 64)

/-- The lane takes its samples from the spare; the freed slice goes to RECAL (R109). DESIGN CHOICE (log entry 81): during
RECAL, when no slice is the spare, TB_STATE.SPARE goes on showing the slice that now serves the lane. -/
def Group.handover (g : Group) : Group :=
  let l := g.tb.lane
  let old := g.sliceIx l
  let new := g.tb.spare
  let o := g.slices[old]
  let g := { g with slices := vmod g.slices new fun sl =>
    { sl with powered := o.powered, warming := o.warming, job := o.job, next := o.next } }
  let g := { g with slices := vmod g.slices old fun sl =>
    { sl with powered := false, warming := false, job := none, next := none } }
  { g with tb := { g.tb with st := .recal, serve := g.tb.serve.set l.val new l.isLt, freed := old } }

/-- The first SEQ cycle of a frame whose samples the spare may take (R109). -/
def handoverCycle : Nat := 17

/-- The staged handover of an accepted match, in the lock window of the frame after: time passes to the end of SEQ cycle 16,
and samples from then on come from the spare (R109). -/
def State.handoverNow (s : State) (g : GroupIx) : State :=
  if (s.grp g).tb.st = .handover ∧ s.lockWindow = true then (s.passTo handoverCycle).modG g Group.handover else s

/-- The staged handover takes place. -/
def execTbHandover (g : GroupIx) (s : State) : Host.Outcome State Fault Refusal := .next (s.handoverNow g)

/-- Whether a lane of the group is linked to the waveform source (08 R219, R220). -/
def Group.waveLinked (g : Group) : Bool :=
  g.chans.toList.any fun c => c.fe.stage.link == .wave || c.fe.driver.linkVih || c.fe.driver.linkVil

/-- A rotation halts with VREF_RANGE (R110); the freed slice is the spare again (log entry 19). -/
def State.tbHalt (s : State) (g : GroupIx) : State :=
  let s := s.raise (srcGRP g) kVREF_RANGE 0
  let s := s.modG g fun gr => { gr with tb := { gr.tb with st := .halted, spare := gr.tb.freed, newCoef := none } }
  (s.event pCAL 1).event pCAL 2

/-- The VREF conversions of RECAL are done: sums of 16,384 samples at VREF_G and at VREF_S (R110). DESIGN CHOICE (log entry
83): the 1 % is judged on the measured span of the two means against the nominal span. The derived
coefficients wait for the next tick, and for the waveform DAC's readings where those are taken (12 R304). -/
def execTbRecalDone (g : GroupIx) (sumG sumS : Nat) (s : State) : Host.Outcome State Fault Refusal := .next <|
  let gr := s.grp g
  if gr.tb.st ≠ .recal ∨ gr.tb.newCoef.isSome = true then s
  else
    let span : Int := (sumS : Int) - (sumG : Int) - 524288 * 16384
    let base : Int := (sumG : Int) - 262144 * 16384
    if 524288 * 16384 < span.natAbs * 100 ∨ 10486 * 16384 < base.natAbs then s.tbHalt g
    else
      let dac := gr.wav.st == .idle && !gr.waveLinked
      s.modG g fun gr => { gr with tb := { gr.tb with
        newCoef := some (Config.recalGain sumG sumS, Config.recalOffset sumG sumS), wdac := dac } }

/-- The waveform DAC's readings are complete: sums of 256 samples at codes 2,048 and 14,336, nominally 131,072 and
917,504 (12 R304, 08 R218). -/
def execWdacCalDone (g : GroupIx) (sumLo sumHi : Nat) (s : State) : Host.Outcome State Fault Refusal := .next <|
  let gr := s.grp g
  if gr.tb.st = .recal ∧ gr.tb.wdac = true then
    let span : Int := (sumHi : Int) - (sumLo : Int) - 786432 * 256
    let s := s.modG g fun gr => { gr with tb := { gr.tb with wdac := false } }
    if 786432 * 256 < span.natAbs * 100 then s.raise (srcGRP g) kVREF_RANGE 0
    else s.modG g fun gr => { gr with tb := { gr.tb with newCal := some (Config.wdacCal sumLo sumHi) } }
  else s

/-- Slice coefficients and the DAC's staged at RECAL take effect; the slice becomes the spare and the rotation goes
on (R110, 12 R304). -/
def State.tbTick (s : State) (g : GroupIx) : State :=
  let tb := (s.grp g).tb
  match tb.st, tb.newCoef, tb.wdac with
  | .recal, some (gain, ofs), false =>
    let s := match tb.newCal with
      | some v => s.setReg (adr (pWAV g) 0x13) v
      | none => s
    let s := s.modG g fun gr => { gr with slices := vmod gr.slices gr.tb.freed fun sl => { sl with gain := gain, ofs := ofs } }
    let s := s.modG g fun gr => { gr with tb := { gr.tb with spare := gr.tb.freed } }
    (s.modG g fun gr => gr.tbShadow (nextLane gr.tb.lane)).bump (adr pCAL 0x0C)
  | _, _, _ => s

/-! ## Force-path holds (R111, R112; 12 R301, R302) -/

/-- Slots of hold point p: settling and 512 conversions (12 R301). -/
def fpPointSlots (p : Nat) : Nat :=
  512 + [4, 4, 4, 4, 5, 5, 12, 12, 60, 60, 400, 400, 4, 4, 4, 4].getD p 0

/-- SEQ cycle of the present frame from which a group's hold sequencer runs: 64 in the first held frame (12 R301). -/
def Group.holdFrom (gr : Group) : Nat := if gr.holdFrames = 0 then 64 else 0

/-- Slots that a hold sequencer may have had in this frame by now, one for each µs, 200 SEQ cycles, less those it has had
(12 R301). -/
def State.holdTime (s : State) (g : GroupIx) : Nat :=
  let gr := s.grp g
  (s.esc.pos.toNat - gr.holdFrom) / 200 - gr.holdUsed

/-- What is left of the CAL ADC budget of a group, slack apart: the hold sequencer has first claim on it, also where other work
of CAL has stopped there (12 R301). -/
def State.calBudget (s : State) (g : GroupIx) : Nat := s.scopeBudget (some g) 1 cCAL.val - s.used (some g) 1 cCAL.val

/-- The hold sequencer goes on for a number of slots of the group's CAL ADC budget, one for each µs that has passed; with
enough of them the point is done with its reading; when the budget is spent it pauses until the next tick and CAL is starved
(12 R301, R299). -/
def State.fpPoint (s : State) (g : GroupIx) (reading : BitVec 20) (slots : Nat) : State :=
  let gr := s.grp g
  if gr.hold = 0 ∨ 16 ≤ gr.holdPts.length then s
  else
    let need := fpPointSlots gr.holdPts.length - gr.holdSlots
    let asked := min (min slots need) (s.holdTime g)
    let n := min asked (s.calBudget g)
    let s := (s.pay (some g) 1 cCAL n).modG g fun gr => { gr with holdUsed := gr.holdUsed + n }
    if n = need then s.modG g fun gr => { gr with holdPts := gr.holdPts ++ [reading], holdSlots := 0 }
    else
      let s := s.modG g fun gr => { gr with holdSlots := gr.holdSlots + n }
      if n < asked then s.starved (some g) 1 cCAL (need - n) else s

/-- A point of the hold sequencer. -/
def execFpPointDone (g : GroupIx) (reading : BitVec 20) (slots : Nat) (s : State) : Host.Outcome State Fault Refusal :=
  .next (s.fpPoint g reading slots)

/-- Slots that a hold has still to have. -/
def Group.holdNeed (gr : Group) : Nat :=
  ((List.range 16).drop gr.holdPts.length).foldl (fun n p => n + fpPointSlots p) 0 - gr.holdSlots

/-- The first claim of a group's hold sequencer on the CAL ADC budget: the slots that it can still have in this frame
(12 R301). -/
def State.holdClaim (s : State) (g : GroupIx) : Nat :=
  let gr := s.grp g
  if gr.hold = 0 then 0
  else min (min gr.holdNeed ((s.frameCycles - gr.holdFrom) / 200 - gr.holdUsed)) (s.calBudget g)

/-- Whether n slots are left for the other work of CAL in a group (12 R301, R299). -/
def State.calFits (s : State) (g : GroupIx) (n : Nat) : Bool := s.fits (some g) 1 cCAL (n + if n = 0 then 0 else s.holdClaim g)

/-- The one lane in a hold. -/
def Group.heldLane (g : Group) : Option LaneIx := (lanesOf g.hold).head?

/-- A hold ends with a result (12 R302). -/
def State.endHold (s : State) (g : GroupIx) (l : LaneIx) (result : Nat) : State :=
  let now := s.rootNow
  let s := s.modG g fun gr => { gr with
    hold := setLane gr.hold l false, holdPts := [], holdSlots := 0, holdFrames := 0, holdRes := none, holdEnd := none }
  let s := if result = 0 then s.modG g fun gr => { gr with
      fpAt := gr.fpAt.set l.val (some now) l.isLt }
    else s
  s.holdResult g l result

/-- A hold ends in the lock window of the tick after FP_COMMIT (12 R302). -/
def execHoldEnd (g : GroupIx) (s : State) : Host.Outcome State Fault Refusal := .next <|
  match (s.grp g).heldLane, (s.grp g).holdEnd with
  | some l, some r => if s.lockWindow then s.endHold g l r.toNat else s
  | _, _ => s

/-- A hold has lasted FP_MAXF frames (12 R302, R312). DEDUCED (log entry 101): one that FP_COMMIT has ended does not time out at
the tick at which it ends. -/
def execFpTimeout (g : GroupIx) (s : State) : Host.Outcome State Fault Refusal := .next <|
  match (s.grp g).heldLane with
  | none => s
  | some l =>
    if s.lockWindow = true ∧ (s.grp g).holdEnd = none ∧ max (s.regF (adr pCAL 0x12) 0 16) 1 ≤ (s.grp g).holdFrames then
      (s.endHold g l 2).raise (srcGRP g) kFP_TIMEOUT 0
    else s

end Sys2Proof.Machine
end

