-- ==== Sys2Proof/Machine/Quads.lean ====
section
/-! DEFINITION. Cell quads (06): samples, the PI regulator, temperature, conditions, step starts and ends. -/

namespace Sys2Proof.Machine

open Sys2Proof

/-! ## Words (R167, R177, R180) -/

/-- A word of the step as copied (R176). -/
def Quad.w (q : Quad) (i : Nat) : Word := q.words.getD i 0

/-- MODE of the running step. -/
def Quad.mode (q : Quad) : Nat := fld (q.w 0) 0 4

/-- Direction s: 1 for charge, −1 for discharge (R162); OCV runs with 1 (R163). -/
def Quad.dir (q : Quad) : Int := if bit (q.w 0) 4 && q.mode != 6 then -1 else 1

/-- END_ACT = REST (R170). -/
def Quad.endRest (q : Quad) : Bool := bit (q.w 0) 5

/-- Header of condition i (R167). -/
def Quad.condHdr (q : Quad) (i : Nat) : Nat := fld (q.w (6 + i / 2)) (16 * (i % 2)) 16

/-- NEXT of condition i. -/
def Quad.condNext (q : Quad) (i : Nat) : BitVec 7 := BitVec.ofNat 7 (q.condHdr i / 32)

/-- A statistics word. -/
def Quad.stat (q : Quad) (i : Nat) : Word := q.stats.toList.getD i 0

/-- Statistics words set. -/
def Quad.setStat (q : Quad) (i : Fin 16) (v : Word) : Quad := { q with stats := q.stats.set i.val v i.isLt }

/-- A 64-bit statistic (items i and i + 1). -/
def Quad.stat64 (q : Quad) (i : Nat) : BitVec 64 := q.stat (i + 1) ++ q.stat i

/-- A 64-bit statistic set. -/
def Quad.setStat64 (q : Quad) (i : Fin 15) (v : BitVec 64) : Quad :=
  (q.setStat i.castSucc (v.setWidth 32)).setStat i.succ (v.extractLsb' 32 32)

/-- Step time in PI cycles (R169). -/
def Quad.time (q : Quad) : Nat := (q.stat64 0).toNat

/-- Latest V_SUM and I_SUM (R161). -/
def Quad.vSum (q : Quad) : Int := ((q.stat 6).toNat : Nat)

/-- See `vSum`. -/
def Quad.iSum (q : Quad) : Int := (q.stat 7).toInt

/-- A configuration word, by its offset, as read at the last PI boundary (R176). -/
def State.cfgQ (s : State) (g : GroupIx) (j : QuadIx) (o : Nat) : Word := (s.quad g j).cfg.getD (o - 0x301) 0

/-- A PI boundary reads words 0x301 to 0x30A (R176). -/
def State.readCfg (s : State) (g : GroupIx) (j : QuadIx) : State :=
  let ws := (List.range 10).map fun k => s.tblQ g j (0x301 + k)
  s.modQ g j fun q => { q with cfg := ws }

/-- V0 of a quad (R177). -/
def State.v0 (s : State) (g : GroupIx) (j : QuadIx) : BitVec 18 := (s.cfgQ g j 0x301).setWidth 18

/-- LOOPCFG.TEMP_EN. -/
def State.tempEn (s : State) (g : GroupIx) (j : QuadIx) : Bool := bit (s.cfgQ g j 0x306) 20

/-- LOOPCFG.TEMP_LANE. -/
def State.tempLane (s : State) (g : GroupIx) (j : QuadIx) : LaneIx := laneOf (fld (s.cfgQ g j 0x306) 16 4)

/-- Whether a word of a quad's area has wrong parity. -/
def State.tblQBad (s : State) (g : GroupIx) (j : QuadIx) (o : Nat) : Bool := s.tblBad g (1024 * j.val + o)

/-! ## Curves (R178) -/

/-- The 32 points of a curve: x signed or not, y signed or not. -/
def State.curve (s : State) (g : GroupIx) (j : QuadIx) (n : Nat) (sx sy : Bool) : List (Int × Int) :=
  (List.range 32).map fun p =>
    let w := s.tblQ g j (0x340 + 32 * (n - 1) + p)
    let x := fld w 16 16
    let y := fld w 0 16
    (if sx then signed 16 x else (x : Nat), if sy then signed 16 y else (y : Nat))

/-- Whether the x values rise strictly. -/
def rising : List (Int × Int) → Bool
  | a :: b :: r => decide (a.1 < b.1) && rising (b :: r)
  | _ => true

/-- Linear interpolation, truncated toward zero; outside the curve the nearest end, marked (R178). -/
def interp : List (Int × Int) → Int → Int × Bool
  | [], _ => (0, true)
  | [a], x => (a.2, a.1 != x)
  | a :: b :: r, x =>
    if x < a.1 then (a.2, true)
    else if x ≤ b.1 then (Int.tdiv (a.2 * (b.1 - a.1) + (x - a.1) * (b.2 - a.2)) (b.1 - a.1), false)
    else interp (b :: r) x

/-- CURVE and CURVE_USE of the step, where a limit curve acts. -/
def Quad.limitCurve (q : Quad) : Option (Nat × Nat) :=
  let c := fld (q.w 0) 11 3
  let use := fld (q.w 0) 14 2
  if c = 0 ∨ use = 0 then none else some (c, use)

/-- TCURVE (R177). -/
def State.tempCurve (s : State) (g : GroupIx) (j : QuadIx) : Nat := fld (s.cfgQ g j 0x306) 21 3

/-- Whether curve n is missing or does not rise (R177, R178). -/
def State.noCurve (s : State) (g : GroupIx) (j : QuadIx) (n : Nat) (sx : Bool) : Bool :=
  n == 0 || n == 7 || !rising (s.curve g j n sx true)

/-- Whether the temperature curve is in use and no curve (R178). -/
def State.tempCurveBad (s : State) (g : GroupIx) (j : QuadIx) : Bool :=
  s.tempEn g j && s.noCurve g j (s.tempCurve g j) false

/-- Whether a curve that the quad uses is missing or does not rise: cause CONFIG (R177, R178). -/
def State.curveBad (s : State) (g : GroupIx) (j : QuadIx) : Bool :=
  s.tempCurveBad g j ||
    (match (s.quad g j).limitCurve with
     | none => false
     | some (c, _) => s.noCurve g j c true)

/-- Offsets of the words of curve n (R177, R178). -/
def curveWords (n : Nat) : List Nat := if n = 0 ∨ n = 7 then [] else (List.range 32).map fun p => 0x340 + 32 * (n - 1) + p

/-- Offsets of the words of the step's limit curve. -/
def Quad.limitWords (q : Quad) : List Nat :=
  match q.limitCurve with
  | some (c, _) => curveWords c
  | none => []

/-- Offsets of the words that a boundary reads (R176): configuration, the temperature curve in use, and the limit curve of a step
that runs. -/
def State.boundaryWords (s : State) (g : GroupIx) (j : QuadIx) : List Nat :=
  let q := s.quad g j
  let t := if s.tempEn g j then curveWords (s.tempCurve g j) else []
  let c := if q.st = .running ∨ q.st = .ending ∨ q.st = .paused then q.limitWords else []
  (List.range 10).map (0x301 + ·) ++ t ++ c

/-- Whether a word the boundary reads has wrong parity (R176). -/
def State.cfgParity (s : State) (g : GroupIx) (j : QuadIx) : Bool := (s.boundaryWords g j).any (s.tblQBad g j)

/-- The words read with wrong parity are counted, each with its own location (11 R293). -/
def State.countParity (s : State) (g : GroupIx) (j : QuadIx) (words : List Nat) : State :=
  (words.filter (s.tblQBad g j)).foldl (fun s o => s.parityError 4 (1024 * j.val + o)) s

/-- Offsets of the words of a step (R167). -/
def stepWords (n : Nat) : List Nat := (List.range 12).map (12 * n + ·)

/-! ## Samples (R161, R179, R180, R183) -/

/-- A pair of samples of one edge enters E_STEP (R180). -/
def Quad.pairUp (q : Quad) : Quad :=
  match q.acc.xAt, q.acc.vAt with
  | some (b, x), some (b', v) =>
    if b = b' then
      let total := (q.stat64 4).toInt * 65536 + (q.rem.toNat : Int) + x * v
      { q.setStat64 4 (BitVec.ofInt 64 (total / 65536)) with
        rem := BitVec.ofInt 16 (total % 65536), acc := { q.acc with xAt := none, vAt := none } }
    else q
  | _, _ => q

/-- A counted sample of channel 4q+1 in the sums of the PI cycle (R161). -/
def Quad.sumI (q : Quad) (x : Int) : Quad := { q with acc := { q.acc with i := q.acc.i + x, ni := q.acc.ni + 1 } }

/-- A counted sample of channel 4q+3, in 1/16 codes, in the sums of the PI cycle (R161). -/
def Quad.sumV (q : Quad) (y16 : Int) : Quad := { q with acc := { q.acc with v := q.acc.v + y16, nv := q.acc.nv + 1 } }

/-- A counted sample of channel 4q+1 in the step's statistics (R180). -/
def Quad.current (q : Quad) (b : Nat) (x : Int) : Quad :=
  let q := { q with acc := { q.acc with xAt := some (b, x) } }
  (q.setStat64 2 (q.stat64 2 + BitVec.ofInt 64 x)).pairUp

/-- A counted sample of channel 4q+3 in the step's statistics (R180). -/
def Quad.voltage (q : Quad) (b : Nat) (y : Int) : Quad :=
  ({ q with acc := { q.acc with vAt := some (b, y - 262144) } }).pairUp

/-- Whether a quad's step statistics run: in RUNNING and ENDING (R161, R174). -/
def Quad.counts (q : Quad) : Bool := q.st == .running || q.st == .ending

/-- A sample taken on clock edge `b` enters the sums of the PI cycle and, in RUNNING and ENDING, the statistics; only the
sources of R158 count (R161, R180). -/
def Quad.sample (q : Quad) (role src b : Nat) (y16 y : Int) : Quad :=
  if role = 1 ∧ src = 2 then
    let x := y - 524288
    if q.counts then (q.sumI x).current b x else q.sumI x
  else if role = 3 ∧ src = 0 then (if q.counts then (q.sumV y16).voltage b y else q.sumV y16)
  else q

/-- The absolute limit that a corrected sample violates: every sample of channel 4q+3, every x_i of channel 4q+1 (R183). -/
def State.limitCause (s : State) (g : GroupIx) (j : QuadIx) (role src : Nat) (y16 y : Int) : Option Nat :=
  let lim (o : Nat) : Int := ((fld (s.cfgQ g j o) 0 20 : Nat) : Int)
  if role = 3 then
    (if 16 * lim 0x307 < y16 then some 1 else if y16 < 16 * lim 0x308 then some 2 else none)
  else if role = 1 ∧ (src = 1 ∨ src = 2) ∧ lim 0x309 < (y - 524288).natAbs then some 3
  else none

/-- A VNODE sample of a lane is there for every quad of the group: its next boundary says which lane is its thermistor's
(R179). -/
def State.seen (s : State) (g : GroupIx) (l : LaneIx) : State :=
  s.modG g fun gr => { gr with quads := vmap (fun q : Quad => { q with tSeen := setLane q.tSeen l true }) gr.quads }

/-- A corrected sample of a lane reaches its quad: sums and statistics, the thermistor, absolute limits (R161, R179, R180,
R183). -/
def State.quadSample (s : State) (g : GroupIx) (l : LaneIx) (src : Nat) (edge : Option Nat) (y16 : Int) : State :=
  let j := quadOf l
  let y := roundUp y16 16
  let role := l.val % 4
  let s : State :=
    match edge with
    | none => s
    | some b => if (s.grp g).piAt ≤ b then s.modQ g j fun q => q.sample role src b y16 y else s
  let s : State := if src = 0 then s.seen g l else s
  if s.mode = .mirror then s
  else
    match s.limitCause g j role src y16 y with
    | some c => s.quadFault g j c
    | none => s

/-! ## The regulator (R162, R163) -/

/-- CAP of a CP or CR step (R163). -/
def State.quadCap (s : State) (g : GroupIx) (j : QuadIx) : Int :=
  let aux := fld ((s.quad g j).w 3) 0 20
  if aux = 0 then ((fld (s.cfgQ g j 0x309) 0 20 : Nat) : Int) else ((aux : Nat) : Int)

/-- Current and voltage targets of the step, before a limit curve (R163). -/
def State.baseTargets (s : State) (g : GroupIx) (j : QuadIx) : Int × Int :=
  let q := s.quad g j
  let code (i : Nat) : Int := ((fld (q.w i) 0 20 : Nat) : Int)
  let set : Int := ((q.w 1).toNat : Nat)
  let dv := q.vSum - 1048576
  let cap := s.quadCap g j
  match q.mode with
  | 1 => (code 1, code 2)
  | 2 => (code 2, code 1)
  | 3 => (if dv ≤ 0 then cap else min cap (set * 262144 / dv), code 2)
  | 4 => (if dv * set < 0 then 0 else min cap (dv * set / 4194304), code 2)
  | 5 => (if q.pulse then code 3 else code 1, code 2)
  | _ => (0, 0)

/-- Targets with the limit curve at the temperature T, and whether T lies outside it (R178). -/
def State.targets (s : State) (g : GroupIx) (j : QuadIx) : Int × Int × Bool :=
  let q := s.quad g j
  let (it, vt) := s.baseTargets g j
  match q.limitCurve with
  | none => (it, vt, false)
  | some (c, use) =>
    let t := signed 16 (q.stat 10).toNat
    let (y, out) := interp (s.curve g j c true false) t
    if use = 1 then (min it (8 * y), vt, out)
    else (it, if q.dir = 1 then min vt (16 * y) else max vt (16 * y), out)

/-- One loop: the increment and the remainder (R162). -/
def piStep (e ePrev r kp ki : Int) (shift : Nat) : Int × Int :=
  let acc := kp * (e - ePrev) + ki * e + r
  let du := acc / 2 ^ shift
  (du, acc - du * 2 ^ shift)

/-- Signed gains KP and KI of a gain word (R177). -/
def gains (w : Word) : Int × Int := (signed 16 (fld w 16 16), signed 16 (fld w 0 16))

/-- The regulator's update from the latest sums (R162); a saturated output whose selected error pushes further is
counted (R183). -/
def State.regulate (s : State) (g : GroupIx) (j : QuadIx) : State :=
  let q := s.quad g j
  let sg := q.dir
  let (it, vt, out) := s.targets g j
  let eI := 4 * it - sg * q.iSum
  let eV := sg * (4 * vt - q.vSum)
  let lc := s.cfgQ g j 0x306
  let (kpI, kiI) := gains (s.cfgQ g j 0x304)
  let (kpV, kiV) := gains (s.cfgQ g j 0x305)
  let (dI, rI) := piStep eI q.pi.eI q.pi.rI kpI kiI (fld lc 0 5)
  let (dV, rV) := piStep eV q.pi.eV q.pi.rV kpV kiV (fld lc 8 5)
  let u0 : Int := (q.pi.u.toNat : Nat)
  let uI := u0 + sg * dI
  let uV := u0 + sg * dV
  let useI := q.mode == 6 || (if sg = 1 then decide (uI ≤ uV) else decide (uV ≤ uI))
  let lo : Int := ((fld (s.cfgQ g j 0x302) 0 18 : Nat) : Int)
  let hi : Int := ((fld (s.cfgQ g j 0x303) 0 18 : Nat) : Int)
  let u := clampInt lo hi (if useI then uI else uV)
  let push := sg * (if useI then eI else eV)
  let pushing := (u == hi && decide (0 < push)) || (u == lo && decide (push < 0))
  s.modQ g j fun q =>
    { q with
      pi := { u := BitVec.ofInt 18 u, eI := eI, eV := eV, rI := rI, rV := rV },
      sat := if pushing then q.sat + 1 else 0,
      stats := if out then q.stats.set 15 ((q.stats[15]) ||| 0x02000000#32) else q.stats }

/-- The output goes to V0 (R162). -/
def State.restQuad (s : State) (g : GroupIx) (j : QuadIx) : State :=
  let v := s.v0 g j
  s.modQ g j fun q => { q with pi := { q.pi with u := v }, sat := 0 }

/-! ## The PI cycle that ends at a boundary (R161, R180) -/

/-- A complete cycle's V_SUM in the extremes and the blocks (R180). -/
def Quad.cycleStats (q : Quad) : Quad :=
  let v := q.stat 6
  let q := q.setStat 8 (if v.toNat < (q.stat 8).toNat then v else q.stat 8)
  let q := q.setStat 9 (if (q.stat 9).toNat < v.toNat then v else q.stat 9)
  let n := 2 ^ fld (q.w 0) 6 5
  let q := { q with blkSum := q.blkSum + q.vSum, blkN := q.blkN + 1, blkEnd := false }
  if q.blkN < n then q
  else
    let m : Word := BitVec.ofInt 32 (roundUp q.blkSum n)
    let q := if q.blkCnt = 0 then q.setStat 12 m else q.setStat 11 (m - q.stat 13)
    let q := q.setStat 13 m
    { q with blkSum := 0, blkN := 0, blkCnt := q.blkCnt + 1, blkEnd := decide (1 ≤ q.blkCnt) }

/-- The cycle ends: its sums, whether it was complete, and in RUNNING and ENDING the step's time and statistics (R161,
R169, R180). -/
def Quad.cycle (q : Quad) : Quad :=
  let full := decide (4 ≤ q.acc.nv) && decide (4 ≤ q.acc.ni)
  let q := if full then
      (q.setStat 6 (BitVec.ofInt 32 (roundUp q.acc.v 16))).setStat 7 (BitVec.ofInt 32 q.acc.i)
    else q
  let q := if q.counts then
      let q := q.setStat64 0 (q.stat64 0 + 1)
      if full then q.cycleStats else { q with blkEnd := false }
    else q
  { q with fresh := full, acc := { q.acc with v := 0, i := 0, nv := 0, ni := 0 } }

/-- T is formed, or its lane is missed for one boundary more of RUNNING or ENDING (R179; log entry 85). DESIGN CHOICE (log entry
125): where TEMP_EN is cleared in mid-step, a step that uses T goes on with T = 0. -/
def State.temperature (s : State) (g : GroupIx) (j : QuadIx) : State :=
  if s.tempEn g j then
    let q := s.quad g j
    if lane q.tSeen (s.tempLane g j) then
      let x := (s.chan g (s.tempLane g j)).ms.lastY / 16
      let (t, out) := interp (s.curve g j (s.tempCurve g j) false true) x
      s.modQ g j fun q =>
        let q := (q.setStat 10 (BitVec.ofNat 32 (BitVec.ofInt 16 t).toNat))
        { q with tMiss := 0, stats := if out then q.stats.set 15 (q.stats[15] ||| 0x02000000#32) else q.stats }
    else s.modQ g j fun q => { q with tMiss := if q.counts then q.tMiss + 1 else q.tMiss }
  else s.modQ g j fun q => q.setStat 10 0

/-- What every boundary forms: the configuration words as they stand, the sums of the cycle, T; wrong parity of a word read is
counted (R161, R176, R179). -/
def State.formBoundary (s : State) (g : GroupIx) (j : QuadIx) : State :=
  let s := (s.readCfg g j).modQ g j Quad.cycle
  let s := if s.tempCurveBad g j then s else s.temperature g j
  (s.modQ g j fun q => { q with tSeen := 0 }).countParity g j (s.boundaryWords g j)

/-- Whether T is outside TMIN to TMAX (R177, R183). -/
def State.tempOut (s : State) (g : GroupIx) (j : QuadIx) : Bool :=
  let w := s.cfgQ g j 0x30A
  let t := signed 16 ((s.quad g j).stat 10).toNat
  s.tempEn g j && (decide (signed 16 (fld w 16 16) < t) || decide (t < signed 16 (fld w 0 16)))

/-! ## Conditions (R168, R169) -/

/-- Whether the comparison of a condition holds on the latest values (R168). -/
def Quad.condTrue (q : Quad) (i : Nat) : Bool :=
  let h := q.condHdr i
  let le := (h / 16) % 2 == 1
  let thr := q.w (8 + i)
  let cmp (a b : Int) : Bool := if le then decide (a ≤ b) else decide (b ≤ a)
  match h % 16 with
  | 2 => cmp q.iSum.natAbs (4 * thr.toNat : Nat)
  | 3 => cmp q.vSum (4 * thr.toNat : Nat)
  | 4 => decide (2 ^ 20 * thr.toNat ≤ (q.stat64 2).toInt.natAbs)
  | 5 => cmp (q.stat 11).toInt thr.toInt
  | 6 => cmp (signed 16 (q.stat 10).toNat) thr.toInt
  | _ => false

/-- Whether condition i is judged at this boundary (R168, R169): not its TYPE-less first one in PULSE, CURRENT and
VOLTAGE on complete cycles, DVDT at block ends. -/
def Quad.judged (q : Quad) (i : Nat) : Bool :=
  q.evalAll && !(q.mode == 5 && i == 0) &&
    (match q.condHdr i % 16 with
     | 2 => q.fresh
     | 3 => q.fresh
     | 5 => q.blkEnd
     | _ => true)

/-- The QUAL counters after this boundary. -/
def Quad.judge (q : Quad) : Quad :=
  { q with qual := Vector.ofFn fun i : Fin 4 =>
      if q.judged i.val then (if q.condTrue i.val then q.qual[i] + 1 else 0) else q.qual[i] }

/-- Whether condition i has qualified (R169). -/
def Quad.qualified (q : Quad) (i : Fin 4) : Bool :=
  if q.mode == 5 && i == 0 then false
  else if q.condHdr i.val % 16 = 1 then decide (250 * (q.w (8 + i.val)).toNat ≤ q.time)
  else decide (max (fld (q.w 4) 16 8) 1 ≤ q.qual[i])

/-! ## Boundaries -/

/-- Whether the latest clock edge of a group is a PI boundary that has been taken (R160). -/
def Group.onBoundary (gr : Group) : Bool := gr.edges != 0 && gr.edges % 4 == 0 && gr.edges == gr.piAt

/-- A start pending at this boundary begins here, at or after SEQ cycle 16 of the tick (R165). -/
def State.startsHere (s : State) (g : GroupIx) (j : QuadIx) : Bool :=
  let gr := s.grp g
  (s.quad g j).due && gr.onBoundary && decide (16 + (s.rootNow - gr.edgeAt) / 16 ≤ s.esc.pos.toNat)

/-- Lowest cause detected at a boundary (R183): TEMP, SENSE in RUNNING and ENDING, TBL_PARITY, CONFIG. -/
def State.boundaryCause (s : State) (g : GroupIx) (j : QuadIx) : Option Nat :=
  let q := s.quad g j
  if s.tempOut g j then some 4
  else if q.counts && !q.fresh && !q.wait then some 7
  else if s.cfgParity g j then some 8
  else if s.curveBad g j then some 9
  else none

/-- The base period of a PULSE step ends at the boundary at which its time has passed: V_b and I_b are that boundary's,
and the regulator goes on with AUX (R171). DESIGN CHOICE (log entry 108): a step that has entered ENDING in its base period
stays at SET. DESIGN CHOICE (log entry 126): after a takeover in the pulse period, V_b and I_b are those of the first boundary. -/
def Quad.endBase (q : Quad) : Quad :=
  if q.st == .running && q.mode == 5 && !q.pulse && decide (250 * max (fld (q.w 5) 0 16) 1 ≤ q.time) then
    { q with pulse := true, vb := q.vSum, ib := q.iSum }
  else q

/-- The output after a boundary that no fault ends: V0, or the regulator's (R162, R170, R174). -/
def State.driveQuad (s : State) (g : GroupIx) (j : QuadIx) : State :=
  let s := s.modQ g j fun q => (Quad.endBase { q with wait := q.wait && !q.fresh })
  let q := s.quad g j
  if s.startsHere g j then s
  else
    let s := if q.counts = false ∨ q.mode = 0 ∨ q.wait = true ∨ (q.st = .ending ∧ q.endRest = true) then s.restQuad g j
      else s.regulate g j
    if q.st = .running then s.modQ g j Quad.judge else s

/-- A boundary of a running, ending or paused quad (R161 to R170, R183). -/
def State.runBoundary (s : State) (g : GroupIx) (j : QuadIx) : State :=
  let s := s.formBoundary g j
  match s.boundaryCause g j with
  | some c => s.quadFault g j c
  | none => s.driveQuad g j

/-- A write of RUN = 0 takes effect: IDLE, u = V0; a step that was running or paused ends with ABORT (R173). -/
def State.runClear (s : State) (g : GroupIx) (j : QuadIx) : State :=
  let s := s.formBoundary g j
  let q := s.quad g j
  let s := if q.counts || q.st == .paused then s.modQ g j fun q => q.endStep 4 else s
  (s.modQ g j fun q => { q with st := .idle, runClear := false, due := false, wait := false, pulse := false }).restQuad g j

/-- Whether the quads only accumulate: in MIRROR, and after a takeover up to SEQ cycle 16 (R175, 17 R422, R424). -/
def State.quadsFollow (s : State) : Bool :=
  s.mode == .mirror || (s.pair.takeAt == some s.esc.frame && decide (s.esc.pos.toNat < 16))

/-- One quad at a PI boundary. In MIRROR the sequencer takes its state from the mirror stream, and its statistics
take what this unit measures (R175, 17 R422). -/
def State.quadBoundary (s : State) (g : GroupIx) (j : QuadIx) : State :=
  let q := s.quad g j
  if s.quadsFollow then s.formBoundary g j
  else if q.runClear then s.runClear g j
  else if q.counts || q.st == .paused then s.runBoundary g j
  else (s.formBoundary g j).restQuad g j

/-- Whether the latest clock edge is a PI boundary not yet taken: its count since BOOT is a multiple of 4 (R160). -/
def State.atBoundary (s : State) (g : GroupIx) : Bool :=
  let gr := s.grp g
  gr.edges % 4 == 0 && gr.edges != gr.piAt && s.mode != .reset && s.mode != .boot && !s.clk.gated

/-- A PI boundary of the group's four quads (R160). -/
def State.piBoundary (s : State) (g : GroupIx) : State :=
  if s.atBoundary g then
    let s := s.modG g fun gr => { gr with piAt := gr.edges }
    (below 4).foldl (fun s j => s.quadBoundary g j) s
  else s

/-- A PI boundary. -/
def execPiBoundary (g : GroupIx) (s : State) : Host.Outcome State Fault Refusal := .next (s.piBoundary g)

/-- The holdoff ends at the boundary now due: the other conditions are evaluated from it on (R169). -/
def execHoldoffExpiry (g : GroupIx) (j : QuadIx) (s : State) : Host.Outcome State Fault Refusal := .next <|
  let q := s.quad g j
  if q.st = .running ∧ s.quadsFollow = false ∧
    250 * fld (q.w 4) 0 16 ≤ q.time + 1 then s.modQ g j fun q => { q with evalAll := true } else s

/-- A condition has qualified: COND and the successor latch (R169, R170). -/
def State.terminate (s : State) (g : GroupIx) (j : QuadIx) (cond : Nat) : State :=
  let s := s.modQ g j fun q => { q with st := .ending, cond := BitVec.ofNat 3 cond, succ := some (q.condNext cond) }
  if (s.quad g j).endRest then s.restQuad g j else s

/-- The lowest-numbered condition that qualifies wins (R169). -/
def execQuadTermination (g : GroupIx) (j : QuadIx) (s : State) : Host.Outcome State Fault Refusal := .next <|
  let q := s.quad g j
  if q.st = .running ∧ s.mode ≠ .mirror then
    match (below 4).find? q.qualified with
    | some i => s.terminate g j i.val
    | none => s
  else s

/-- RDC of a pulse step; free where the quotient does not fit the word (R171; log entry 4). -/
def Quad.rdc (q : Quad) : Word :=
  let d := q.ib - q.iSum
  let v := q.vb - q.vSum
  let r := if d = 0 then -1 else Int.fdiv (65536 * v) d
  if r < 0 then 0xFFFFFFFF else if r < 2 ^ 32 then BitVec.ofInt 32 r else Config.rdcWord v d

/-- The base period of a PULSE step ends, or its pulse period ends and the step terminates (R171). -/
def execPulsePeriodEnd (g : GroupIx) (j : QuadIx) (s : State) : Host.Outcome State Fault Refusal := .next <|
  let q := s.quad g j
  let tb := 250 * max (fld (q.w 5) 0 16) 1
  let tp := 250 * max (fld (q.w 5) 16 16) 1
  if q.st = .running ∧ q.mode = 5 ∧ s.mode ≠ .mirror then
    if q.pulse = true ∧ tb + tp ≤ q.time then (s.modQ g j fun q => q.setStat 14 q.rdc).terminate g j 0
    else s.modQ g j Quad.endBase
  else s

/-- u has been held at a clamp for SAT_MS ms (R183). -/
def execQuadSatTimeout (g : GroupIx) (j : QuadIx) (s : State) : Host.Outcome State Fault Refusal := .next <|
  let ms := fld (s.cfgQ g j 0x306) 24 8
  if ms ≠ 0 ∧ 250 * ms ≤ (s.quad g j).sat ∧ s.mode ≠ .mirror then s.quadFault g j 6 else s

/-- The thermistor lane has produced no sample for 250 boundaries (R179). -/
def execTempLaneTimeout (g : GroupIx) (j : QuadIx) (s : State) : Host.Outcome State Fault Refusal := .next <|
  let q := s.quad g j
  if q.counts = true ∧ s.tempEn g j = true ∧ 250 ≤ q.tMiss ∧ s.mode ≠ .mirror then s.quadFault g j 7 else s

/-! ## Step starts (R173, R176) -/

/-- QCTL of a quad. -/
def State.qctl (s : State) (g : GroupIx) (j : QuadIx) : Word := s.tblQ g j 0x300

/-- SLOT as QCTL holds it. -/
def State.qctlSlot (s : State) (g : GroupIx) (j : QuadIx) : Fin 8 :=
  ⟨fld (s.qctl g j) 16 3, Nat.lt_of_lt_of_le (Nat.mod_lt _ (by decide)) (by decide)⟩

/-- Slot of a quad's owner: QCTL's in IDLE; in any other state the one of its start, since a write of RUN = 1 has no effect
there (R173). -/
def State.quadSlot (s : State) (g : GroupIx) (j : QuadIx) : Fin 8 :=
  let q := s.quad g j
  if q.st = .idle then s.qctlSlot g j else q.slot

/-- Quads of the group that name a slot and are starting or active (R173 DECL). -/
def State.quadsOf (s : State) (g : GroupIx) (i : Fin 8) : Nat :=
  ((below 4).filter fun j => s.quadSlot g j == i && ((s.quad g j).starting || (s.quad g j).st.active)).length

/-- First failing check of a start from IDLE; 0 where all pass (R173). -/
def State.startReason (s : State) (g : GroupIx) (j : QuadIx) : Nat :=
  let i := s.quadSlot g j
  let sl := (s.grp g).slotNow i
  let step := fld (s.qctl g j) 8 6
  let hi := (s.chan g (quadLane j 3)).fe.hi
  let t := s.tempLane g j
  if s.mode ≠ .run then 1
  else if sl.st ≠ .repeat ∨ sl.cur = false then 2
  else if sl.d.toNat < 64 * s.quadsOf g i then 3
  else if (below 4).any (fun k => s.ganged g (quadLane j k)) then 4
  else if (s.chan g (quadLane j 0)).fe.linkedPi = false then 5
  else if hi.acting ≠ 4 ∨ hi.swClear = false then 6
  else if s.tempEn g j && (quadOf t == j || (s.quad g (quadOf t)).st.active) then 7
  else if (stepWords step).any (s.tblQBad g j) then 8
  else 0

/-- Whether the copied step cannot start (R163, R167, R168, R177, R178). -/
def State.stepBad (s : State) (g : GroupIx) (j : QuadIx) : Bool :=
  let q := s.quad g j
  let usesT := (List.range 4).any (fun i => q.condHdr i % 16 == 6 && !(q.mode == 5 && i == 0)) || q.limitCurve.isSome
  decide (7 ≤ q.mode) || fld (q.w 0) 11 3 == 7 || fld (q.w 0) 14 2 == 3 || (usesT && !s.tempEn g j) || s.curveBad g j

/-- Holds that a start or resume ends at once (12 R302): on channel 4q for a regulating step, on the thermistor
lane. -/
def State.abortFor (s : State) (g : GroupIx) (j : QuadIx) : State :=
  let s := if (s.quad g j).mode ≠ 0 then s.abortHold g (quadLane j 0) else s
  if s.tempEn g j then s.abortHold g (s.tempLane g j) else s

/-- A step's words and a fresh set of statistics (R164, R176, R180). DESIGN CHOICE (log entry 109): what E_STEP keeps below one
of its units starts at 0 with it. -/
def Quad.load (q : Quad) (n : BitVec 6) (ws : List Word) (hold : Bool) : Quad :=
  let st := q.stats.toList
  let keep (i : Nat) : Word := st.getD i 0
  { q with
    st := .running, step := n, cond := 7, cause := 0, reason := 0, serial := q.serial + 1, words := ws, succ := none,
    due := false, wait := hold, pulse := false, tMiss := if hold then 0 else q.tMiss, rem := 0, qual := Vector.replicate 4 0,
    blkSum := 0, blkN := 0, blkCnt := 0, blkEnd := false, period := 0, recDue := false,
    evalAll := fld (ws.getD 4 0) 0 16 == 0, acc := { q.acc with xAt := none, vAt := none },
    pi := { q.pi with eI := 0, eV := 0, rI := 0, rV := 0 },
    stats := Vector.ofFn fun i : Fin 16 =>
      match i.val with
      | 6 => keep 6
      | 7 => keep 7
      | 10 => keep 10
      | 8 => 0xFFFFFFFF
      | 14 => 0xFFFFFFFF
      | _ => 0 }

/-- A step starts: its words are copied and those of its limit curve read, and it faults, waits at V0, rests, or regulates at
once (R163 to R174). `hold`: it follows IDLE or PAUSED; `fromV0`: no output before it to continue from (R164). -/
def State.startStep (s : State) (g : GroupIx) (j : QuadIx) (n : BitVec 6) (hold fromV0 : Bool) : State :=
  let bad := (stepWords n.toNat).any (s.tblQBad g j)
  let ws := (stepWords n.toNat).map (s.tblQ g j)
  let s := s.modQ g j fun q => q.load n ws hold
  let s := s.abortFor g j
  let read := if bad then stepWords n.toNat else (s.quad g j).limitWords
  if read.any (s.tblQBad g j) then (s.countParity g j read).quadFault g j 8
  else if s.stepBad g j then s.quadFault g j 9
  else
    let q := s.quad g j
    if hold ∨ q.mode = 0 then s.restQuad g j
    else
      let s := if fromV0 then s.restQuad g j else s
      s.regulate g j

/-- The running step ends where its successor starts, or DONE is entered (R170). -/
def State.succeed (s : State) (g : GroupIx) (j : QuadIx) (n : BitVec 7) : State :=
  let q := s.quad g j
  let fromV0 := q.mode == 0 || q.mode == 6 || q.endRest || q.st == .paused || q.wait
  let hold := q.wait
  let s := s.modQ g j fun q => { q.endStep q.cond with due := false }
  if 64 ≤ n.toNat then
    (s.modQ g j fun q => { q with st := .done, wait := false, pulse := false }).restQuad g j
  else s.startStep g j (n.setWidth 6) hold fromV0

/-- At the first PI boundary after a tick a quad starts, is refused, or starts its successor (R165, R170, R173); in MIRROR the
sequencer starts nothing (R175). -/
def execQuadStepStart (g : GroupIx) (j : QuadIx) (s : State) : Host.Outcome State Fault Refusal := .next <|
  let q := s.quad g j
  if s.startsHere g j = false ∨ s.quadsFollow = true then s
  else if q.st = .idle then
    let n := fld (s.qctl g j) 8 6
    let i := s.qctlSlot g j
    let s := s.countParity g j [0x300]
    match s.startReason g j with
    | 0 => (s.modQ g j fun q => { q with slot := i }).startStep g j (BitVec.ofNat 6 n) true true
    | r =>
      let s := if r = 8 then s.countParity g j (stepWords n) else s
      s.modQ g j fun q => { q with st := .refused, reason := BitVec.ofNat 4 r, due := false, slot := i }
  else
    match q.st, q.succ with
    | .ending, some n => s.succeed g j n
    | _, _ => s.modQ g j fun q => { q with due := false }

/-! ## The tick (R174, R175) -/

/-- The step a quad is to start at the first PI boundary after the tick: from IDLE where no check fails, or its successor;
none for DONE (R165, R170, R173). -/
def State.dueStep (s : State) (g : GroupIx) (j : QuadIx) : Option Nat :=
  let q := s.quad g j
  if q.due then
    match q.st, q.succ with
    | .idle, _ => if s.startReason g j = 0 then some (fld (s.qctl g j) 8 6) else none
    | .ending, some n => if n.toNat < 64 then some n.toNat else none
    | _, _ => none
  else none

/-- Whether the step a quad is to start regulates: its MODE is not REST (R163). -/
def State.dueRegulates (s : State) (g : GroupIx) (j : QuadIx) : Bool :=
  (s.dueStep g j).any fun n => fld (s.tblQ g j (12 * n)) 0 4 != 0

/-- A start due at a tick ends holds at that tick (12 R302). -/
def State.abortDue (s : State) (g : GroupIx) (j : QuadIx) : State :=
  let s := if s.dueRegulates g j then s.abortHold g (quadLane j 0) else s
  if (s.dueStep g j).isSome && s.tempEn g j then s.abortHold g (s.tempLane g j) else s

/-- Whether a quad's owner is admitted for the frame the tick begins. -/
def State.quadAdmitted (s : State) (g : GroupIx) (j : QuadIx) : Bool :=
  s.runNow && (s.grp g).slotRuns (s.quadSlot g j)

/-- A quad at a tick: a wait not met faults with SENSE; without its owner it pauses; with it, it resumes; starts are
marked for the boundary after the tick (R165, R173, R174); QCTL is read, its parity counted (11 R293). In MIRROR only the frames
of the step count (R175, R182). DESIGN CHOICE (log entry 124): a QUAL count is kept across PAUSED. -/
def State.quadTick (s : State) (g : GroupIx) (j : QuadIx) : State :=
  if s.mode = .mirror then s.modQ g j fun q => { q with period := if q.counts then q.period + 1 else q.period }
  else
    let s := if (s.quad g j).counts && (s.quad g j).wait then s.quadFault g j 7 else s
    let q := s.quad g j
    let adm := s.quadAdmitted g j
    let s := s.modQ g j fun q => { q with
      starting := q.st == .idle && bit (s.qctl g j) 0, period := if q.counts then q.period + 1 else q.period }
    match q.st with
    | .idle => (s.modQ g j fun q => { q with due := q.starting }).countParity g j [0x300]
    | .running =>
      if adm then s
      else (s.modQ g j fun q => { q with
        st := .paused, wait := false,
        stats := q.stats.set 15 (q.stats[15] ||| 0x01000000#32) }).restQuad g j
    | .ending =>
      if adm then s.modQ g j fun q => { q with due := true }
      else (s.modQ g j fun q => { q with
        st := .paused, wait := false, due := false,
        stats := q.stats.set 15 (q.stats[15] ||| 0x01000000#32) }).restQuad g j
    | .paused =>
      if adm then
        let s := s.modQ g j fun q => { q with
          st := if q.succ.isSome then .ending else .running, due := q.succ.isSome, wait := true, tMiss := 0,
          acc := { q.acc with xAt := none, vAt := none }, pi := { q.pi with eI := 0, eV := 0, rI := 0, rV := 0 } }
        s.abortFor g j
      else s
    | .done => s
    | .faulted => s
    | .refused => s

/-- A STOP that ends RUN pauses every active quad (R175). -/
def State.pauseQuads (s : State) (g : GroupIx) : State :=
  (below 4).foldl (fun s j =>
    if (s.quad g j).counts then
      (s.modQ g j fun q => { q with
        st := .paused, wait := false, due := false,
        stats := q.stats.set 15 (q.stats[15] ||| 0x01000000#32) }).restQuad g j
    else s) s

/-! ## Records (R182) -/

/-- 2^LOG_LOG2 frames have passed (R182). -/
def execPeriodicRecordDue (g : GroupIx) (j : QuadIx) (s : State) : Host.Outcome State Fault Refusal := .next <|
  let q := s.quad g j
  if q.counts = true ∧ 2 ^ fld (q.w 4) 24 4 ≤ q.period then s.modQ g j fun q => { q with recDue := true } else s

/-- The one record a quad writes in a drop window (R182): step-end, or periodic; none in SAFE. -/
def State.quadRecord (s : State) (g : GroupIx) (j : QuadIx) : State :=
  let q := s.quad g j
  let w := match q.ended with
    | some w => some (fld w 16 4, fld w 24 8)
    | none => if q.recDue && q.counts then some (fld (q.w 0) 20 4, fld (q.w 0) 24 8) else none
  match w with
  | none => s
  | some (fmt, tag) =>
    let s := s.modQ g j fun q => { q with ended := none, recDue := false, period := 0 }
    if fmt = 0 ∨ s.mode = .safe then s
    else
      let (e, s) := s.buildRecord g (s.quadItems g j) fmt (BitVec.ofNat 8 tag)
      s.releaseRecord g cFG e

end Sys2Proof.Machine
end

