-- ==== Sys2Proof/Machine/Tdc.lean ====
section
/-! DEFINITION. Time stamping (09): stamps, acceptance windows, the TDC operations of the microword. -/

namespace Sys2Proof.Machine

open Sys2Proof

/-! ## Stamps (R239) -/

/-- Whether the root runs from the crystal (R238, 13 R337). -/
def State.rootXo (s : State) : Bool := s.regB (adr pCLK 0x08) 0

/-- Time of an edge `bins` bins of 39.0625 ps after the SEQ edge: the root count then and the phase bin, as one number
(R236, R239). -/
def State.binNow (s : State) (bins : BitVec 7) : Nat := 8 * s.rootNow + bins.toNat

/-- Root count in the root cycle of that edge. -/
def State.rootAt (s : State) (bins : BitVec 7) : Nat := s.binNow bins / 8

/-- COARSE and PHASE of an edge (R239). -/
def State.stampTime (s : State) (bins : BitVec 7) : BitVec 43 := BitVec.ofNat 43 (s.binNow bins)

/-- A stamp (R239). -/
def State.stamp (s : State) (g : GroupIx) (l : LaneIx) (count : Byte) (released close lost : Bool) (bins : BitVec 7) :
    BitVec 64 :=
  let flags : Nat := b2n released <<< 51 + b2n close <<< 50 + b2n (!s.clk.hs[tileOf g]) <<< 49 + b2n lost <<< 48 +
    b2n s.rootXo <<< 47
  BitVec.ofNat 64 (l.val <<< 60 + count.toNat <<< 52 + flags + (s.stampTime bins).toNat)

/-! ## Stops (R242 to R246) -/

/-- Whether a stop in a root cycle falls in the open window, or in the cycle that closes it. -/
def Stamper.takes (t : Stamper) (now : Nat) : Bool := t.isOpen now || t.closing now

/-- Whether the edge has a polarity and a comparator that the window enables (R241, R242). -/
def Stamper.wants (t : Stamper) (low tripped : Bool) : Bool :=
  bit t.cfg 2 == low && (if tripped then bit t.cfg 0 else bit t.cfg 1)

/-- A stop is lost (R246). -/
def State.loseStop (s : State) (g : GroupIx) (l : LaneIx) : State :=
  ((s.modTd g l fun t => { t with lost := true }).bump (adr (pTDC g) 0x0C)).event (pTDC g) 0

/-- Whether an edge comes within 2.5 ns, 64 bins, of the last accepted stop (R243). -/
def Stamper.busyAt (t : Stamper) (bin : Nat) : Bool := t.lastAt.any fun b => decide (bin < b + 64)

/-- A stop of a lane's window: accepted, or lost (R243, R244, R246). -/
def State.tdcStop (s : State) (g : GroupIx) (l : LaneIx) (released : Bool) (bins : BitVec 7) : State :=
  let t := (s.chan g l).td
  let now := s.binNow bins
  if t.busyAt now || decide (8 ≤ t.fifo.length) then s.loseStop g l
  else
    let st : HeldStamp := ⟨t.pass, now, s.stamp g l t.count released (t.closing (s.rootAt bins)) t.lost bins⟩
    let maxN := min (fld t.cfg 8 4) 8
    s.modTd g l fun t => { t with
      fifo := t.fifo ++ [st], count := t.count + 1, acc := t.acc + 1, lost := false, lastAt := some now,
      opened := t.opened && !(maxN != 0 && decide (maxN ≤ t.acc + 1)) }

/-- A raw comparator output changes: an edge for the lane's stamper (R242, R243). -/
def State.tdcEdge (s : State) (g : GroupIx) (l : LaneIx) (low tripped : Bool) (bins : BitVec 7) : State :=
  let t := (s.chan g l).td
  if t.takes (s.rootAt bins) && t.wants low tripped then
    if fld t.cfg 4 4 ≤ t.presc then (s.modTd g l fun t => { t with presc := 0 }).tdcStop g l (!tripped) bins
    else s.modTd g l fun t => { t with presc := t.presc + 1 }
  else s

/-! ## TDC_OP (05 R137): each acts where it reaches the tile (R244, R247; 01 R6) -/

/-- TDC_OP OPEN. -/
def execTdcOpen (g : GroupIx) (m : LaneMask) (s : State) : Host.Outcome State Fault Refusal :=
  .next (s.field g fun s => s.send g m (.tdcOpen (s.grp g).eng.pass))

/-- TDC_OP CLOSE. -/
def execTdcClose (g : GroupIx) (m : LaneMask) (s : State) : Host.Outcome State Fault Refusal :=
  .next (s.field g fun s => s.send g m .tdcClose)

/-- TDC_OP READ (R247); FRESH clears at issue (05 R132). -/
def execTdcRead (g : GroupIx) (m : LaneMask) (s : State) : Host.Outcome State Fault Refusal :=
  .next (s.field g fun s => (s.unfreshAll g m).send g m .tdcRead)

/-- TDC_OP CLEAR (R247). -/
def execTdcClear (g : GroupIx) (m : LaneMask) (s : State) : Host.Outcome State Fault Refusal :=
  .next (s.field g fun s => s.send g m .tdcClear)

/-- Time passes to the root cycle in which LEN closes the window; one that is still open then closes (R244). -/
def State.lenClose (s : State) (g : GroupIx) (l : LaneIx) : State :=
  let t := (s.chan g l).td
  match t.lenEnd with
  | none => s
  | some e =>
    let s := if t.opened then s.within (s.cyclesTo e) else s
    if e ≤ s.rootNow then s.modTd g l fun t =>
      if t.opened && t.lenEnd == some e then { t with opened := false, shutAt := some e } else t
    else s

/-- LEN SEQ cycles have passed since the window opened (R244). -/
def execTdcTimedClose (g : GroupIx) (l : LaneIx) (s : State) : Host.Outcome State Fault Refusal := .next (s.lenClose g l)

/-- Windows still open at a tick close in its root cycle, those of the frame that begins apart (R244). -/
def State.tdcTick (s : State) (g : GroupIx) : State :=
  let now := s.rootNow
  s.modG g fun gr => { gr with chans := vmap (fun c : Channel => { c with td := c.td.close now }) gr.chans }

/-! ## Hairsprings (R237) -/

/-- A hairspring locks; a relock is shown on the tile's TDC pages (R237). -/
def execHsLock (t : TileIx) (s : State) : Host.Outcome State Fault Refusal := .next <|
  if s.clk.hs[t] then s
  else
    let s := { s with clk := { s.clk with hs := s.clk.hs.set t.val true t.isLt } }
    s.eachG fun s g => if tileOf g = t ∧ s.reg (adr (pTDC g) 0x0F) ≠ 0 then s.event (pTDC g) 2 else s

/-- A hairspring loses lock (R237). -/
def execHsUnlock (t : TileIx) (s : State) : Host.Outcome State Fault Refusal := .next <|
  let s := { s with clk := { s.clk with hs := s.clk.hs.set t.val false t.isLt } }
  let s := s.raise (srcTILE t) kHS_UNLOCK 0
  s.eachG fun s g => if tileOf g = t then (s.bump (adr (pTDC g) 0x0F)).event (pTDC g) 1 else s

end Sys2Proof.Machine
end

