-- ==== Sys2Proof/Machine/Trigger.lean ====
section
/-! DEFINITION. Trigger and acquisition (10): lines, fires, edges, captures and their masks. -/

namespace Sys2Proof.Machine

open Sys2Proof

/-! ## Captures (R261 to R265) -/

/-- Whether group g is attached to line l (R261). -/
def State.attachedTo (s : State) (g : GroupIx) (l : LineIx) : Bool :=
  let w := s.reg (adr (pACQ g) 0x08)
  bit w 0 && fld w 1 2 == l.val

/-- Whether a capture is between an arm and its end (R262). -/
def Capture.active (a : Capture) : Bool := a.st == .armed || a.st == .pre || a.st == .post

/-- Entries of a mask table that are enabled: FROM and LIMIT, in index order (R265). -/
def State.maskTable (s : State) (g : GroupIx) (lower : Bool) : List (Nat × Nat) :=
  let base := if lower then 64 else 0
  (List.range 32).filterMap fun e =>
    let w := s.maskW g (base + 2 * e)
    if bit w 31 then some (fld w 0 14, fld (s.maskW g (base + 2 * e + 1)) 0 20) else none

/-- Whether the FROM values rise strictly. -/
def fromRises : List (Nat × Nat) → Bool
  | a :: b :: r => decide (a.1 < b.1) && fromRises (b :: r)
  | _ => true

/-- First failing check of a capture's arm (R261). -/
def State.acqReason (s : State) (g : GroupIx) : Nat :=
  let w := s.reg (adr (pACQ g) 0x08)
  let n := countLanes (w.extractLsb' 16 16)
  let pre := s.regF (adr (pACQ g) 0x09) 0 14
  let post := s.regF (adr (pACQ g) 0x0A) 0 15
  if n = 0 then 1
  else if post = 0 ∨ 16384 / n < pre + post then 2
  else if bit w 9 && !(fromRises (s.maskTable g false) && fromRises (s.maskTable g true)) then 3
  else 0

/-- An attached group checks and takes the arm of its line (R261, R266). -/
def State.acqArm (s : State) (g : GroupIx) (l : LineIx) (f : FrameNo) : State :=
  let r := s.acqReason g
  if r ≠ 0 then
    (s.modG g fun gr => { gr with acq := { gr.acq with st := .idle, reason := BitVec.ofNat 4 r } }).event (pACQ g) 3
  else
    let w := s.reg (adr (pACQ g) 0x08)
    let pre := s.regF (adr (pACQ g) 0x09) 0 14
    let post := s.regF (adr (pACQ g) 0x0A) 0 15
    let s := s.setReg (adr (pACQ g) 0x11) 0
    s.modG g fun gr => { gr with acq :=
      { st := .armed, line := l, lanes := w.extractLsb' 16 16, j := min (fld w 4 5) 16, pre := pre, post := post, f := f } }

/-- Captures of a line that are still going end ABORTED (R255, R262). -/
def State.abortLine (s : State) (l : LineIx) : State :=
  s.eachG fun s g => if (s.grp g).acq.active && (s.grp g).acq.line == l then s.abortCapture g else s

/-- Captures armed on a line that is LIVE enter PRE (R262). -/
def State.startCaptures (s : State) (l : LineIx) : State :=
  s.allG fun g => if g.acq.st = .armed ∧ g.acq.line = l then { g with acq := { g.acq with st := .pre } } else g

/-- The limit that a mask table sets at a post-trigger index (R265). -/
def maskAt (t : List (Nat × Nat)) (i : Nat) : Option Nat :=
  ((t.filter fun e => decide (e.1 ≤ i)).getLast?).map fun e => e.2

/-- Whether a point's word violates the masks at an index (R265). -/
def State.maskHit (s : State) (g : GroupIx) (j : Nat) (w : Word) (i : Nat) : Bool :=
  let code := fld w 0 28 / 2 ^ (j / 2)
  w != 0xFFFFFFFF &&
    ((match maskAt (s.maskTable g false) i with
      | some lim => decide (lim < code)
      | none => false) ||
     (match maskAt (s.maskTable g true) i with
      | some lim => decide (code < lim)
      | none => false))

/-- One lane's word of a point is stored (R261, R263); a word built from an overrange sample is remembered for OVR. -/
def State.storePoint (s : State) (g : GroupIx) (e : LaneIx × Word × Bool) : State :=
  let a := (s.grp g).acq
  let w := a.wordOf e.1 a.point
  let s := s.sramWrite (acqAdr g w) e.2.1
  s.modG g fun gr => { gr with acq := { gr.acq with ovr := markBad gr.acq.ovr w e.2.2 } }

/-- Words of the open point: the averaged results, or the miss word where a sample is missing (R263). -/
def Capture.pointWords (a : Capture) : List (LaneIx × Word × Bool) :=
  a.sums.map fun t =>
    let l := laneOf t.1
    if t.2.2.1 = 2 ^ a.j then (l, resultWord t.2.1 a.j, t.2.2.2) else (l, 0xFFFFFFFF, false)

/-- The open point is stored and tested (R263 to R265). -/
def State.finishPoint (s : State) (g : GroupIx) : State :=
  let a := (s.grp g).acq
  let ws := a.pointWords
  let misses := (ws.filter fun e => e.2.1 == 0xFFFFFFFF).length
  let s := ws.foldl (fun s e => s.storePoint g e) s
  let s := s.bumpBy (adr (pACQ g) 0x0E) misses
  let post : Option Nat := match a.trigPt with
    | some t => if t ≤ a.point then some (a.point - t) else none
    | none => none
  let s := s.modG g fun gr => { gr with acq := { gr.acq with
    sums := [], edgeN := 0, point := gr.acq.point + 1, misses := gr.acq.misses + BitVec.ofNat 32 misses,
    stored := if post.isSome then gr.acq.stored + 1 else gr.acq.stored } }
  match post with
  | none => s
  | some i =>
    if s.regB (adr (pACQ g) 0x08) 9 then
      match ws.find? (fun e => s.maskHit g a.j e.2.1 i) with
      | none => s
      | some e =>
        let v : Word := BitVec.ofNat 32 (1 <<< 31 + e.1.val <<< 14 + i)
        let s := s.setReg (adr (pACQ g) 0x11) v
        let s := s.modG g fun gr => { gr with acq := { gr.acq with st := .stopped, maskStop := true, viol := v } }
        (s.event (pACQ g) 1).groupEvent g (chanNo g e.1) 6 1 v
    else s

/-- Whether the capture goes on taking points. -/
def Capture.taking (a : Capture) : Bool := a.st == .pre || (a.st == .post && decide (a.stored < a.post))

/-- A clock edge of the group: a point whose edges are all past ends, with miss words for what is missing; the edge
begins or continues a point (R263). -/
def State.captureEdge (s : State) (g : GroupIx) : State :=
  let a := (s.grp g).acq
  let s := if a.taking && !a.sums.isEmpty && decide (2 ^ a.j ≤ a.edgeN) then s.finishPoint g else s
  let a := (s.grp g).acq
  if a.taking then
    let now := s.rootNow
    s.modG g fun gr => { gr with acq :=
      if gr.acq.sums.isEmpty then
        { gr.acq with
          sums := (lanesOf gr.acq.lanes).map fun l => (l.val, 0, 0, false), edgeN := 1, ptRoot := now, ptLast := now,
          trigRoot := if gr.acq.trigPt = some gr.acq.point then now else gr.acq.trigRoot }
      else { gr.acq with edgeN := gr.acq.edgeN + 1, ptLast := now } }
  else s

/-- A corrected sample taken on a clock edge enters the open point (R263); the point ends when it is whole. -/
def State.captureSample (s : State) (g : GroupIx) (l : LaneIx) (y16 : Int) (ovr : Bool) : State :=
  let a := (s.grp g).acq
  if a.taking && !a.sums.isEmpty && lane a.lanes l then
    let s := s.modG g fun gr => { gr with acq := { gr.acq with
      sums := gr.acq.sums.map fun t => if t.1 = l.val then (t.1, t.2.1 + y16, t.2.2.1 + 1, t.2.2.2 || ovr) else t } }
    let a := (s.grp g).acq
    if a.edgeN = 2 ^ a.j ∧ a.sums.all (fun t => t.2.2.1 == 2 ^ a.j) = true then s.finishPoint g else s
  else s

/-- The trigger reaches a capture in PRE (R264): the trigger point, and the points kept before it. -/
def Capture.trigger (a : Capture) (now : Nat) (line : Line) (frame : FrameNo) : Capture :=
  let inOpen := !a.sums.isEmpty && (decide (a.edgeN < 2 ^ a.j) || decide (now ≤ a.ptLast))
  let t := if a.sums.isEmpty || inOpen then a.point else a.point + 1
  { a with
    st := .post, trigPt := some t, kept := min a.pre t, trigRoot := if inOpen then a.ptRoot else a.trigRoot,
    forced := line.forced, noTrig := false, frameT := frame, ts := line.ts, unlock := line.unlock, xo := line.xo,
    fired := line.fired, skew := line.skew }

/-- The last sample of the last point reaches the core die (R264). -/
def execCaptureDone (g : GroupIx) (s : State) : Host.Outcome State Fault Refusal := .next <|
  let a := (s.grp g).acq
  let s := if a.st = .post ∧ a.taking = true ∧ a.sums.isEmpty = false ∧ a.edgeN = 2 ^ a.j then s.finishPoint g else s
  let a := (s.grp g).acq
  if a.st = .post ∧ a.post ≤ a.stored then
    (s.modG g fun gr => { gr with acq := { gr.acq with st := .done } }).event (pACQ g) 0
  else s

/-- A write of RD_RST: the read pointers of the named lanes return to the oldest point (R266). -/
def State.rdRst (s : State) (g : GroupIx) (v : Word) : State :=
  (lanesOf (v.setWidth 16)).foldl (fun s l => s.modG g fun gr =>
    { gr with acq := { gr.acq with rd := gr.acq.rd.set l.val 0 l.isLt } }) s

/-- A write of `ACQ[g].RD_RST`. -/
def execRdRst (g : GroupIx) (v : Word) (s : State) : Host.Outcome State Fault Refusal := .next (s.rdRst g v)

/-- Whether the capture allows changes of its settings (R269). -/
def Capture.open (a : Capture) : Bool := !a.active

/-- The bits of a mask word that hold fields: FROM and EN, LIMIT (00 R2, R265). -/
def maskFields (a : Nat) : Word := if a % 2 = 0 then 0x80003FFF else 0x000FFFFF

/-- A posted write of MASK_DATA (R265, R269). -/
def State.maskDataWrite (s : State) (g : GroupIx) (v : Word) : State :=
  let p := pACQ g
  if s.busy p then s.loseWrite p
  else
    let a := s.regF (adr p 0x0F) 0 7
    let s := s.stepAdr p 0x0F 128
    if (s.grp g).acq.open then (s.modS g fun t => { t with mask := tset 0 t.mask a (v &&& maskFields a) }).post p else s.refusePosted p

/-- A posted write of MASK_DATA. -/
def execMaskDataWrite (g : GroupIx) (v : Word) (s : State) : Host.Outcome State Fault Refusal := .next (s.maskDataWrite g v)

/-- A read of MASK_DATA returns the word and steps MASK_ADDR (R269). -/
def State.maskDataRead (s : State) (g : GroupIx) : State :=
  (s.stepAdr (pACQ g) 0x0F 128).answer (s.maskW g (s.regF (adr (pACQ g) 0x0F) 0 7))

/-- A read of MASK_DATA. -/
def execMaskDataRead (g : GroupIx) (s : State) : Host.Outcome State Fault Refusal :=
  .next (if s.busy (pACQ g) then s else s.maskDataRead g)

/-! ## Lines (R252 to R259) -/

/-- Address of a register of line l (R268). -/
def lineReg (l : LineIx) (o : Nat) : Nat := adr pTRG (0x10 + 8 * l.val + o)

/-- A line goes LIVE at the tick of F, or is lost (R255). -/
def State.lineStart (s : State) (l : LineIx) : State :=
  if s.runNow = true ∨ s.mode = .mirror then
    ((s.modL l fun x => { x with st := .live }).startCaptures l).event pTRG 0
  else ((s.modL l fun x => { x with st := .idle }).abortLine l).event pTRG 3

/-- Every armed line at a tick (R255). -/
def State.lineTick (s : State) : State :=
  (below 4).foldl (fun s l =>
    let x := s.lines[l]
    let s := s.modL l fun x => { x with pend := x.pend + x.pendNext, pendNext := 0 }
    if x.st = .armed ∧ x.f.toNat ≤ s.esc.frame.toNat then s.lineStart l else s) s

/-- An ARM packet (R255, R261). -/
def State.armPacket (s : State) (frame : FrameNo) (auto : BitVec 16) (l : LineIx) (disarm : Bool) : State :=
  let s := s.abortLine l
  let clear (x : Line) (st : LineState) : Line :=
    { x with st := st, fired := false, pendForced := false, expired := false }
  if disarm then s.modL l fun x => clear x .idle
  else
    let late := decide (frame.toNat < s.esc.frame.toNat) || (frame == s.esc.frame && s.esc.pos != 0)
    if late then (s.modL l fun x => { clear x .idle with f := frame, auto := auto }).event pTRG 3
    else
      let s := s.modL l fun x => { clear x .armed with f := frame, auto := auto }
      let s := s.eachG fun s g => if s.attachedTo g l then s.acqArm g l frame else s
      if frame = s.esc.frame then s.lineStart l else s

/-- An ARM packet arrives. -/
def execArmPacket (frame : FrameNo) (auto : BitVec 16) (l : LineIx) (disarm : Bool) (s : State) :
    Host.Outcome State Fault Refusal :=
  .next (s.carried fun s => s.armPacket frame auto l disarm)

/-- Whether a fire is in time under an auto arm: before the cut-off of frame F + A − 1 (R257). -/
def State.fireInTime (s : State) (x : Line) : Bool :=
  let last := x.f.toNat + x.auto.toNat - 1
  x.auto == 0 || decide (s.esc.frame.toNat < last) || (decide (s.esc.frame.toNat = last) && !s.pastCut)

/-- A fire event reaches a line (R257). -/
def State.fireLine (s : State) (l : LineIx) (forced : Bool) : State :=
  let x := s.lines[l]
  if x.st = .live ∧ s.mode = .run ∧ x.fired = false ∧ (forced || s.fireInTime x) = true then
    s.modL l fun x => { x with fired := true, low := true }
  else (s.bump (adr pTRG 0x30)).event pTRG 5

/-- A source event fires every line whose SRC and PARAM name it (R256): 1 CMP, 2 PAT, 3 WAV. -/
def State.sourceFire (s : State) (src : Nat) (names : Nat → Bool) : State :=
  (below 4).foldl (fun s l =>
    let w := s.reg (lineReg l 0)
    if fld w 0 4 = src ∧ names (fld w 4 12) = true then s.fireLine l false else s) s

/-- A comparator's raw output changes to tripped (R256). -/
def State.cmpFire (s : State) (g : GroupIx) (l : LaneIx) (low : Bool) : State :=
  s.sourceFire 1 fun p => p % 1024 == chanNo g l && (p / 1024 % 2 == 1) == low

/-- A stream's segment-start trigger (R256). -/
def State.patFire (s : State) (i : StreamIx) : State := s.sourceFire 2 fun p => p % 16 == i.val

/-- A waveform source's segment-start trigger (R256). -/
def State.wavFire (s : State) (g : GroupIx) : State := s.sourceFire 3 fun p => p % 64 == g.val

/-- Lines to fire at SEQ cycle 64 of the next frame (R256). -/
def State.fireNext (s : State) (mask : BitVec 4) : State :=
  (below 4).foldl (fun s l => if bit mask l.val then s.modL l fun x => { x with pendNext := x.pendNext + 1 } else s) s

/-- A write of TRG.FIRE. -/
def execTrgFire (v : Word) (s : State) : Host.Outcome State Fault Refusal := .next (s.fireNext (v.setWidth 4))

/-- A FIRE packet addressed to the unit. -/
def execFirePacket (mask : BitVec 4) (s : State) : Host.Outcome State Fault Refusal := .next (s.carried fun s => s.fireNext mask)

/-- SEQ cycle 64 comes with fires to issue on the line: the auto mode's, then those of FIRE writes and packets, whatever
has become of the line since (R256, R257, R259). -/
def State.fireIssue (s : State) (l : LineIx) : State :=
  let x := s.lines[l]
  if x.pendForced = false ∧ x.pend = 0 then s
  else
    let s := (s.passTo 64).modL l fun x => { x with pend := 0, pendForced := false }
    let s := if x.pendForced then s.fireLine l true else s
    (List.range x.pend).foldl (fun s _ => s.fireLine l false) s

/-- SEQ cycle 64 of a frame with a fire to issue. -/
def execFireIssue (l : LineIx) (s : State) : Host.Outcome State Fault Refusal := .next (s.fireIssue l)

/-- The unit releases the line (R252). -/
def execTrigPulseEnd (l : LineIx) (s : State) : Host.Outcome State Fault Refusal :=
  .next (s.modL l fun x => { x with low := false })

/-- Whether an edge comes in the tick's own root cycle, the tick being that of F + A: it is in time, and not forced (R259,
02 R39). -/
def State.edgeInTime (s : State) (x : Line) (bins : BitVec 7) : Bool :=
  s.esc.pos == 0 && decide (bins.toNat < 8) && x.f.toNat + x.auto.toNat == s.esc.frame.toNat

/-- A line is TRIGGERED with its stamp, and its captures take their trigger point (R258, R259, R264). -/
def State.triggered (s : State) (l : LineIx) (bins : BitVec 7) : State :=
  let skew : BitVec 24 := (s.reg (lineReg l 4)).setWidth 24
  let raw : Int := ((s.stampTime bins).toNat : Nat)
  let ts : BitVec 47 := BitVec.ofInt 47 (raw * 16 - skew.toInt)
  let unlock := !s.clk.hs[0]
  let xo := s.rootXo
  let early := s.edgeInTime s.lines[l] bins
  let s := s.modL l fun x => { x with
    st := .triggered, ts := ts, unlock := unlock, xo := xo, forced := x.expired && !early, skew := skew,
    pendForced := x.pendForced && !early,
    coarse := BitVec.ofNat 40 (s.rootAt bins) }
  let x := s.lines[l]
  let s := if x.forced then s.event pTRG 2 else s
  let s := s.event pTRG 1
  s.eachG fun s g =>
    let a := (s.grp g).acq
    if a.st = .pre ∧ a.line = l then
      let s := s.modG g fun gr => { gr with acq := gr.acq.trigger (s.rootAt bins) x s.esc.frame }
      if x.forced then s.event (pACQ g) 4 else s
    else s

/-- A qualified falling edge of a line (R253, R255, R257). -/
def execTrigEdge (l : LineIx) (bins : BitVec 7) (s : State) : Host.Outcome State Fault Refusal := .next <|
  match s.lines[l].st with
  | .live => s.triggered l bins
  | .triggered => s.bump (lineReg l 7)
  | .idle => s
  | .armed => s

/-- The tick of F + A has come with no edge: the next edge is forced, and the master fires the line at cycle 64
(R259). -/
def execAutoTimeout (l : LineIx) (s : State) : Host.Outcome State Fault Refusal := .next <|
  let x := s.lines[l]
  if x.st = .live ∧ x.auto ≠ 0 ∧ x.f.toNat + x.auto.toNat ≤ s.esc.frame.toNat ∧ x.expired = false then
    let m := s.regB (adr pTRG 0x08) 0
    s.modL l fun x => { x with expired := true, pendForced := m }
  else s

/-- Lines go IDLE and captures end as the unit leaves RUN or MIRROR (R255, R262). -/
def State.leaveLines (s : State) : State :=
  let s := s.eachG fun s g => s.abortCapture g
  { s with lines := vmap (fun l => { l with st := .idle, pendForced := false, expired := false }) s.lines }

/-! ## Comparator edges (03 R68, 09 R242, R256) -/

/-- A comparator's input crosses its threshold or the band, `bins` bins after the SEQ edge: qualification, blanking, a
stop for the stamper, and the CMP trigger source. -/
def execComparatorChange (g : GroupIx) (l : LaneIx) (low tripped : Bool) (bins : BitVec 7) (s : State) :
    Host.Outcome State Fault Refusal := .next <|
  let c := (s.chan g l).fe.cmp low
  let now := s.rootAt bins
  let s := s.modFe g l fun fe => fe.modCmp low fun c => c.change now tripped
  if c.acting = 0 ∨ c.tripped = tripped then s
  else
    let s := s.tdcEdge g l low tripped bins
    if tripped then s.cmpFire g l low else s

end Sys2Proof.Machine
end

