-- ==== Sys2Proof/Machine/Pattern.lean ====
section
/-! DEFINITION. Pattern generation (07): the site map, vectors and the code table, segments and loops, bursts and
jumps, the algorithmic generators, the remontoire. -/

namespace Sys2Proof.Machine

open Sys2Proof

/-! ## The remontoire's counts (R211 to R213) -/

/-- Bytes accepted for the window and not yet written. -/
def Stream.waiting (x : Stream) : Nat :=
  x.ingress.foldl (fun n i => n + i.data.length) 0

/-- RET: the first stream byte of the outermost body that holds stream vectors, else the read position (R212). -/
def Stream.ret (x : Stream) : Word :=
  match x.stack.reverse.find? (fun e => e.body != 0) with
  | some e => e.start
  | none => x.held.getD x.rdPos

/-- CREDIT (R213). -/
def Stream.credit (x : Stream) : Word := x.ret + 262144

/-- Bytes written and not yet fetched (R212). -/
def Stream.resident (x : Stream) : Nat := (x.rcvd - x.rdPos).toNat - x.waiting

/-- A STREAM CREDIT packet: KIND 1, the stream, NAK, the next STRM sequence, CREDIT (16 R398, R400). A unit that
holds 0xFE originates nothing (16 R394). -/
def State.sendCredit (s : State) (i : StreamIx) (nak : Bool) : State :=
  if s.kl.addr = 0xFE then s
  else
    let c := (s.streams[i]).credit
    let w : BitVec 64 := BitVec.ofNat 64 (1 + i.val <<< 4 + b2n nak <<< 8 + s.kl.strmSeq.toNat <<< 16 + c.toNat <<< 32)
    let s := s.modSt i fun x => { x with creditSent := c }
    s.originate cRMT (mkPacket 0xFE s.kl.addr 0x9 false false 0 [w])

/-- Credit is sent within a frame when it has advanced 16 KiB since the last (R213). -/
def State.creditStep (s : State) (i : StreamIx) : State :=
  let x := s.streams[i]
  if 16384 ≤ (x.credit - x.creditSent).toNat ∧ (x.credit - x.creditSent).toNat < 2147483648 then s.sendCredit i false else s

/-- Credit is sent at a tick at which it has changed (R213). -/
def State.creditTick (s : State) : State :=
  let one (s : State) (i : StreamIx) : State :=
    let x := s.streams[i]
    if x.credit != x.creditSent then s.sendCredit i false else s
  (below 16).foldl one s

/-! ## Lanes under a burst (R66, R190, R200) -/

/-- Whether the driver follows patterns on a lane: node owner, no safe-path action in force, no hold, no tripped
LIMIT, and a unit that drives. -/
def State.takesPattern (s : State) (g : GroupIx) (l : LaneIx) : Bool :=
  let fe := (s.chan g l).fe
  fe.outSel && fe.action != .disconnect && !lane (s.grp g).hold l && !s.limitHeld g l && s.drives && s.mode != .mirror

/-- The drive a code's DRV asks for (R190). -/
def Driver.ask (d : Driver) (apg : Option Bool) (drv : Nat) : DriveState :=
  let kept : DriveState := match d.prev with
    | .low => .low
    | .high => .high
    | .off | .term => d.offState
  match drv, apg with
  | 0, _ => kept
  | 1, _ => .low
  | 2, _ => .high
  | 4, some b => if b then .high else .low
  | 5, some b => if b then .low else .high
  | _, _ => d.offState

/-- A lane's driver takes a state where it follows patterns. -/
def State.setDrive (s : State) (g : GroupIx) (l : LaneIx) (d : DriveState) : State :=
  let on := s.takesPattern g l
  s.modFe g l fun fe =>
    { fe with driver := { fe.driver with st := if on then d else fe.driver.st } }.settle s.rootNow

/-- A lane takes a vector's drive, which KEEP in the next vector repeats (R190); a lane that follows patterns again after a
safe-path action is the burst's from then on (R200, R201). -/
def State.driveLane (s : State) (g : GroupIx) (l : LaneIx) (d : DriveState) : State :=
  let on := s.takesPattern g l
  let s := (s.setDrive g l d).modFe g l fun fe => { fe with driver := { fe.driver with prev := d } }
  if on then s.modG g fun gr => { gr with pat := { gr.pat with safe := setLane gr.pat.safe l false } } else s

/-- A lane of a group whose burst ends or stops, or that detaches, takes a PARK state, which is no vector's drive (R190,
R194, R200, R214). Where the safe path has acted on it its action stands (R201). -/
def State.parkLane (s : State) (g : GroupIx) (park : BitVec 3) (l : LaneIx) : State :=
  let d := (s.chan g l).fe.driver
  if lane (s.grp g).pat.safe l then s
  else
    match park.toNat with
    | 0 => s.setDrive g l .low
    | 1 => s.setDrive g l .high
    | 3 => s
    | _ => s.setDrive g l d.offState

/-- Lanes of an attached group that take part (R188). -/
def PatGroup.lanes (p : PatGroup) : LaneMask := (p.pins.getD 3 0).setWidth 16

/-- Site pin of a lane (R188). -/
def PatGroup.pin (p : PatGroup) (l : LaneIx) : Nat := fld (p.pins.getD (1 + l.val / 8) 0) (4 * (l.val % 8)) 4

/-- Every lane that takes part in a group parks. -/
def State.parkGroup (s : State) (g : GroupIx) (park : BitVec 3) : State :=
  (lanesOf (s.grp g).pat.lanes).foldl (fun s l => s.parkLane g park l) s

/-- Groups attached to a stream. -/
def State.attachedGroups (s : State) (i : StreamIx) : List GroupIx :=
  (below 64).filter fun g => (s.grp g).pat.att == .attached && (s.grp g).pat.stream == i

/-- A group leaves the burst with its lanes parked; PAT_DONE comes later (R200). -/
def State.leaveBurst (s : State) (i : StreamIx) (g : GroupIx) : State :=
  (s.parkGroup g (s.streams[i]).park).modG g fun gr => { gr with pat := { gr.pat with att := .idle, detach := false } }

/-- Groups marked to detach do so at a vector boundary. -/
def State.detachMarked (s : State) (i : StreamIx) : State :=
  (s.attachedGroups i).foldl (fun s g => if (s.grp g).pat.detach then s.leaveBurst i g else s) s

/-- What a stream's state keeps when a burst is over; a RESUME already received is judged at its tick (R215). -/
def Stream.rest (x : Stream) (st : StreamState) : Stream :=
  { x with
    st := st, stack := [], held := none, need := 0, jump := none, stop := false, requeue := false, poison := false,
    first := false }

/-- The burst ends: lanes park, groups detach, the stream is IDLE; after a cancellation its attached followers return
to pending (R200, R202). -/
def State.endBurst (s : State) (i : StreamIx) : State :=
  let x := s.streams[i]
  let s := (s.attachedGroups i).foldl (fun s g =>
    let back := x.requeue && g != x.owner && !(s.grp g).pat.detach
    let s := s.leaveBurst i g
    if back then s.modG g fun gr => { gr with pat := { gr.pat with att := .pending x.startSeg } } else s) s
  let s := s.modSt i fun x => x.rest .idle
  (s.event (pSTRM i) 1).creditStep i

/-- The stream halts with a cause: 3 TOO_LONG, 4 CONFIG, 5 TABLE (R196, R198, R212). -/
def State.haltStream (s : State) (i : StreamIx) (cause : Nat) : State :=
  let s := (s.attachedGroups i).foldl (fun s g => s.leaveBurst i g) s
  let s := s.modSt i fun x => { x.rest .halted with cause := BitVec.ofNat 3 cause }
  (s.event (pSTRM i) 6).creditStep i

/-! ## Algorithmic generators (R206 to R209) -/

/-- COL, ROW and BANK of an APG. -/
structure ApgSize where
  col  : Nat
  row  : Nat
  bank : Nat
  deriving DecidableEq, Repr

/-- Sizes as `APG[a].CFG` holds them (R217). -/
def State.apgSize (s : State) (i : StreamIx) : ApgSize :=
  let w := s.reg (adr (pAPG i) 0x08)
  ⟨fld w 0 5, fld w 8 5, fld w 16 3⟩

/-- N (R206). -/
def ApgSize.n (z : ApgSize) : Nat := 2 ^ (z.col + z.row + z.bank)

/-- Whether the sizes are within R206. -/
def ApgSize.valid (z : ApgSize) : Bool :=
  decide (z.col ≤ 16) && decide (z.row ≤ 16) && decide (z.bank ≤ 4) && decide (1 ≤ z.col + z.row + z.bank) &&
    decide (z.col + z.row + z.bank ≤ 28)

/-- Length L of an ORDER (R207). -/
def ApgSize.len (z : ApgSize) (order tlen : Nat) : Nat :=
  match order with
  | 5 => 2 * z.n * (z.n - 1)
  | 6 => 2 * z.n * (z.row + z.col)
  | 7 => tlen + 1
  | _ => z.n

/-- Address from row, column and bank counts: row fastest, then column, then bank (R207 ROW_UP). -/
def ApgSize.rowUp (z : ApgSize) (k : Nat) : Nat :=
  let r := k % 2 ^ z.row
  let c := k / 2 ^ z.row % 2 ^ z.col
  let b := k / 2 ^ (z.row + z.col)
  c + 2 ^ z.col * r + 2 ^ (z.col + z.row) * b

/-- CHECKER: addresses with row[0] XOR col[0] = 0 in UP order, then the rest. -/
def ApgSize.checker (z : ApgSize) (k : Nat) : Nat :=
  let half := z.n / 2
  let odd := if k < half then 0 else 1
  let j := k % half
  if z.row = 0 ∧ z.col = 0 then k
  else if z.row = 0 ∨ z.col = 0 then 2 * j + odd
  else 2 * j + (j * 2 / 2 ^ z.col + odd) % 2

/-- The address bits BUTTERFLY inverts, in order (R207). -/
def ApgSize.flips (z : ApgSize) : List Nat :=
  (List.range (max z.row z.col)).flatMap fun k =>
    (if k < z.row then [z.col + k] else []) ++ (if k < z.col then [k] else [])

/-- An address with one bit inverted. -/
def flipBit (a k : Nat) : Nat := if a / 2 ^ k % 2 = 0 then a + 2 ^ k else a - 2 ^ k

/-- Step k of an ORDER other than TABLE: address and ROLE (R207). -/
def ApgSize.at_ (z : ApgSize) (order k : Nat) : Nat × Bool :=
  match order with
  | 1 => (z.n - 1 - k, false)
  | 2 => (z.rowUp k, false)
  | 3 => (z.rowUp (z.n - 1 - k), false)
  | 4 => (z.checker k, false)
  | 5 =>
    let b := k / (2 * (z.n - 1))
    let r := k % (2 * (z.n - 1))
    if r % 2 = 1 then (b, true) else (if r / 2 < b then r / 2 else r / 2 + 1, false)
  | 6 =>
    let w := 2 * (z.row + z.col)
    let b := k / w
    let r := k % w
    if r % 2 = 1 then (b, true) else (flipBit b (z.flips.getD (r / 2) 0), false)
  | _ => (k, false)

/-- Byte address of word k of an APG's table region (R208). -/
def apgWord (i : StreamIx) (k : Nat) : Nat := 0x00700000 + 0x10000 * i.val + 4 * k

/-- Element register of the running segment (R207). -/
def State.elem (s : State) (i : StreamIx) : Word :=
  s.reg (adr (pAPG i) (0x10 + fld ((s.streams[i]).desc.getD 5 0) 8 4))

/-- Data bit d (R208). -/
def State.apgData (s : State) (i : StreamIx) (d : Nat) : Bool :=
  let z := s.apgSize i
  let p := (s.streams[i]).apg
  let col := fld p.addr 0 z.col
  let row := fld p.addr z.col z.row
  let w := s.reg (adr (pAPG i) 0x08)
  ((bit p.bg (4 * (row % 4) + col % 4) != bit (s.reg (adr (pAPG i) 0x0A)) d) != bit (s.elem i) 8) != (p.role && bit w 20)

/-- APG bit of a site pin (R209). -/
def State.apgBit (s : State) (i : StreamIx) (pin : Nat) : Bool :=
  let c := fld (s.reg (adr (pAPG i) (0x20 + pin / 4))) (8 * (pin % 4)) 8
  let p := (s.streams[i]).apg
  if c ≤ 0x1B then bit p.addr c
  else if 0x20 ≤ c ∧ c ≤ 0x2F then s.apgData i (c - 0x20)
  else if c = 0x30 then p.role
  else false

/-! ## Segments (R194 to R197, R212) -/

/-- Word of the running segment's descriptor. -/
def Stream.d (x : Stream) (w : Nat) : Word := x.desc.getD w 0

/-- LEN + 1. -/
def Stream.len (x : Stream) : Nat := fld (x.d 1) 0 24 + 1

/-- REPEAT. -/
def Stream.rep (x : Stream) : Nat := fld (x.d 2) 0 24

/-- SRC: 0 RESIDENT, 1 STREAM, 2 APG. -/
def Stream.src (x : Stream) : Nat := fld (x.d 5) 0 2

/-- BODY of an OPEN segment; 0 elsewhere. -/
def Stream.body (x : Stream) : Nat := if bit (x.d 5) 6 then fld (x.d 6) 0 24 else 0

/-- Vectors in one pass of the running segment (R207). -/
def State.passLen (s : State) (i : StreamIx) : Nat :=
  let x := s.streams[i]
  if x.src = 2 then x.len * (s.apgSize i).len (fld (s.elem i) 0 3) (s.regF (adr (pAPG i) 0x09) 0 14) else x.len

/-- Whether the last vector of the last pass has been output; a segment of passes without vectors is (R207, BUTTERFLY over
banks alone). -/
def State.exhausted (s : State) (i : StreamIx) : Bool :=
  let x := s.streams[i]
  let n := s.passLen i
  (x.pass == 0 || n == 0) && decide (n ≤ x.vec)

/-- A segment's descriptor, and whether a word of it is uncorrectable (R194, R196). -/
def State.readWords (s : State) (a n : Nat) : List Word × Bool × State :=
  (List.range n).foldl (fun (acc : List Word × Bool × State) k =>
    let r := acc.2.2.sramRead (a + 4 * k)
    (acc.1 ++ [r.1], acc.2.1 || r.2.1, r.2.2)) ([], false, s)

/-- The segment runs its passes from here: the stream position it may repeat from, and what must be resident. -/
def Stream.begin (x : Stream) (entry : Bool) : Stream :=
  let repeats := x.src == 1 && x.rep != 0
  { x with
    vec := 0, pass := x.rep,
    held := if repeats then some x.rdPos else none,
    need := if entry then max (8 * x.body) (if repeats then 8 * x.len else 0) else 0 }

/-- An APG segment is entered: its sizes, and the background word (R207). `none` where it may run. -/
def State.apgEnter (s : State) (i : StreamIx) : Option Nat × State :=
  if (s.apgSize i).valid = false ∨ (fld (s.elem i) 0 3 = 7 ∧ 16127 < s.regF (adr (pAPG i) 0x09) 0 14) then (some 4, s)
  else
    let r := s.sramRead (apgWord i (fld (s.elem i) 4 4))
    if r.2.1 then (some 5, r.2.2)
    else (none, r.2.2.modSt i fun x => { x with apg := { x.apg with bg := r.1.setWidth 16 } })

/-- Why a segment cannot be entered, in the order of R196; `fresh` where it is not re-entered by its own CLOSE. -/
def Stream.refusal (x : Stream) (fresh : Bool) : Option Nat :=
  if fresh && bit (x.d 5) 6 && decide (4 ≤ x.stack.length) then some 4
  else if x.src = 3 then some 4
  else if x.src = 0 ∧ (fld (x.d 0) 0 22 < 0x100000 ∨ 0x400000 < fld (x.d 0) 0 22 + x.len) then some 4
  else if fresh && decide (262144 < max (8 * x.body) (if x.src == 1 && x.rep != 0 then 8 * x.len else 0)) then some 3
  else none

/-- A segment is entered (R195, R196, R212). -/
def State.enterSegment (s : State) (i : StreamIx) (n : BitVec 16) (fresh : Bool) : State :=
  let (ws, bad, s) := s.readWords (0x00400000 + 32 * n.toNat) 8
  let s := s.modSt i fun x => { x with seg := n, desc := ws, held := none }
  if bad then s.haltStream i 5
  else
    match (s.streams[i]).refusal fresh with
    | some c => s.haltStream i c
    | none =>
      let (c, s) := if (s.streams[i]).src = 2 then s.apgEnter i else (none, s)
      match c with
      | some c => s.haltStream i c
      | none =>
        s.modSt i fun x =>
          let x := if fresh && bit (x.d 5) 6 then
              { x with stack := ⟨n, fld (x.d 3) 0 24, fld (x.d 3) 0 24, x.rdPos, x.body⟩ :: x.stack }
            else x
          x.begin fresh

/-- CLOSE at an end boundary: the loop goes round again, or is popped and the stream goes on (R195, R196). -/
def State.closeLoop (s : State) (i : StreamIx) (onward : State → State) : State :=
  match (s.streams[i]).stack with
  | [] => s.haltStream i 4
  | e :: rest =>
    let x := s.streams[i]
    if e.left = e.loop ∧ (x.rdPos - e.start).toNat ≠ 8 * e.body then s.haltStream i 4
    else if e.left = 0 then onward (s.modSt i fun x => { x with stack := rest, held := none })
    else
      let s := s.modSt i fun x => { x with
        stack := { e with left := e.left - 1 } :: rest,
        rdPos := if e.body = 0 then x.rdPos else e.start }
      s.enterSegment i e.seg false

/-- An end boundary (R195, R204, R205): a pending jump; CLOSE; END or NEXT. -/
def State.segmentEnd (s : State) (i : StreamIx) : State :=
  let x := s.streams[i]
  if x.st ≠ .running ∨ s.exhausted i = false then s
  else if x.stop then s.endBurst i
  else
    let s := s.detachMarked i
    match x.jump with
    | some n => (s.modSt i fun x => { x with jump := none, stack := [], held := none }).enterSegment i n true
    | none =>
      let onward (s : State) : State :=
        if bit (x.d 4) 16 then s.endBurst i else s.enterSegment i ((x.d 4).setWidth 16) true
      if bit (x.d 5) 7 then s.closeLoop i onward else onward s

/-- An end boundary, with the credit it sets free (R213). -/
def execSegmentEnd (i : StreamIx) (s : State) : Host.Outcome State Fault Refusal := .next ((s.segmentEnd i).creditStep i)

/-! ## Vectors (R190, R192, R212, R214) -/

/-- Byte address of the next vector. -/
def Stream.vecAdr (x : Stream) (i : StreamIx) : Nat :=
  let base := fld (x.d 0) 0 22
  if x.src = 1 then 0x40000 * i.val + x.rdPos.toNat % 262144
  else if x.src = 2 then 8 * ((base + x.vec % x.len) % 2 ^ 22)
  else 8 * ((base + x.vec) % 2 ^ 22)

/-- Whether the next vector, and the body it opens, are resident (R212). -/
def Stream.ready (x : Stream) : Bool :=
  decide (x.need ≤ x.resident) && (x.src != 1 || decide (8 ≤ x.resident))

/-- The generator's address for the next vector; a bad table word halts (R196, R207). -/
def State.apgNext (s : State) (i : StreamIx) : Bool × State :=
  let x := s.streams[i]
  if x.src ≠ 2 then (false, s)
  else
    let k := x.vec / x.len
    let order := fld (s.elem i) 0 3
    if order = 7 then
      let r := s.sramRead (apgWord i (256 + k))
      if r.2.1 then (true, r.2.2)
      else (false, r.2.2.modSt i fun x => { x with apg := { x.apg with addr := r.1.setWidth 28, role := bit r.1 31 } })
    else
      let a := (s.apgSize i).at_ order k
      (false, s.modSt i fun x => { x with apg := { x.apg with addr := BitVec.ofNat 28 a.1, role := a.2 } })

/-- Code-table entry of a lane's site pin under a vector (R190). -/
def State.codeOf (s : State) (i : StreamIx) (v : BitVec 64) (pin : Nat) : Word :=
  s.reg (adr (pSTRM i) (0x10 + fld v (4 * pin) 4))

/-- APG bit of a pin inside an APG segment; none outside one (R190). -/
def State.apgPin (s : State) (i : StreamIx) (pin : Nat) : Option Bool :=
  if (s.streams[i]).src = 2 then some (s.apgBit i pin) else none

/-- Drive edge of a group: its lanes, ascending. -/
def State.driveGroup (s : State) (i : StreamIx) (v : BitVec 64) (g : GroupIx) : State :=
  let p := (s.grp g).pat
  (lanesOf p.lanes).foldl (fun s l =>
    let pin := p.pin l
    let d := (s.chan g l).fe.driver
    s.driveLane g l (d.ask (s.apgPin i pin) (fld (s.codeOf i v pin) 0 3))) s

/-- Whether a lane's expectation fails at the strobe (R190, R192): 1 low, 2 high, 3 neither. A compare that needs a
comparator outside PATTERN mode is masked. -/
def FrontEnd.compareFails (fe : FrontEnd) (apg : Option Bool) (cmp : Nat) : Bool :=
  let lo := decide (fe.lo.acting = 1)
  let hi := decide (fe.hi.acting = 1)
  let want : Nat := match cmp, apg with
    | 4, some b => if b then 2 else 1
    | 5, some b => if b then 1 else 2
    | 4, none | 5, none => 0
    | c, _ => c
  match want with
  | 1 => lo && !fe.lo.tripped
  | 2 => hi && !fe.hi.tripped
  | 3 => lo && hi && (fe.lo.tripped || fe.hi.tripped)
  | _ => false

/-- Lanes of a group that fail at the strobe. -/
def State.failLanes (s : State) (i : StreamIx) (v : BitVec 64) (g : GroupIx) : LaneMask :=
  let p := (s.grp g).pat
  maskOf fun l => lane p.lanes l &&
    (s.chan g l).fe.compareFails (s.apgPin i (p.pin l)) (fld (s.codeOf i v (p.pin l)) 4 3)

/-- First-fail registers (R216): the vector count, the lowest failing group and lane, the APG address. -/
def State.firstFail (s : State) (i : StreamIx) (g : GroupIx) (m : LaneMask) : State :=
  if s.regB (adr (pSTRM i) 0x22) 31 then s
  else
    let p := pSTRM i
    let a := (s.streams[i]).apg
    let s := (s.setReg (adr p 0x20) (s.reg (adr p 0x24))).setReg (adr p 0x21) (s.reg (adr p 0x25))
    let s := s.setReg (adr p 0x22) (BitVec.ofNat 32 (2 ^ 31 + g.val <<< 4 + (lowest m 0).val))
    s.setReg (adr p 0x23) (BitVec.ofNat 32 (b2n a.role <<< 31 + a.addr.toNat))

/-- The strobe of a vector over the attached groups (R192, R193). -/
def State.strobe (s : State) (i : StreamIx) (v : BitVec 64) : State :=
  let fails := ((s.attachedGroups i).map fun g => (g, s.failLanes i v g)).filter fun p => p.2 != 0
  let s := fails.foldl (fun s p =>
    (s.firstFail i p.1 p.2).modG p.1 fun gr => { gr with pat := { gr.pat with fails := gr.pat.fails ||| p.2 } }) s
  if fails.isEmpty then s else s.event (pSTRM i) 2

/-- The stream steps past a vector; a repeating STREAM segment begins each further pass at its first byte (R194, R212). -/
def State.stepVector (s : State) (i : StreamIx) : State :=
  let n := s.passLen i
  s.modSt i fun x =>
    let x := { x with vec := x.vec + 1, rdPos := if x.src = 1 then x.rdPos + 8 else x.rdPos, need := 0 }
    if n ≤ x.vec ∧ x.pass ≠ 0 then
      { x with vec := 0, pass := x.pass - 1, rdPos := if x.src = 1 then x.held.getD x.rdPos else x.rdPos }
    else x

/-- A vector is output: trigger, drive edges, strobe, count, position. -/
def State.output (s : State) (i : StreamIx) (v : BitVec 64) : State :=
  let x := s.streams[i]
  let s := if x.vec = 0 ∧ x.pass = x.rep ∧ bit (x.d 5) 5 then s.patFire i else s
  let s := (s.attachedGroups i).foldl (fun s g => s.driveGroup i v g) s
  let s := (s.strobe i v).bump64 (adr (pSTRM i) 0x24) 1
  let s := s.modSt i fun x => { x with first := false, park := (x.d 5).extractLsb' 2 3 }
  (s.stepVector i).creditStep i

/-- A vector boundary (R192, R200, R212). A vector with an uncorrectable word is marked and not output (R214). -/
def State.vectorBoundary (s : State) (i : StreamIx) : State :=
  let x := s.streams[i]
  if x.st ≠ .running then s
  else if x.stop then s.endBurst i
  else
    let s := s.detachMarked i
    if s.exhausted i || !x.ready || x.poison then s
    else
      let (halt, s) := s.apgNext i
      if halt then s.haltStream i 5
      else
        let a := x.vecAdr i
        let (w0, b0, s) := s.sramRead a
        let (w1, b1, s) := s.sramRead (a + 4)
        if b0 || b1 then s.modSt i fun x => { x with poison := true } else s.output i (w1 ++ w0)

/-- A vector boundary. -/
def execVectorBoundary (i : StreamIx) (s : State) : Host.Outcome State Fault Refusal := .next (s.vectorBoundary i)

/-- The next vector is not resident, or poisoned (R214). A burst told to end ends at this boundary instead (R200). -/
def State.underrun (s : State) (i : StreamIx) : State :=
  let x := s.streams[i]
  if x.st ≠ .running ∨ s.exhausted i = true ∨ (x.ready && !x.poison) = true then s
  else if x.stop then s.endBurst i
  else
    let s := s.detachMarked i
    let cause : BitVec 3 := if x.poison then 2 else 1
    let vec : BitVec 22 := BitVec.ofNat 22 (if x.src = 1 then x.rdPos.toNat % 262144 / 8 else x.vecAdr i / 8)
    let s := (s.attachedGroups i).foldl (fun s g =>
      (s.parkGroup g x.park).modG g fun gr => { gr with pat := { gr.pat with underrun := true } }) s
    let s := s.modSt i fun x => { x with st := .underrun, cause := cause, urVec := vec }
    let s := ((s.bump (adr (pSTRM i) 0x0B)).event (pSTRM i) 0).raise (srcSTRM i) kPAT_UNDERRUN 0
    s.groupEvent x.owner 0 5 2 (BitVec.ofNat 32 i.val)

/-- An under-run. -/
def execUnderrun (i : StreamIx) (s : State) : Host.Outcome State Fault Refusal := .next (s.underrun i)

/-- Output starts again at the tick of a RESUME; a poisoned vector is passed over (R215). -/
def State.resumeStream (s : State) (i : StreamIx) : State :=
  let x := s.streams[i]
  let s := if x.poison then s.stepVector i else s
  s.modSt i fun x => { x with st := .running, poison := false }

/-! ## Bursts (R189, R198 to R202) -/

/-- Owner group of a stream. -/
def State.ownerOf (s : State) (i : StreamIx) : GroupIx :=
  ⟨s.regF (adr (pSTRM i) 0x08) 0 6, Nat.mod_lt _ (by decide)⟩

/-- Streams a group owns. -/
def State.owned (s : State) (g : GroupIx) : List StreamIx := (below 16).filter fun i => s.ownerOf i == g

/-- The stream on which a group's STOP or JUMP_REQ acts as owner: the one its last burst used if it owns that, else
the lowest it owns. -/
def State.ownedStream (s : State) (g : GroupIx) : Option StreamIx :=
  if s.ownerOf (s.grp g).pat.stream = g then some (s.grp g).pat.stream else (s.owned g).head?

/-- A refused START: event bit, queue entry (R199). -/
def State.refuseAttach (s : State) (g : GroupIx) (i : StreamIx) : State :=
  (s.event (pSTRM i) 5).groupEvent g 0 5 1 (BitVec.ofNat 32 i.val)

/-- A follower that is refused, or dropped at a tick, is idle with PAT_DONE true (R199, R200). -/
def State.dropFollower (s : State) (i : StreamIx) (g : GroupIx) : State :=
  (s.modG g fun gr => { gr with pat := { gr.pat with att := .idle, done := true } }).refuseAttach g i

/-- A group attaches: fails and UNDERRUN clear, its site-map entry is read, and a bad word halts the stream (R188, R193, R196).
Where the entry as read no longer enables the group or names another stream, the group takes no part: it is dropped (R188,
R189; log entry 55). -/
def State.attach (s : State) (i : StreamIx) (g : GroupIx) : Bool × State :=
  let (ws, bad, s) := s.readWords (0x00600000 + 16 * g.val) 4
  let w := ws.getD 0 0
  if !bad && (!bit w 4 || fld w 0 4 != i.val) then (false, s.dropFollower i g)
  else
    let s := s.modG g fun gr => { gr with pat := { gr.pat with
      att := .attached, stream := i, done := false, fails := 0, underrun := false, pins := ws, detach := false, safe := 0 } }
    let s := (lanesOf (s.grp g).pat.lanes).foldl (fun s l => s.modFe g l fun fe =>
      { fe with driver := { fe.driver with prev := .off } }) s
    (bad, s)

/-- Followers pending for a stream. -/
def State.pendingFor (s : State) (i : StreamIx) : List (GroupIx × BitVec 16) :=
  (below 64).filterMap fun g =>
    match (s.grp g).pat.att with
    | .pending n => if (s.grp g).pat.stream == i then some (g, n) else none
    | .idle | .attached => none

/-- A burst starts: the owner attaches, then the pending followers that named the segment; the others are refused
(R199, R216). DESIGN CHOICE (log entry 127): a burst that ends before its first vector parks its lanes as KEEP does. -/
def State.startBurst (s : State) (i : StreamIx) (g : GroupIx) (n : BitVec 16) : State :=
  let e := (s.grp g).eng
  let pos := s.esc.pos
  let s := s.modSt i fun x => { x.rest .running with
    owner := g, startSeg := n, startPos := pos, prog := e.entry, oPass := e.pass, park := 3, first := true, cause := 0 }
  let s := [0x20, 0x21, 0x22, 0x23, 0x24, 0x25].foldl (fun s o => s.setReg (adr (pSTRM i) o) 0) s
  let (bad, s) := s.attach i g
  let s := s.modG g fun gr => { gr with pat := { gr.pat with pass := e.pass } }
  let r := (s.pendingFor i).foldl (fun (acc : Bool × State) p =>
    if p.2 = n then
      let (b, s) := acc.2.attach i p.1
      (acc.1 || b, s)
    else (acc.1, acc.2.dropFollower i p.1)) (bad, s)
  if r.1 then r.2.haltStream i 5 else r.2.enterSegment i n true

/-- A follower's START (R199). -/
def State.followerStart (s : State) (i : StreamIx) (g : GroupIx) (n : BitVec 16) : State :=
  let x := s.streams[i]
  let pass := (s.grp g).eng.pass
  let mark (s : State) : State := s.modG g fun gr => { gr with pat := { gr.pat with pass := pass } }
  if x.st = .running ∨ x.st = .underrun then
    if x.st = .running ∧ x.first = true ∧ x.startPos = s.esc.pos ∧ (s.grp g).pat.att ≠ .attached then
      if x.startSeg = n then
        let (bad, s) := s.attach i g
        if bad then (mark s).haltStream i 5 else mark s
      else s.refuseAttach g i
    else (s.modG g fun gr => { gr with pat := { gr.pat with fails := 0xFFFF } }).refuseAttach g i
  else
    (mark s).modG g fun gr => { gr with pat := { gr.pat with att := .pending n, stream := i, done := false, detach := false } }

/-- PAT_OP START (R189, R199): the group's site-map entry says which stream it takes part in; an uncorrectable word of it
halts the stream (R196). -/
def State.patStart (s : State) (g : GroupIx) (n : BitVec 16) : State :=
  let (ws, bad, s) := s.readWords (0x00600000 + 16 * g.val) 4
  let i : StreamIx := ⟨fld (ws.getD 0 0) 0 4, Nat.mod_lt _ (by decide)⟩
  if bad then
    let s := if (s.streams[i]).st = .running ∨ (s.streams[i]).st = .idle then s.haltStream i 5 else s
    s.refuseAttach g i
  else if bit (ws.getD 0 0) 4 then
    if s.ownerOf i = g then
      if (s.streams[i]).st ≠ .idle ∨ s.mode = .mirror then s.refuseAttach g i else s.startBurst i g n
    else s.followerStart i g n
  else
    match s.ownedStream g with
    | some k => s.refuseAttach g k
    | none => s

/-- PAT_OP START. -/
def execPatStart (g : GroupIx) (seg : BitVec 16) (s : State) : Host.Outcome State Fault Refusal :=
  .next (s.field g fun s => s.patStart g seg)

/-- PAT_OP STOP (R200). DESIGN CHOICE (log entry 128): a follower's START still pending is dropped, with no refusal. -/
def State.patStop (s : State) (g : GroupIx) : State :=
  let p := (s.grp g).pat
  match p.att with
  | .idle => s
  | .pending _ => s.modG g fun gr => { gr with pat := { gr.pat with att := .idle, done := true } }
  | .attached =>
    if (s.streams[p.stream]).owner = g then s.modSt p.stream fun x => { x with stop := true }
    else s.modG g fun gr => { gr with pat := { gr.pat with detach := true } }

/-- PAT_OP STOP. -/
def execPatStop (g : GroupIx) (s : State) : Host.Outcome State Fault Refusal := .next (s.field g fun s => s.patStop g)

/-- PAT_OP JUMP_REQ: commit-only, from the owner; while the stream does not run it is discarded and counted
(R204, R205). -/
def State.jumpReq (s : State) (g : GroupIx) (seg : BitVec 16) : State :=
  match s.ownedStream g with
  | none => s
  | some i =>
    if (s.streams[i]).st = .running then s.modSt i fun x => { x with jump := some seg }
    else s.bump (adr (pSTRM i) 0x26)

/-- PAT_OP JUMP_REQ. -/
def execJumpReq (g : GroupIx) (seg : BitVec 16) (s : State) : Host.Outcome State Fault Refusal :=
  .next (s.commitOnly g fun s => s.jumpReq g seg)

/-- PAT_OP FAIL_READ (R193). -/
def execFailRead (g : GroupIx) (a : RegIx) (s : State) : Host.Outcome State Fault Refusal :=
  .next (s.field g fun s => s.setX g a (s.failWord g))

/-- PAT_OP FAIL_CLR (R193). -/
def execFailClr (g : GroupIx) (s : State) : Host.Outcome State Fault Refusal :=
  .next (s.field g fun s => s.modG g fun gr => { gr with pat := { gr.pat with fails := 0, underrun := false } })

/-- PAT_DONE becomes true after the end of the group's burst (R200). -/
def execPatDone (g : GroupIx) (s : State) : Host.Outcome State Fault Refusal := .next <|
  if (s.grp g).pat.att = .idle then s.modG g fun gr => { gr with pat := { gr.pat with done := true } } else s

/-! ## The tick (R198, R199, R201, R215) -/

/-- Whether the owner program of a burst is admitted for the frame that begins. -/
def State.burstAdmitted (s : State) (x : Stream) : Bool :=
  let gr := s.grp x.owner
  (s.runNow || s.mode == .mirror) && !gr.gstop && gr.admitted x.prog

/-- One stream at a tick: HALTED goes IDLE; a burst whose program is not admitted ends; the RESUMEs due take effect. -/
def State.streamTick1 (s : State) (i : StreamIx) : State :=
  let x := s.streams[i]
  let due := x.resumes.contains 0
  let s := s.modSt i fun x => { x with resumes := (x.resumes.filter (· != 0)).map (· - 1) }
  let on := s.burstAdmitted x
  match x.st with
  | .idle => if due then s.event (pSTRM i) 4 else s
  | .halted => let s := if due then s.event (pSTRM i) 4 else s
    s.modSt i fun x => { x with st := .idle }
  | .running => let s := if due then s.event (pSTRM i) 4 else s
    if on then s else s.modSt i fun x => { x with stop := true }
  | .underrun =>
    if on then (if due then s.resumeStream i else s)
    else (if due then s.event (pSTRM i) 4 else s).endBurst i

/-- The streams at a tick, after the admissions of the frame are in force; pending followers are dropped. -/
def State.streamTick (s : State) : State :=
  let s := (below 16).foldl (fun s i => s.streamTick1 i) s
  let s := s.eachG fun s g =>
    match (s.grp g).pat.att with
    | .pending _ => s.dropFollower (s.grp g).pat.stream g
    | .idle | .attached => s
  s.creditTick

/-! ## STRM packets (R211 to R213, 16 R400) -/

/-- Four bytes as a word, least significant first. -/
def bytesWord : List Byte → Word
  | [a, b, c, d] => d ++ c ++ b ++ a
  | _ => 0

/-- Bytes into words. -/
def toWords : List Byte → List Word
  | a :: b :: c :: d :: r => bytesWord [a, b, c, d] :: toWords r
  | _ => []

/-- Store words of the RMT class still to be had in this frame (02 R41, R42). -/
def State.rmtLeft (s : State) : Nat := s.left none 2 cRMT

/-- Words written one after another into the pattern store, each at its byte address. -/
def State.writeWords (s : State) (at_ : Nat → Nat) (ws : List Word) : State :=
  (List.range ws.length).foldl (fun s k => s.sramWrite (at_ (4 * k)) (ws.getD k 0)) s

/-- Byte address in the stream's window of an accepted byte position (R186, R211). -/
def Ingress.target (e : Ingress) (i : StreamIx) (k : Nat) : Nat := 0x40000 * i.val + (e.at_.toNat + k) % 262144

/-- The oldest waiting data of a stream is written as far as the RMT store budget goes (R187, R211). -/
def State.writeIngress (s : State) (i : StreamIx) : State :=
  match (s.streams[i]).ingress with
  | [] => s
  | e :: rest =>
    let n := min (e.data.length / 4) s.rmtLeft
    let s := (s.pay none 2 cRMT n).writeWords (e.target i) ((toWords e.data).take n)
    let left : Ingress := { e with at_ := e.at_ + BitVec.ofNat 32 (4 * n), data := e.data.drop (4 * n) }
    let s := s.modSt i fun x => { x with ingress := if left.data.length < 4 then rest else left :: rest }
    if left.data.length < 4 then s else s.starved none 2 cRMT (left.data.length / 4)

/-- Waiting stream data is written once the budget allows (R211). -/
def execIngressWrite (i : StreamIx) (s : State) : Host.Outcome State Fault Refusal := .next (s.writeIngress i)

/-- Bytes in the ingress buffer. -/
def State.ingressFill (s : State) : Nat :=
  s.streams.toList.foldl (fun n x => x.ingress.foldl (fun n e => n + e.data.length) n) 0

/-- A STRM packet that is not taken: one NAK for each gap (16 R400). -/
def State.strmNak (s : State) (i : StreamIx) : State :=
  if s.kl.gap then s
  else
    let s := { s with kl := { s.kl with gap := true } }
    (if s.kl.addr = 0xFE then s else s.bump (adr pKL 0x11)).sendCredit i true

/-- Whether the ingress buffer takes n more bytes, past what the budget writes at once (R211). -/
def State.ingressRoom (s : State) (n : Nat) : Bool := decide (s.ingressFill + n ≤ 65536 + 4 * s.rmtLeft)

/-- A STRM packet of n data bytes passes in SEQ order, has its effect and is acknowledged, or is not taken (16 R400). -/
def State.strmTake (s : State) (i : StreamIx) (seq : BitVec 16) (n : Nat) (f : State → State) : State :=
  if seq ≠ s.kl.strmSeq ∨ s.ingressRoom n = false then s.strmNak i
  else (f { s with kl := { s.kl with strmSeq := s.kl.strmSeq + 1, gap := false } }).sendCredit i false

/-- A STRM packet fails R211: it is dropped whole, and counted. -/
def State.strmDrop (s : State) (i : StreamIx) : State := (s.bump (adr (pSTRM i) 0x0F)).event (pSTRM i) 3

/-- Refill data (R211): it follows what was received, within the credit; it is written, or waits. -/
def State.refill (s : State) (i : StreamIx) (offset : Word) (data : List Byte) : State :=
  let x := s.streams[i]
  let n := data.length
  if offset = x.rcvd ∧ n ≤ (x.credit - x.rcvd).toNat then
    let s := s.modSt i fun x => { x with
      rcvd := x.rcvd + BitVec.ofNat 32 n, ingress := if n < 4 then x.ingress else x.ingress ++ [⟨offset, data⟩] }
    if x.ingress.isEmpty then s.writeIngress i else s
  else s.strmDrop i

/-- A RESIDENT load (R211): only on an IDLE stream, within the store past the windows. It takes no share (R187). -/
def State.residentLoad (s : State) (i : StreamIx) (offset : Word) (data : List Byte) : State :=
  let a := offset.toNat
  if (s.streams[i]).st = .idle ∧ a % 8 = 0 ∧ 0x00400000 ≤ a ∧ a + data.length ≤ 0x02000000 then
    s.writeWords (a + ·) (toWords data)
  else s.strmDrop i

/-- A STRM packet (R211): its place in the sequence, then what its KIND does. -/
def State.strmPacket (s : State) (i : StreamIx) (seq : BitVec 16) (resident : Bool) (offset : Word) (data : List Byte) : State :=
  if resident then s.strmTake i seq 0 fun s => s.residentLoad i offset data
  else s.strmTake i seq data.length fun s => s.refill i offset data

/-- A STRM packet of kind REFILL. -/
def execRefill (i : StreamIx) (seq : BitVec 16) (offset : Word) (data : List Byte) (s : State) :
    Host.Outcome State Fault Refusal :=
  .next (s.carried fun s => s.strmPacket i seq false offset data)

/-- A STRM packet of kind RESIDENT. -/
def execResidentLoad (i : StreamIx) (seq : BitVec 16) (offset : Word) (data : List Byte) (s : State) :
    Host.Outcome State Fault Refusal :=
  .next (s.carried fun s => s.strmPacket i seq true offset data)

/-- `STRM[s].CTRL.FLUSH`: in CONFIGURE with the stream IDLE the window's counts start again (R213). -/
def State.streamFlush (s : State) (i : StreamIx) (v : Word) : State :=
  if bit v 7 && s.mode == .configure && (s.streams[i]).st == .idle then
    (s.modSt i fun x => { x with rcvd := 0, rdPos := 0, held := none, stack := [], need := 0, ingress := [] }).creditStep i
  else s

/-- A write of `STRM[s].CTRL` (R210, R213): only while the stream is IDLE; FLUSH acts and is not kept. -/
def State.strmCtrlWrite (s : State) (i : StreamIx) (v : Word) : State :=
  if (s.streams[i]).st = .idle then
    (s.setReg (adr (pSTRM i) 0x08) (v &&& 0x3FFFFF3F)).streamFlush i v
  else s.refuse (pSTRM i)

/-- A write of `STRM[s].CTRL` with FLUSH. -/
def execStreamFlush (i : StreamIx) (v : Word) (s : State) : Host.Outcome State Fault Refusal := .next (s.strmCtrlWrite i v)

end Sys2Proof.Machine
end

