-- ==== Sys2Proof/Machine/Waveform.lean ====
section
/-! DEFINITION. Waveform sources (08): the sine, stored waveforms and their resampler, arming, playing, stopping. -/

namespace Sys2Proof.Machine

open Sys2Proof

/-! ## Registers (R235) -/

/-- Register of a WAV page. -/
def State.wavReg (s : State) (g : GroupIx) (o : Nat) : Word := s.reg (adr (pWAV g) o)

/-- IDLE_CODE. -/
def State.idleCode (s : State) (g : GroupIx) : BitVec 14 := (s.wavReg g 0x0F).extractLsb' 16 14

/-- FTW. -/
def State.ftw (s : State) (g : GroupIx) : BitVec 48 := s.reg48 (adr (pWAV g) 0x0C)

/-- The waveform source changed. -/
def State.modW (s : State) (g : GroupIx) (f : WavSrc → WavSrc) : State :=
  s.modG g fun gr => { gr with wav := f gr.wav }

/-- A source returns to IDLE at IDLE_CODE. -/
def State.wavIdle (s : State) (g : GroupIx) : State :=
  let c := s.idleCode g
  s.modW g fun w => { w with st := .idle, out := c, stopAt := none, entries := [] }

/-- A source stops at a tick; EVT.DONE where it played (R231, R235). -/
def State.wavStopNow (s : State) (g : GroupIx) : State :=
  let t := s.wavIdle g
  if (s.grp g).wav.st = .playing then t.event (pWAV g) 0 else t

/-! ## Sine (R222, R223) -/

/-- π in units of 2^-64. -/
def piFixed : Nat := 57952155664616982739

/-- Entry i of the quarter-wave table: round(131,071 × sin(π i / 8,192)), by its series in units of 2^-64. -/
def sineEntry (i : Nat) : Int :=
  let one : Nat := 2 ^ 64
  let x := piFixed * i / 8192
  let x2 := x * x / one
  let acc := [22, 20, 18, 16, 14, 12, 10, 8, 6, 4, 2].foldl (fun acc k => one - x2 * acc / one / (k * (k + 1))) one
  let v := x * acc / one
  ((2 * 131071 * v + one) / (2 * one) : Nat)

/-- Linear interpolation between two entries with a fraction in 2^-16: the nearest integer, which keeps y within 1 of the
exact value (R223). -/
def sineInterp (e0 e1 : Int) (f : Nat) : Int := roundTie 0 (e0 * 65536 + (e1 - e0) * f) 65536

/-- y of a phase (R223). -/
def sineOf (p : BitVec 48) : Int :=
  let i := fld p 34 12
  let f := fld p 18 16
  let m := if bit p 46 then sineInterp (sineEntry (4096 - i)) (sineEntry (4095 - i)) f
    else sineInterp (sineEntry i) (sineEntry (i + 1)) f
  if bit p 47 then -m else m

/-- A sample code at the DAC: clipped to 14 bits and counted (R223, R227). -/
def State.wavOut (s : State) (g : GroupIx) (c : Int) : State :=
  let s := if c < 0 ∨ 16383 < c then (s.bump (adr (pWAV g) 0x12)).event (pWAV g) 4 else s
  s.modW g fun w => { w with out := BitVec.ofInt 14 (clampInt 0 16383 c) }

/-- The next generated sample of a sine: the code of P, then P advances by FTW. -/
def State.sineSample (s : State) (g : GroupIx) : State :=
  let w := (s.grp g).wav
  let c : Int := (fld (s.wavReg g 0x0F) 0 14 : Nat) + roundUp (sineOf w.p * (fld (s.wavReg g 0x0E) 16 16 : Nat)) 1048576
  let f := s.ftw g
  (s.wavOut g c).modW g fun w => { w with p := w.p + f }

/-! ## Stored waveforms (R224 to R228) -/

/-- Register o of segment n: 0 ADDR, 1 LEN, 2 REP, 3 CTL (R235). -/
def State.wavSeg (s : State) (g : GroupIx) (n : Fin 8) (o : Nat) : Word := s.wavReg g (0x18 + 4 * n.val + o)

/-- Byte address of the first sample of a segment, a multiple of 4. -/
def State.segBase (s : State) (g : GroupIx) (n : Fin 8) : Nat := fld (s.wavSeg g n 0) 0 25 / 4 * 4

/-- NEXT of a segment. -/
def State.segNext (s : State) (g : GroupIx) (n : Fin 8) : Fin 8 := ⟨fld (s.wavSeg g n 3) 0 3, Nat.mod_lt _ (by decide)⟩

/-- Segments reachable from n, at most eight. -/
def State.segsFrom (s : State) (g : GroupIx) : Nat → Fin 8 → List (Fin 8)
  | 0, _ => []
  | k + 1, n => n :: (if bit (s.wavSeg g n 3) 3 then [] else s.segsFrom g k (s.segNext g n))

/-- Whether a segment lies within the resident area (R224, R230). -/
def State.segInArea (s : State) (g : GroupIx) (n : Fin 8) : Bool :=
  decide (0x00800000 ≤ s.segBase g n) &&
    decide (s.segBase g n + 2 * (fld (s.wavSeg g n 1) 0 24 + 1) ≤ 0x02000000)

/-- Rate of R227: NUM and DEN. -/
def State.wavRate (s : State) (g : GroupIx) : Nat × Nat := (fld (s.wavReg g 0x10) 0 16, fld (s.wavReg g 0x10) 16 16)

/-- A sample enters the sixteen of the filter window. -/
def WavSrc.enter (w : WavSrc) (c : Nat) : WavSrc := { w with window := (c :: w.window).take 16, taken := w.taken + 1 }

/-- The fetch goes past the sample it took: within the pass, to the next pass, to NEXT, or to the end (R226). -/
def State.wavAdvance (s : State) (g : GroupIx) : State :=
  let w := (s.grp g).wav
  if w.idx < fld (s.wavSeg g w.fseg 1) 0 24 then s.modW g fun w => { w with idx := w.idx + 1 }
  else if w.pass ≠ 0 then s.modW g fun w => { w with idx := 0, pass := w.pass - 1 }
  else if bit (s.wavSeg g w.fseg 3) 3 then s.modW g fun w => { w with ended := some w.taken }
  else
    let n := s.segNext g w.fseg
    let r := fld (s.wavSeg g n 2) 0 24
    s.modW g fun w => { w with fseg := n, idx := 0, pass := r, entries := w.entries ++ [(w.taken, n)] }

/-- One more sample enters the window: a stored one, or IDLE_CODE past the end. A word is fetched once for its two samples;
an uncorrectable one poisons the window (R224 to R226). -/
def State.wavFetch (s : State) (g : GroupIx) : State :=
  let w := (s.grp g).wav
  match w.ended with
  | some _ => let c := (s.idleCode g).toNat
    s.modW g fun w => w.enter c
  | none =>
    let s :=
      if w.idx % 2 = 0 then
        let r := s.sramRead (s.segBase g w.fseg + 4 * (w.idx / 2))
        r.2.2.modW g fun x => { x with word := r.1, poison := x.poison || r.2.1 }
      else s
    (s.modW g fun x => x.enter (fld x.word (16 * (w.idx % 2)) 14)).wavAdvance g

/-- Enters samples until the window of stored position n is whole: samples n − 7 to n + 8. -/
def State.wavFill (s : State) (g : GroupIx) (n : Nat) : State :=
  (List.range (n + 9 - (s.grp g).wav.taken)).foldl (fun s _ => s.wavFetch g) s

/-- Segment entries whose first sample is due at output sample k fire their triggers (R228). -/
def State.wavTriggers (s : State) (g : GroupIx) (k : Nat) : State :=
  let (num, den) := s.wavRate g
  let w := (s.grp g).wav
  let due := w.entries.filter fun e => decide (e.1 * den ≤ k * num)
  let s := s.modW g fun w => { w with entries := w.entries.filter fun e => !decide (e.1 * den ≤ k * num) }
  due.foldl (fun s e =>
    let s := s.modW g fun w => { w with seg := e.2 }
    if bit (s.wavSeg g e.2 3) 4 then s.wavFire g else s) s

/-- Whether the last output sample that depends on a stored one has been output (R226). -/
def State.wavOver (s : State) (g : GroupIx) : Bool :=
  let w := (s.grp g).wav
  let (num, den) := s.wavRate g
  match w.ended with
  | some m => decide (m + 7 ≤ w.k * num / max den 1)
  | none => false

/-- A source meets poisoned data (R225): FAULT at FAULT_CODE, its event and fault. -/
def State.wavPoison (s : State) (g : GroupIx) : State :=
  ((s.wavFault g).event (pWAV g) 3).raise (srcWAV g) kWAV_POISON 0

/-- The next output sample of a stored waveform (R226 to R228). -/
def State.storedSample (s : State) (g : GroupIx) : State :=
  if s.wavOver g then s
  else
    let (num, den) := s.wavRate g
    let k := (s.grp g).wav.k
    let n := k * num / max den 1
    let s := s.wavFill g n
    let w := (s.grp g).wav
    if w.poison then s.wavPoison g
    else
      let phase := min 1023 ((2048 * (k * num % max den 1) + max den 1) / (2 * max den 1))
      let s := s.wavOut g (Config.resample w.window phase)
      (s.wavTriggers g k).modW g fun w => { w with k := k + 1 }

/-- A source that plays produces its next output sample. -/
def execWavOutputSample (g : GroupIx) (s : State) : Host.Outcome State Fault Refusal := .next <|
  let w := (s.grp g).wav
  if w.st = .playing then (if w.stored then s.storedSample g else s.sineSample g) else s

/-- The last output sample of a stored waveform is out (R226). -/
def execWavEnd (g : GroupIx) (s : State) : Host.Outcome State Fault Refusal := .next <|
  let w := (s.grp g).wav
  if w.st = .playing ∧ w.stored = true ∧ s.wavOver g = true then (s.wavIdle g).event (pWAV g) 0 else s

/-! ## Arming and stopping (R229 to R233) -/

/-- First failing check of an arm but NOT_RUN (R230). -/
def State.wavReason (s : State) (g : GroupIx) (inTime : Bool) : Nat :=
  let c := s.wavReg g 0x08
  let (num, den) := s.wavRate g
  let first : Fin 8 := ⟨fld c 8 3, Nat.mod_lt _ (by decide)⟩
  if s.mode ≠ .configure ∧ s.mode ≠ .run then 1
  else if (s.grp g).wav.st ≠ .idle then 2
  else if inTime = false then 3
  else if bit c 4 && !(decide (1 ≤ num) && decide (8 * num ≤ den)) then 4
  else if bit c 4 && !(s.segsFrom g 8 first).all (s.segInArea g) then 5
  else 0

/-- The arm received is checked (R230). -/
def State.wavCheck (s : State) (g : GroupIx) : State :=
  match (s.grp g).wav.armReq with
  | none => s
  | some t =>
    let r := s.wavReason g t
    let c := s.wavReg g 0x08
    let s := s.modW g fun w => { w with armReq := none, reason := BitVec.ofNat 4 r }
    if r = 0 then
      s.modW g fun w => { w with st := .armed, stored := bit c 4, first := ⟨fld c 8 3, Nat.mod_lt _ (by decide)⟩ }
    else s.event (pWAV g) 2

/-- An arm is received for the frame START_AT names. In a state other than IDLE its check refuses it at once; an earlier
arm has its check first (R230). -/
def State.wavArmBit (s : State) (g : GroupIx) : State :=
  let m := s.reg48 (adr (pWAV g) 0x0A)
  let inTime := decide (s.esc.frame.toNat + 2 ≤ m.toNat)
  if (s.grp g).wav.st = .idle then s.modW g fun w => { w with armReq := some inTime, at_ := m }
  else (s.modW g fun w => { w with armReq := some inTime }).wavCheck g

/-- Whether a STOP of this SEQ cycle has come and left the source IDLE: it applies after an arm of the cycle (R231). -/
def State.stopWaits (s : State) (g : GroupIx) : Bool := s.rootRuns && (s.grp g).wav.stopReq == some s.rootNow

/-- The STOP bit of CTRL (R231): it comes after an arm received before it, and after one still to come in its SEQ cycle; an arm is
cancelled at once; else the stop waits for its tick. -/
def State.wavStopBit (s : State) (g : GroupIx) : State :=
  let s := s.wavCheck g
  let n := if s.pastCut then 2 else 1
  match (s.grp g).wav.st with
  | .idle => s.modW g fun w => { w with stopReq := some s.rootNow }
  | .armed => (s.wavIdle g).modW g fun w => { w with stopReq := some s.rootNow }
  | .playing | .fault => s.modW g fun w => { w with stopAt := some (match w.stopAt with
      | some k => min k n
      | none => n) }

/-- A write of CTRL (R230, R231, R233): other bits than STOP count only in IDLE; an arm is received in any state and
checked; a STOP of the same write comes after it. -/
def State.wavCtrlWrite (s : State) (g : GroupIx) (v : Word) : State :=
  let s := if bit v 0 then s.wavCheck g else s
  let s := if (s.grp g).wav.st = .idle then s.setReg (adr (pWAV g) 0x08) (v &&& 0x710)
    else if v &&& ~~~2#32 = 0 then s else s.refuse (pWAV g)
  let s := if bit v 0 then s.wavArmBit g else s
  if bit v 1 || (bit v 0 && s.stopWaits g) then s.wavStopBit g else s

/-- A write of `WAV[g].CTRL` with ARM. -/
def execWavArm (g : GroupIx) (v : Word) (s : State) : Host.Outcome State Fault Refusal := .next (s.wavCtrlWrite g v)

/-- A write of `WAV[g].CTRL` with STOP. -/
def execWavStop (g : GroupIx) (v : Word) (s : State) : Host.Outcome State Fault Refusal := .next (s.wavCtrlWrite g v)

/-- The arm received is checked (R230). -/
def execWavArmCheck (g : GroupIx) (s : State) : Host.Outcome State Fault Refusal := .next (s.wavCheck g)

/-- An armed source returns to IDLE with reason NOT_RUN (R230). -/
def State.wavNotRun (s : State) (g : GroupIx) : State :=
  ((s.wavIdle g).modW g fun w => { w with reason := 6 }).event (pWAV g) 2

/-- SEQ cycle 64 of the start frame, to which time passes: the source plays, or the arm is not run (R230). DAC conversions of a
RECAL end (12 R304). -/
def execWavStart (g : GroupIx) (s : State) : Host.Outcome State Fault Refusal := .next <|
  let w := (s.grp g).wav
  if w.st = .armed ∧ w.at_ = s.esc.frame ∧ s.esc.pos.toNat ≤ 64 then
    let s := s.passTo 64
    if s.mode = .run then
      let p : BitVec 48 := ((s.wavReg g 0x0E).setWidth 16 : BitVec 16) ++ 0#32
      let idle := (s.idleCode g).toNat
      let r := fld (s.wavSeg g w.first 2) 0 24
      let s := s.modG g fun gr => { gr with tb := { gr.tb with wdac := false }, wav := { gr.wav with
        st := .playing, p := p, k := 0, taken := 0, seg := if gr.wav.stored then gr.wav.first else gr.wav.seg,
        fseg := gr.wav.first, idx := 0, pass := r,
        ended := none, poison := false, window := List.replicate 16 idle, entries := [(0, gr.wav.first)], stopAt := none } }
      s.event (pWAV g) 1
    else s.wavNotRun g
  else s

/-- The tick at which a stop takes effect, or at which RUN has ended (R231). -/
def execWavStopEffect (g : GroupIx) (s : State) : Host.Outcome State Fault Refusal := .next <|
  let w := (s.grp g).wav
  if w.stopAt = some 0 ∨ (w.st = .playing ∧ s.mode ≠ .run) then s.wavStopNow g else s

/-- A tick passes for stops that wait (R231). -/
def WavSrc.tick (w : WavSrc) : WavSrc := { w with stopAt := w.stopAt.map fun n => n - 1 }

/-- The tick of the start frame, if RUN does not hold from it on (R229, R230). -/
def State.wavTick (s : State) (g : GroupIx) : State :=
  let w := (s.grp g).wav
  if w.st = .armed ∧ w.at_.toNat ≤ s.esc.frame.toNat ∧ s.runNow = false then s.wavNotRun g else s

/-- A write of another register of a WAV page (R222, R233). -/
def State.wavRegWrite (s : State) (g : GroupIx) (o : Nat) (v : Word) : State :=
  let p := pWAV g
  let idle := (s.grp g).wav.st == .idle
  let mask : Word :=
    if o = 0x0B ∨ o = 0x0D then 0xFFFF
    else if o = 0x0A ∨ o = 0x0C ∨ o = 0x0E ∨ o = 0x10 ∨ o = 0x11 then 0xFFFFFFFF
    else if o = 0x0F then 0x3FFF3FFF
    else if 0x18 ≤ o ∧ o ≤ 0x37 then
      (if o % 4 = 0 then 0x1FFFFFF else if o % 4 = 3 then 0x1F else 0xFFFFFF)
    else 0
  let v := v &&& mask
  if mask = 0 then s
  else if o = 0x0A ∨ o = 0x0B then s.setReg (adr p o) v
  else if idle = false then s.refuse p
  else if o = 0x0C ∨ o = 0x0D then
    let t := s.setReg (adr p o) v
    if 0x666666666666 < (t.ftw g).toNat then s.refuse p else t
  else if o = 0x0F then
    let old := s.wavReg g 0x0F
    if s.mode = .configure then
      let s := s.setReg (adr p o) v
      let c := s.idleCode g
      s.modW g fun w => { w with out := c }
    else
      let s := s.setReg (adr p o) ((old &&& 0x3FFF0000) ||| (v &&& 0x3FFF))
      if v &&& 0x3FFF0000 = old &&& 0x3FFF0000 then s else s.refuse p
  else s.setReg (adr p o) v

/-- Read-only view of `WAV[g].STATE`. -/
def State.wavState (s : State) (g : GroupIx) : Word :=
  let w := (s.grp g).wav
  let c : Nat := match w.st with
    | .idle => 0
    | .armed => 1
    | .playing => 2
    | .fault => 3
  BitVec.ofNat 32 (c + w.seg.val <<< 4 + w.reason.toNat <<< 8)

end Sys2Proof.Machine
end

