-- ==== Sys2Proof/Machine/Convert.lean ====
section
/-! DEFINITION. Samples as they are taken: the group conversion clock and the completion of a conversion
(04 R83 to R112, 10 R263). -/

namespace Sys2Proof.Machine

open Sys2Proof

/-- A CONTINUOUS conversion samples on a clock edge, for one ADC slot of its class (02 R31, R87). -/
def State.continuousEdge (s : State) (g : GroupIx) (b : Nat) (l : LaneIx) : State :=
  let sl := (s.grp g).slice l
  match sl.job with
  | none => s
  | some j =>
    if j.continuous && sl.powered && !sl.warming then
      if lane (s.grp g).hold l then (if srcActing j.src l = 1 ∨ srcActing j.src l = 2 then s.substitute g l b else s)
      else if j.take.isSome then s
      else
        let k := s.sampling g l j.src (some b)
        (s.modG g fun gr => gr.modSlice l fun sl => { sl with job := some { j with take := some k } }).use (some g) 1 j.cls.val 1
    else s

/-- An edge of the group conversion clock, which runs from the end of BOOT (R87, R102, R103, R112). -/
def State.clockEdge (s : State) (g : GroupIx) : State :=
  if s.mode = .reset ∨ s.mode = .boot ∨ s.clk.gated = true then s
  else
    let now := s.rootNow
    let s := s.modG g fun gr => ({ gr with edges := gr.edges + 1, edgeAt := now }).modLanes 0xFFFF fun _ c => { c with ms := c.ms.atEdge now }
    let b := (s.grp g).edges
    ((below 16).foldl (fun s l => s.continuousEdge g b l) s).captureEdge g

/-- An edge of the group conversion clock. -/
def execGroupConversionClockEdge (g : GroupIx) (s : State) : Host.Outcome State Fault Refusal := .next (s.clockEdge g)

/-- A result on its way to the GE (R95). -/
def State.deliver (s : State) (g : GroupIx) (l : LaneIx) (j : Job) (w : Word) (ovr : Bool) : State :=
  let a : Arrival := { l0 := w, l1 := none, ovr := ovr, pass := j.pass }
  let s := s.modMs g l fun m => { m with arrivals := m.arrivals ++ [a], lastRes := some (w, ovr) }
  (s.modG g fun gr => gr.finishJob l).beginSample g l

/-- A job's sum after one more sample: a block, a result, or the next sample (R86, R96, R97). -/
def State.afterSample (s : State) (g : GroupIx) (l : LaneIx) (j : Job) : State :=
  if j.n < 2 ^ j.k then
    (s.modG g fun gr => gr.modSlice l fun sl => { sl with job := some j }).beginSample g l
  else if j.continuous then
    let s := s.modG g fun gr => gr.modSlice l fun sl => { sl with job := some { j with sum := 0, n := 0, ovr := false } }
    let w := resultWord j.sum j.k
    s.modMs g l fun m => { m with block := w, blockCnt := m.blockCnt + 1, blockOvr := j.ovr, lastRes := some (w, j.ovr) }
  else s.deliver g l j (resultWord j.sum j.k) j.ovr

/-- A corrected sample enters what takes samples: the integrators, the lane's latest value, its quad, the group's
capture (R98, R99, 06 R161, 10 R263). -/
def State.spreadSample (s : State) (g : GroupIx) (l : LaneIx) (k : Sampling) (y16 : Int) (ovr : Bool) : State :=
  let y := roundUp y16 16
  let s := if ovr then s.bump (adr (pGRP g) 0x21) else s
  let s :=
    if k.src = 1 ∨ k.src = 2 then s.integrate g l k.edge (y - 524288)
    else
      match k.src, k.edge with
      | 0, some b => s.partnerSample g l b (y - 262144)
      | _, _ => s
  let s := if k.src = 0 then s.modMs g l fun m => { m with lastY := y.toNat } else s
  let s := s.quadSample g l k.src k.edge y16
  if k.edge.isSome then s.captureSample g l y16 ovr else s

/-- A slice has converted a raw code; in SHADOW the spare has converted its own at the same instant (R106). -/
def State.converted (s : State) (g : GroupIx) (l : LaneIx) (j : Job) (k : Sampling) (raw spare : BitVec 20) : State :=
  let y := k.correct raw
  let o := overrange raw
  let s := (s.spreadSample g l k y o).shadowSample g l k y spare
  s.afterSample g l { j with sum := j.sum + y, n := j.n + 1, ovr := j.ovr || o, take := none }

/-- What a held lane's result repeats: the last result taken before the hold, with its overrange mark (R85, R111). -/
def Measure.repeated (m : Measure) : Word × Bool := m.lastRes.getD (m.l0, m.resOvr)

/-- A conversion on a lane in a force-path hold takes no sample of the channel's sources (R111): its result repeats
the last one. -/
def State.heldConversion (s : State) (g : GroupIx) (l : LaneIx) (j : Job) : State :=
  if j.continuous then s
  else if j.n + 1 < 2 ^ j.k then
    (s.modG g fun gr => gr.modSlice l fun sl => { sl with job := some { j with n := j.n + 1, take := none } }).beginSample g l
  else
    let r := (s.chan g l).ms.repeated
    s.deliver g l j r.1 r.2

/-- A slice completes a conversion with its raw code, and the spare with its own where it pairs (R83, R95, R106); a sample
taken before a hold counts though it is converted in it (R112). -/
def State.conversionComplete (s : State) (g : GroupIx) (l : LaneIx) (codes : BitVec 20 × BitVec 20) : State :=
  let sl := (s.grp g).slice l
  match sl.job with
  | none => s
  | some j =>
    if sl.warming then s
    else
      match j.take with
      | some k => s.converted g l j k codes.1 codes.2
      | none =>
        if lane (s.grp g).hold l then s.heldConversion g l j
        else if j.continuous then s else s.converted g l j (s.sampling g l j.src none) codes.1 codes.2

/-- A conversion completes. -/
def execConversionComplete (g : GroupIx) (l : LaneIx) (codes : BitVec 20 × BitVec 20) (s : State) :
    Host.Outcome State Fault Refusal :=
  .next (s.conversionComplete g l codes)

/-! ## Paired conversions on an idle lane (R98, R106) -/

/-- Slots of the group's CAL ADC share that a paired conversion takes: two from power-down (02 R31). -/
def Slice.pairSlots (sl : Slice) : Nat := if sl.powered then 1 else 2

/-- A vendor start takes one paired conversion of a source on the lane in SHADOW: the sample counts as any other (R98); one
that a customer's start displaces gives no pair, and its slots still count (R106). -/
def State.vendorPair (s : State) (g : GroupIx) (src : BitVec 3) (lost : Bool) (code : BitVec 20 × BitVec 20) : State :=
  let tb := (s.grp g).tb
  let l := tb.lane
  let sl := (s.grp g).slice l
  if tb.st ≠ .shadow ∨ s.tbPairs ≤ tb.pairs.n ∨ lane (s.grp g).hold l = true then s
  else if s.calFits g sl.pairSlots = false then s.starved (some g) 1 cCAL sl.pairSlots
  else
    let s := s.pay (some g) 1 cCAL sl.pairSlots
    if lost || sl.job.isSome || sl.next.isSome || (s.chan g l).ms.startWaits then s
    else
      let k := s.sampling g l src none
      let y := k.correct code.1
      (s.spreadSample g l k y (overrange code.1)).shadowSample g l k y code.2

/-- The vendor routine's n paired conversions of a source, by their codes on the live slice and the spare, and which of them
a customer's start displaced; with M pairs the rotation moves to MATCH (R106, R107). DESIGN CHOICE (log entry 80): the source
is an operand, since the rule names none for an idle lane. -/
def State.shadowDone (s : State) (g : GroupIx) (n : Nat) (live spare : List (BitVec 20)) (lost : List Nat) (src : BitVec 3) :
    State :=
  let s := (List.range n).foldl (fun s i => s.vendorPair g src (lost.contains i) (live.getD i 0, spare.getD i 0)) s
  let tb := (s.grp g).tb
  if tb.st = .shadow ∧ s.tbPairs ≤ tb.pairs.n then s.modG g fun gr => { gr with tb := { gr.tb with st := .match } } else s

/-- The spare has its M pairs. -/
def execTbShadowDone (g : GroupIx) (n : Nat) (live spare : List (BitVec 20)) (lost : List Nat) (src : BitVec 3) (s : State) :
    Host.Outcome State Fault Refusal :=
  .next (s.shadowDone g n live spare lost src)

/-! ## The beginning of a force-path hold (R111, R113; 12 R300) -/

/-- Whether a quad is active, or about to start from IDLE (R113, 12 R302). -/
def State.quadTaken (s : State) (g : GroupIx) (j : QuadIx) : Bool := (s.quad g j).st.active || (s.dueStep g j).isSome

/-- Whether the quads leave a lane free for a hold: no quad in use has it, or it is channel 4q of one that rests and is not about
to regulate; and it is no thermistor lane of one (R113, 12 R300, R302). -/
def State.fpQuadFree (s : State) (g : GroupIx) (l : LaneIx) : Bool :=
  let j := quadOf l
  let q := s.quad g j
  (!s.quadTaken g j || (l == quadLane j 0 && (!q.st.active || q.mode == 0) && !s.dueRegulates g j)) &&
    (below 4).all fun k => !(s.quadTaken g k && s.tempEn g k && s.tempLane g k == l)

/-- The hold begins: the output keeps what the lane's stage or driver gives it, and the rotation leaves the lane (R105,
R111). -/
def State.beginHold (s : State) (g : GroupIx) (l : LaneIx) : State :=
  let fe := (s.chan g l).fe
  let out : HeldOutput := { stage := fe.stage, code := s.stageCode g l, driver := if fe.outSel then some fe.driver else none,
                            wav := (s.grp g).wav.out }
  let s := s.modG g fun gr => { gr with
    hold := 1#16 <<< l.val, holdReq := none, lastFp := l, holdPts := [], holdSlots := 0, holdFrames := 0, holdUsed := 0,
    holdRes := none, holdEnd := none, holdOut := out }
  let tb := (s.grp g).tb
  if tb.lane = l ∧ (tb.st = .shadow ∨ tb.st = .match ∨ tb.st = .handover) then s.modG g fun gr => gr.tbShadow l else s

/-- A requested hold begins in the lock window (R111), unless a quad has come to need the lane since (R113). -/
def State.holdBegin (s : State) (g : GroupIx) : State :=
  match (s.grp g).holdReq with
  | none => s
  | some l =>
    if s.lockWindow = true ∧ s.mode = .run ∧ (s.grp g).hold = 0 then
      if s.fpQuadFree g l then s.beginHold g l else s.modG g fun gr => { gr with holdReq := none }
    else s

/-- A requested hold begins. -/
def execHoldBegin (g : GroupIx) (s : State) : Host.Outcome State Fault Refusal := .next (s.holdBegin g)

end Sys2Proof.Machine
end

