-- ==== Sys2Proof/Machine/Vendor.lean ====
section
/-! DEFINITION. Complications (12): vendor routines, relay wear, telemetry. -/

namespace Sys2Proof.Machine

open Sys2Proof

/-! ## Starting a vendor routine (R298, R299, 02 R43) -/

/-- A group whose engine is free for background work in this mode (R298, R299, 05 R153). -/
def State.vendorFree (s : State) (g : GroupIx) : Bool :=
  let gr := s.grp g
  (s.mode == .run || s.mode == .mirror) && !gr.failed && !gr.eng.running && s.fgDone gr

/-- Entry of the k-th vendor routine in the directory of word 0xC00, 12 bits each from bit 167 down (05 R153). -/
def State.vendorEntry (s : State) (g : GroupIx) (k : Nat) : Nat := fld (s.uc g 0xC00) (168 - 12 * k) 12

/-- Header of the k-th vendor routine, where the directory names one that lies intact in the vendor region (05 R139,
R153). -/
def State.vendorHeader (s : State) (g : GroupIx) (k : Nat) : Option Slot :=
  let e := s.vendorEntry g k
  if e < 0xC00 ∨ s.ucBad g 0xC00 = true ∨ s.ucBad g e = true then none
  else (headerIn 0x1000 e (ucBits (s.uc g e))).map (·.1)

/-- The words read for the k-th vendor routine, the directory and then its header, are counted where their parity is wrong (11
R293). -/
def State.countVendor (s : State) (g : GroupIx) (k : Nat) : State :=
  let e := s.vendorEntry g k
  let read := if s.ucBad g 0xC00 ∨ e < 0xC00 then [0xC00] else [e]
  (read.filter (s.ucBad g)).foldl (fun s a => s.parityError 0 a) s

/-- Whether the ADC slots of a routine fit: the hold sequencer's claim on the slots of CAL comes first (R301). -/
def State.vendorSlotsFit (s : State) (g : GroupIx) (c : ClassIx) (p : Slot) : Bool :=
  if c = cCAL then s.calFits g p.a.toNat else s.fits (some g) 1 c p.a.toNat

/-- Whether the worst case of a routine fits (02 R43), from the cycle in which it can start on: the one after the last routine's
END (05 R153). -/
def State.vendorFits (s : State) (g : GroupIx) (c : ClassIx) (p : Slot) : Bool :=
  s.fits (some g) 0 c p.w.toNat && decide (max s.esc.pos.toNat (s.grp g).nextAt + p.w.toNat ≤ s.cutAt) &&
    s.vendorSlotsFit g c p

/-- A vendor routine is released on the group's engine, under the guard, the extent and the RST of its own header, and its
work is done; time passes to the cycle after the last routine's END. Its words run in the cycles that follow, to its END,
under 05 R142 to R151 (05 R153, 02 R43). DESIGN CHOICE (log entry 14): the work, which the spec gives by the routine and not
by its words, is done at the release. -/
def State.vendorStart (s : State) (g : GroupIx) (c : ClassIx) (p : Slot) (f : State → State) : State :=
  let s := s.passTo (s.grp g).nextAt
  let pend := s.irqPend g
  let s := s.modG g fun gr => { gr with staging := [], irqSeen := pend,
                                        eng := { gr.eng.start 0 p with vendor := true, cls := c } }
  let s := (s.latchView g).fetch g
  if (s.grp g).eng.running then f s else s

/-- A vendor routine of the region is attempted at its place in the frame's order: with work pending it runs if it fits, else
its class stops in the group for the frame (R298, R299). -/
def State.vendorRun (s : State) (g : GroupIx) (order : Nat) (c : ClassIx) (pending : Bool) (f : State → State) : State :=
  let gr := s.grp g
  if s.vendorFree g = false ∨ order ≤ gr.vendorAt then s
  else
    let s := s.modG g fun gr => { gr with vendorAt := order }
    if pending = false ∨ gr.vendorStop.contains c = true then s
    else
      let s := s.countVendor g order
      match s.vendorHeader g order with
      | none => s
      | some p =>
        if s.vendorFits g c p then s.vendorStart g c p f
        else
          let s := s.modG g fun gr => { gr with vendorStop := c :: gr.vendorStop }
          if s.fits (some g) 0 c p.w.toNat && !s.vendorSlotsFit g c p then s.starved (some g) 1 c p.a.toNat
          else s.starved (some g) 0 c p.w.toNat

/-! ## Force-path calibration (R300 to R302) -/

/-- The results of a completed hold are in range: coefficients staged, COEF_COMMIT set, TDC_DLY written; the hold ends
at the next tick (R302). -/
def State.fpStage (s : State) (g : GroupIx) (l : LaneIx) (pts : List (BitVec 20)) : State :=
  let s := (List.range 16).foldl (fun s w =>
    s.setCpm g (64 * l.val + 0x20 + w) ((Config.fpCoef pts w).setWidth 32)) s
  let (n, s) := s.draw
  let s := s.setCpm g (64 * l.val + 0x32) ((Config.fpDelay n (chanNo g l)).setWidth 32)
  let a := adr (pGRP g) 0x2B
  let s := s.setReg a (s.reg a ||| (1#32 <<< l.val))
  s.modG g fun gr => { gr with holdEnd := some 0, holdRes := none }

/-- Full scale of the path of coefficient pair k, in codes (R302). DESIGN CHOICE (log entry 102): VREF, I_FS or VREF / 25, the
unit of each path's code; a force code counts VREF / 131,072 (03 R54), a conversion VREF / 524,288, I_FS / 524,288 and VREF / 25
/ 524,288 (04 R81, R100). -/
def fpFullScale (k : Nat) : Nat := if k = 0 then 131072 else 524288

/-- Whether the derived coefficients of a hold are in range: every gain within 1 % of nominal, every offset within 0.5 % of the
path's full scale (R302; 04 R114). -/
def fpInRange (pts : List (BitVec 20)) : Bool :=
  (List.range 8).all fun k =>
    decide (100 * (Config.fpCoef pts (2 * k)).toInt.natAbs ≤ 2 ^ 26) &&
      decide (200 * (Config.fpCoef pts (2 * k + 1)).toInt.natAbs ≤ 16 * fpFullScale k)

/-- FP_COMMIT: a completed hold is committed, or ends with RANGE (R302). -/
def State.fpCommit (s : State) (g : GroupIx) : State :=
  match (s.grp g).holdRes with
  | none => s
  | some (l, pts) =>
    if fpInRange pts then s.fpStage g l pts
    else
      let s := s.modG g fun gr => { gr with holdEnd := some 1, holdRes := none }
      s.raise (srcGRP g) kFP_RANGE (chanNo g l)

/-- Vendor routine FP_COMMIT. -/
def execFpCommit (g : GroupIx) (s : State) : Host.Outcome State Fault Refusal :=
  .next (s.vendorRun g 1 cCAL (s.grp g).holdRes.isSome fun s => s.fpCommit g)

/-- Root count of a lane's last completed hold: now, for one that FP_COMMIT has committed (R300, R302). -/
def State.fpLast (s : State) (g : GroupIx) (l : LaneIx) : Option Nat :=
  let gr := s.grp g
  if lane gr.hold l && gr.holdEnd == some 0 then some s.rootNow else gr.fpAt[l]

/-- Whether a lane's last hold is old enough, or it is due (R300); one ms is 3,200,000 root counts. -/
def State.fpDueLane (s : State) (g : GroupIx) (l : LaneIx) : Bool :=
  let gr := s.grp g
  (lane gr.fpDue l && !(lane gr.hold l && gr.holdEnd == some 0)) ||
    match s.fpLast g l with
    | none => true
    | some t => decide ((s.reg (adr pCAL 0x11)).toNat * 3200000 ≤ s.rootNow - t)

/-- Whether a lane's stage allows a hold, with the current its monitor shows at the selection (R300). -/
def State.fpStageFree (s : State) (g : GroupIx) (l : LaneIx) (n : Nat) : Bool :=
  let fe := (s.chan g l).fe
  fe.stage.st == .hiz || fe.relay.st == .opened || (fe.stage.st == .fv && Config.currentSmall (chanNo g l) n)

/-- First eligible lane after that of the last hold (R300). -/
def State.fpPick (s : State) (g : GroupIx) (n : Nat) : Option LaneIx :=
  let gr := s.grp g
  let order := (below 16).map fun i => laneOf (gr.lastFp.val + 1 + i.val)
  order.find? fun l => s.fpDueLane g l && !bit (s.reg (adr (pGRP g) 0x3E)) l.val && !s.ganged g l &&
    s.fpQuadFree g l && s.fpStageFree g l n

/-- Vendor routine FP_REQ: selects the next lane and requests a hold; none in MIRROR (R299, R300). -/
def execFpReq (g : GroupIx) (s : State) : Host.Outcome State Fault Refusal :=
  let (n, s) := s.draw
  let gr := s.grp g
  let can := s.regB (adr pCAL 0x10) 0 && s.mode == .run && gr.holdReq.isNone && (gr.hold == 0 || gr.holdEnd.isSome)
  let pick := if can then s.fpPick g n else none
  .next (s.vendorRun g 2 cCAL pick.isSome fun s => s.modG g fun gr => { gr with holdReq := pick })

/-- Vendor routine TB_MATCH. -/
def execTbMatch (g : GroupIx) (s : State) : Host.Outcome State Fault Refusal :=
  let tb := (s.grp g).tb
  .next (s.vendorRun g 3 cCAL (tb.st == .match) fun s => s.tbMatch g)

/-! ## Threshold readback (R303, 03 R74) -/

/-- Comparator number 2l or 2l + 1 of a lane: high, low. -/
def State.thrOf (s : State) (g : GroupIx) (n : Nat) : LaneIx × Comparator :=
  let l := laneOf (n / 2)
  (l, (s.chan g l).fe.cmp (n % 2 == 1))

/-- Next comparator to read back: not OFF, not on a held lane. -/
def State.thrPick (s : State) (g : GroupIx) : Option Nat :=
  ((List.range 32).map fun i => ((s.grp g).thrNext + i) % 32).find? fun n =>
    let (l, c) := s.thrOf g n
    c.acting != 0 && !lane (s.grp g).hold l

/-- Whether a readback (an ADC code) differs from a threshold code by more than 0.02 % of reading and 1 mV: with a code
of 9.5367 µV and the reading's zero at 262,144, in units of 1/10,000 code (R74, 04 R81). -/
def thrMismatch (reading : BitVec 20) (thr : BitVec 16) : Bool :=
  let a : Int := (reading.toNat : Nat)
  let h : Int := (thr.toNat : Nat)
  decide (2 * (a - 262144).natAbs + 1048576 < 10000 * (a - 16 * h).natAbs)

/-- One readback is judged (R303). -/
def State.thrJudge (s : State) (g : GroupIx) (n : Nat) (reading : BitVec 20) : State :=
  let (l, c) := s.thrOf g n
  let s := (s.modG g fun gr => { gr with thrNext := (n + 1) % 32 }).bump (adr pCAL 0x16)
  if thrMismatch reading c.thr then (s.event pCAL 4).raise (srcGRP g) kTHR_MISMATCH (chanNo g l) else s

/-- Vendor routine THR_CHECK: its conversion takes one slot, or two from power-down (03 R73). -/
def execThrCheck (g : GroupIx) (reading : BitVec 20) (s : State) : Host.Outcome State Fault Refusal :=
  let pick := s.thrPick g
  .next (s.vendorRun g 4 cCAL pick.isSome fun s =>
    match pick with
    | some n => (s.pay (some g) 1 cCAL ((s.grp g).slice (s.thrOf g n).1).pairSlots).thrJudge g n reading
    | none => s)

/-! ## Relay wear (R305 to R307) -/

/-- Count at which a beam is retired (R306). -/
def retireCount : Nat := 900000000

/-- A word of the WEAR region written to both copies by the unit. -/
def State.nvmWear (s : State) (k : Nat) (v : Word) : State :=
  { s with nvm := { s.nvm with a := tset 0 s.nvm.a k v, b := tset 0 s.nvm.b k v } }

/-- A flush leaves each copy of the WEAR region with the CRC of what it now holds (14 R343). -/
def State.sealWear (s : State) : State :=
  { s with nvm := { s.nvm with
    crcA := tset (crcBlank 7) s.nvm.crcA 7 (regionCrc s.nvm.a 7)
    crcB := tset (crcBlank 7) s.nvm.crcB 7 (regionCrc s.nvm.b 7) } }

/-- A beam whose count n at the flush has reached the limit is retired (R306). -/
def State.retireBeam (s : State) (c : Nat) (beamB : Bool) (n : Nat) : State :=
  let (ra, rb) := s.retired c
  if n < retireCount ∨ (if beamB then rb else ra) = true then s
  else
    let s := s.modFe (groupOf c) (laneOf c) fun fe => { fe with
      relay := { fe.relay with retA := ra || !beamB, retB := rb || beamB } }
    let s := s.nvmWear (0x2000 + 4 * c + 2) (tget 0 s.nvm.a (0x2000 + 4 * c + 2) ||| (1#32 <<< b2n beamB))
    let s := ((s.bump (adr pWEAR 0x0E)).event pWEAR 0).raise srcWEAR kRELAY_RETIRE c
    if (if beamB then ra else rb) then (s.raise srcWEAR kRELAY_EXHAUSTED c).event pWEAR 1 else s

/-- A lane's pending counts go to MRAM (R305). -/
def State.flushLane (s : State) (g : GroupIx) (l : LaneIx) : State :=
  let c := chanNo g l
  let k := 0x2000 + 4 * c
  let r := (s.chan g l).fe.relay
  let a := (tget 0 s.nvm.a k).toNat + r.pendA.toNat
  let b := (tget 0 s.nvm.a (k + 1)).toNat + r.pendB.toNat
  let s := (s.nvmWear k (BitVec.ofNat 32 a)).nvmWear (k + 1) (BitVec.ofNat 32 b)
  let s := s.modFe g l fun fe => { fe with relay := { fe.relay with pendA := 0, pendB := 0 } }
  (s.retireBeam c false a).retireBeam c true b

/-- Whether a lane has counts to flush. -/
def State.wearPending (s : State) (g : GroupIx) (l : LaneIx) : Bool :=
  let r := (s.chan g l).fe.relay
  r.pendA != 0 || r.pendB != 0

/-- Next lane with pending counts, ascending. -/
def State.wearPick (s : State) (g : GroupIx) : Option LaneIx :=
  ((below 16).map fun i => laneOf ((s.grp g).wearNext.val + i.val)).find? fun l => s.wearPending g l

/-- Vendor routine WEAR_FLUSH. -/
def execWearFlush (g : GroupIx) (s : State) : Host.Outcome State Fault Refusal :=
  let pick := s.wearPick g
  .next (s.vendorRun g 5 cWEAR pick.isSome fun s =>
    match pick with
    | some l => (s.flushLane g l).sealWear.modG g fun gr => { gr with wearNext := nextLane l }
    | none => s)

/-- On entry to CONFIGURE or SAFE every pending count goes to MRAM; after a loss of both clocks once a source is
ready (R307). -/
def execWearMcFlush (s : State) : Host.Outcome State Fault Refusal := .next <|
  if (s.mode = .configure ∨ s.mode = .safe) ∧ s.modes.flush = true ∧ s.clk.gated = false then
    let one (s : State) (g : GroupIx) : State := (below 16).foldl (fun s l =>
      if s.wearPending g l then s.flushLane g l else s) s
    let s := (s.eachG one).sealWear
    { s with modes := { s.modes with flush := false } }
  else s

/-! ## Telemetry (R308, R309) -/

/-- Groups enabled for CHANNEL records (R315). -/
def State.telGroups (s : State) : List GroupIx :=
  (below 64).filter fun g => s.regB (adr pTEL (0x0A + g.val / 32)) (g.val % 32)

/-- Records of a cycle, in order of kind and group: kind and group (R308). -/
def State.telRecords (s : State) : List (Nat × Nat) :=
  let on (k : Nat) : Bool := bit s.tel.ctrl k
  [1, 2].filterMap (fun k => if on k then some (k, 0) else none) ++
    (if on 3 then s.telGroups.map fun g => (3, g.val) else []) ++
    [4, 5].filterMap fun k => if on k then some (k, 0) else none

/-- A telemetry cycle starts at its tick, or is skipped (R308); in ENUMERATE ticks occur while FRAME_NUM holds (02 R21). -/
def execTelCycle (s : State) : Host.Outcome State Fault Refusal := .next <|
  let period := max s.tel.period.toNat 1
  if bit s.tel.ctrl 0 = true ∧ s.rootRuns = true ∧ s.mode ≠ .reset ∧ s.esc.frame.toNat % period = 0 ∧
      s.tel.last ≠ some s.esc.tickRoot.toNat then
    let s := s.bump (adr pTEL 0x0C)
    let s := { s with tel := { s.tel with last := some s.esc.tickRoot.toNat } }
    if s.tel.pend.isEmpty then
      let n := s.reg (adr pTEL 0x0C)
      let r := s.telRecords
      let s := s.allG fun gr => { gr with telBuf := [] }
      { s with tel := { s.tel with pend := r, cycle := n, pos := s.esc.pos } }
    else (s.bump (adr pTEL 0x0D)).event pTEL 0
  else s

/-- Counts a CHANNEL record shows the changes of: ADC_OVR, trips and closes of each lane, URG_DROP, FORCE_IGN. -/
def State.telCounts (s : State) (g : GroupIx) : List Word :=
  let p := pGRP g
  [s.reg (adr p 0x21)] ++ (below 16).map (fun l => (s.chan g l).fe.trips) ++
    (below 16).map (fun l => (s.chan g l).fe.closes) ++ [s.reg (adr p 0x20), s.reg (adr p 0x1D)]

/-- Vendor routine TEL_GATHER. -/
def execTelGather (g : GroupIx) (s : State) : Host.Outcome State Fault Refusal :=
  .next (s.vendorRun g 6 cTEL (s.tel.pend.contains (3, g.val) && (s.grp g).telBuf.isEmpty) fun s =>
    let c := s.telCounts g
    s.modG g fun gr => { gr with telBuf := c })

/-- Changes of counts since the previous record of a kind and group, and the state that remembers them. -/
def State.telChange (s : State) (kind g : Nat) (now : List Word) : List Word × State :=
  let key (i : Nat) : Nat := 65536 * kind + 64 * g + i
  let d := now.zipIdx.map fun p => p.1 - tget 0 s.tel.prev (key p.2)
  let t := now.zipIdx.foldl (fun t p => tset 0 t (key p.2) p.1) s.tel.prev
  (d, { s with tel := { s.tel with prev := t } })

/-- Trips and closes of two lanes, saturating at 255 (R309). -/
def telLanes (d : List Word) (i : Nat) : Word :=
  let c (k : Nat) : Nat := min ((d.getD k 0).toNat) 255
  BitVec.ofNat 32 (c (1 + 2 * i) + c (17 + 2 * i) <<< 8 + c (2 + 2 * i) <<< 16 + c (18 + 2 * i) <<< 24)

/-- Payload word 3 and words 6 to 15 of a record (R309). -/
def State.telPayload (s : State) (kind g : Nat) : Word × List Word × State :=
  match kind with
  | 1 =>
    let t (i : Fin 5) : Nat := s.thm.sensors[i].value.toNat
    (0, [BitVec.ofNat 32 (t 0 + t 1 <<< 16), BitVec.ofNat 32 (t 2 + t 3 <<< 16),
      BitVec.ofNat 32 (t 4 + s.throttle <<< 16 + b2n s.thm.req <<< 19)], s)
  | 2 =>
    let (n, s) := s.draw
    (0, (List.range 6).map fun i => Config.supplyWord i n, s)
  | 3 =>
    let (d, s) := s.telChange 3 g (s.grp (groupOf (16 * g))).telBuf
    (d.getD 0 0, (List.range 8).map (telLanes d) ++ [d.getD 33 0, d.getD 34 0], s)
  | 4 =>
    let (d, s) := s.telChange 4 0 [s.reg (adr pKL 0x0E), s.reg (adr pKL 0x10), s.reg (adr pPAIR 0x13),
      s.reg (adr pMSP 0x0F), s.reg (adr pMSP 0x10)]
    (0, d, s)
  | _ =>
    let (d, s) := s.telChange 5 0 ((List.range 8).map fun c => s.reg (adr pFUS (0x30 + c)))
    (BitVec.ofNat 32 s.throttle, d, s)

/-- A telemetry entry of two slots enters its unit event queue, or is dropped as any entry is (R309, 11 R282, R285). -/
def State.enterTel (s : State) (kind g : Nat) : State :=
  let sel := selUnit (fld s.tel.ctrl 8 3)
  let d := s.desc sel
  if d.failed then s.bump (adr pRING 0x10)
  else if d.bad then (s.failQueue sel).bump (adr pRING 0x10)
  else if d.size = 0 then (s.bump (adr pRING 0x0F)).event pRING 2
  else if d.fill + 2 ≤ d.cap then
    let (w3, tail, s) := s.telPayload kind g
    let chan := if kind = 3 then 16 * g else 0
    let ws := headerWords s.esc.frame chan (sel - 0x40000) 0 { event := true, gap := d.pend != 0, size64 := true } ++
      [BitVec.ofNat 32 (kind + g <<< 8 + (s.tel.cycle.toNat % 65536) <<< 16), w3, s.tel.pos.setWidth 32, d.pend.setWidth 32] ++ tail
    let ws := (ws ++ List.replicate 16 0).take 16
    let s := (s.clearPend sel).putEntry sel ws s.esc.frame true
    if crossed d d.fill (d.fill + 2) then s.event pRING 1 else s
  else s.dropEntry sel

/-- The first record of the cycle that can be written: a CHANNEL record waits for its group's counts. -/
def State.telNext (s : State) : Option (Nat × Nat) :=
  s.tel.pend.find? fun r => r.1 != 3 || !(s.grp (groupOf (16 * r.2))).telBuf.isEmpty

/-- One telemetry record is written, for 66 bytes of the TEL Kwenlink budget (R308). -/
def execTelRecordWrite (s : State) : Host.Outcome State Fault Refusal := .next <|
  match s.telNext with
  | none => s
  | some r =>
    let (ok, s) := s.charge none 3 cTEL 66
    if ok then
      let s := s.enterTel r.1 r.2
      let s := { s with tel := { s.tel with pend := s.tel.pend.filter fun x => x != r } }
      if r.1 = 3 then s.modG (groupOf (16 * r.2)) fun gr => { gr with telBuf := [] } else s
    else s

end Sys2Proof.Machine
end

