-- ==== Sys2Proof/Machine/Thermal.lean ====
section
/-! DEFINITION. Sensors and thermal management (18 R444 to R452). -/

namespace Sys2Proof.Machine

open Sys2Proof

/-- Effective value of a sensor (R445). -/
def Sensor.temp (t : Sensor) : Int := t.value.toInt

/-- The hottest sensor: the greatest effective value, ties to the lower number (R445). -/
def Thermal.hottest (t : Thermal) : Fin 5 :=
  (below 5).foldl (fun b i => if (t.sensors[b]).temp < (t.sensors[i]).temp then i else b) 0

/-- Temperature of the hottest sensor. -/
def Thermal.top (t : Thermal) : Int := (t.sensors[t.hottest]).temp

/-- Whether every sensor has failed (R451). -/
def Thermal.allFailed (t : Thermal) : Bool := t.sensors.toList.all fun x => x.failed

/-- The thermal block changed. -/
def State.modT (s : State) (f : Thermal → Thermal) : State := { s with thm := f s.thm }

/-- ENFORCED set or cleared at root count `now`: the time of a spell that ends is kept (R448, R454). -/
def Thermal.enforce (now : Nat) (b : Bool) (t : Thermal) : Thermal :=
  if t.enforced = b then t
  else if b then { t with enforced := true, enfFrom := now }
  else { t with enforced := false, enfRoot := t.enfRoot + (now - t.enfFrom) }

/-- Whether a sensor is read every 50 µs: its last value lies within 10 °C of a limit, or it has failed (R444). -/
def State.sensorFast (s : State) (i : Fin 5) : Bool :=
  let x := s.thm.sensors[i]
  (x.seen && (below 5).any fun k => decide ((x.temp - s.thmLimit k.val).natAbs ≤ 1000)) || x.failed

/-- Time of the thermal block while the root is lost: it runs on the RCO time base then (13 R323, R444). DESIGN CHOICE (log entry
56): no command tells that time; each reading of sensor 0 stands for its interval, 50 µs or 1 ms, in root cycles. -/
def State.rcoTime (s : State) (i : Fin 5) : State :=
  if !s.rootRuns && s.thm.enforced && i == 0 then
    let n := if s.sensorFast i then 160000 else 3200000
    s.modT fun t => { t with enfRoot := t.enfRoot + n }
  else s

/-- ENF_MS: whole milliseconds, of 3,200,000 root cycles, with ENFORCED set (R454). -/
def State.enfMs (s : State) : Word :=
  let t := s.thm
  BitVec.ofNat 32 ((t.enfRoot + (if t.enforced then s.rootNow - t.enfFrom else 0)) / 3200000)

/-- A sensor changed. -/
def State.modSensor (s : State) (i : Fin 5) (f : Sensor → Sensor) : State :=
  s.modT fun t => { t with sensors := vmod t.sensors i f }

/-- Whether a reading lies outside −55 °C to 150 °C (R445). -/
def outOfRange (x : Int) : Bool := decide (x < -5500) || decide (15000 < x)

/-- A sensor fails: its value freezes at the last good reading; the hottest one under a throttle request freezes no
lower than THROT and locks the step at 7 (R445, R450). SAFE by R451 comes with the message at the collector (R437). -/
def State.sensorFail (s : State) (i : Fin 5) (v : BitVec 16) : State :=
  let lock := s.thm.hottest == i && s.thm.req
  let throt := s.thmLimit 1
  let s := s.modSensor i fun x =>
    let frozen := if lock && decide (x.lastGood.toInt < throt) then BitVec.ofInt 16 throt else x.lastGood
    { x with failed := true, good := 0, prev := v, value := frozen }
  let s := ((s.bump (adr pTHM 0x1A)).event pTHM 6).raise srcTHM kSENSOR_FAIL i.val
  if lock then
    s.modT fun t => Thermal.enforce s.rootNow true { t with
      step := 7, grace := false, maxlock := if t.maxlock.contains i then t.maxlock else i :: t.maxlock }
  else s

/-- A reading of a live sensor (R445). -/
def State.liveReading (s : State) (i : Fin 5) (v : BitVec 16) (selfOk : Bool) : State :=
  let x := s.thm.sensors[i]
  if selfOk = false ∨ outOfRange v.toInt = true ∨ (x.seen = true ∧ 2000 < (v.toInt - x.lastGood.toInt).natAbs) then
    s.sensorFail i v
  else s.modSensor i fun x => { x with value := v, lastGood := v, prev := v, seen := true }

/-- A reading of a failed sensor: sixteen good ones in a row make it live again (R445, R450). -/
def State.failedReading (s : State) (i : Fin 5) (v : BitVec 16) (selfOk : Bool) : State :=
  let x := s.thm.sensors[i]
  let ok := selfOk && !outOfRange v.toInt && decide ((v.toInt - x.prev.toInt).natAbs ≤ 2000)
  if ok ∧ 16 ≤ x.good + 1 then
    let s := s.modSensor i fun x =>
      { x with failed := false, good := 0, value := v, lastGood := v, prev := v, seen := true }
    let s := s.modT fun t => { t with maxlock := t.maxlock.filter (· != i) }
    s.event pTHM 7
  else s.modSensor i fun x => { x with good := if ok then x.good + 1 else 0, prev := v }

/-- WARN, once for each crossing by the hottest sensor (R447). -/
def State.checkWarn (s : State) : State :=
  let t := s.thm
  if t.warnIn = false ∧ s.thmLimit 0 ≤ t.top then
    ((s.modT fun t => { t with warnIn := true }).event pTHM 0).raise srcTHM kTHM_WARN t.hottest.val
  else if t.top < s.thmLimit 0 - s.thmLimit 5 then s.modT fun t => { t with warnIn := false }
  else s

/-- The grace ends with REQ set: step 1, ENFORCED (R448). -/
def State.graceEnd (s : State) : State :=
  if s.thm.req ∧ s.thm.grace ∧ s.thm.maxlock.isEmpty then
    (s.modT fun t => Thermal.enforce s.rootNow true { t with grace := false, step := 1 }).event pTHM 2
  else s

/-- THROT: REQ and the grace timer; REQ clears before the grace ends where the hottest falls below THROT − H (R448). -/
def State.checkThrot (s : State) : State :=
  let t := s.thm
  if t.req = false ∧ s.thmLimit 1 ≤ t.top then
    let s := ((s.modT fun t => { t with req := true, grace := true }).event pTHM 1).raise srcTHM kTHM_THROTTLE t.hottest.val
    if s.regF (adr pTHM 0x16) 0 16 = 0 then s.graceEnd else s
  else if t.req ∧ t.enforced = false ∧ t.top < s.thmLimit 1 - s.thmLimit 5 then
    s.modT fun t => { t with req := false, grace := false }
  else s

/-- CRIT on one sensor: the fault, on whose message the unit enters SAFE with cause THERMAL (R437, R449). -/
def State.checkCrit (s : State) (i : Fin 5) : State :=
  let x := s.thm.sensors[i]
  if x.critIn = false ∧ s.thmLimit 2 ≤ x.temp then
    let s := s.modSensor i fun x => { x with critIn := true }
    (s.event pTHM 3).raise srcTHM kTHM_CRITICAL i.val
  else if x.temp < s.thmLimit 2 - s.thmLimit 5 then s.modSensor i fun x => { x with critIn := false }
  else s

/-- MIN on one sensor (R452). -/
def State.checkLow (s : State) (i : Fin 5) : State :=
  let x := s.thm.sensors[i]
  if x.lowIn = false ∧ x.temp < s.thmLimit 4 then
    ((s.modSensor i fun x => { x with lowIn := true }).event pTHM 5).raise srcTHM kTHM_LOW i.val
  else if s.thmLimit 4 + s.thmLimit 5 < x.temp then s.modSensor i fun x => { x with lowIn := false }
  else s

/-- FLOOR over all sensors (R452). -/
def State.checkCold (s : State) : State :=
  let lowest := s.thm.sensors.toList.foldl (fun m x => if x.temp < m then x.temp else m) s.thm.top
  if s.thm.coldIn = false ∧ lowest < s.thmLimit 3 then (s.modT fun t => { t with coldIn := true }).event pTHM 4
  else if s.thmLimit 3 + s.thmLimit 5 < lowest then s.modT fun t => { t with coldIn := false }
  else s

/-- Every limit rule, by effective values (R446 to R452). -/
def State.checkLimits (s : State) : State :=
  let s := s.checkWarn.checkThrot
  let s := (below 5).foldl State.checkCrit s
  ((below 5).foldl State.checkLow s).checkCold

/-- A reading of a sensor: counted, judged, then every limit rule with the limits as they now stand (R444 to R446). -/
def State.reading (s : State) (i : Fin 5) (v : BitVec 16) (selfOk : Bool) : State :=
  let s := ((s.rcoTime i).bump (adr pTHM 0x19)).modT fun t => { t with limWas := [] }
  let s := if s.thm.sensors[i].failed then s.failedReading i v selfOk else s.liveReading i v selfOk
  s.checkLimits

/-- A reading of a sensor; none is taken while no clock runs (13 R325). -/
def execSensorReading (i : Fin 5) (v : BitVec 16) (selfOk : Bool) (s : State) : Host.Outcome State Fault Refusal :=
  .next (if s.clk.gated then s else s.reading i v selfOk)

/-- The throttle grace expires (R448); its timer stands while no clock runs (13 R325). -/
def execGraceEnd (s : State) : Host.Outcome State Fault Refusal := .next (if s.clk.gated then s else s.graceEnd)

/-- The step timer (R448): the step follows the hottest sensor; at 0 below THROT − H the request ends. -/
def State.stepInt (s : State) : State :=
  let t := s.thm
  if t.enforced = false ∨ t.maxlock.isEmpty = false then s
  else if s.thmLimit 1 ≤ t.top then s.modT fun t => { t with step := if t.step = 7 then 7 else t.step + 1 }
  else if t.top < s.thmLimit 1 - s.thmLimit 5 then
    s.modT fun t =>
      let k := if t.step = 0 then 0 else t.step - 1
      Thermal.enforce s.rootNow (k != 0) { t with step := k, req := k != 0 }
  else s

/-- The step timer expires; it stands while no clock runs (13 R325). -/
def execStepIntTimer (s : State) : Host.Outcome State Fault Refusal := .next (if s.clk.gated then s else s.stepInt)

/-- Whether the limits and the hysteresis stand in the order of R446. -/
def State.limitsOrdered (s : State) : Bool :=
  let l := s.thmReg
  decide (l 4 ≤ l 3) && decide (l 3 ≤ l 0) && decide (l 0 ≤ l 1) && decide (l 1 < l 2) && decide (l 2 ≤ 11500) &&
    decide (0 ≤ l 5) && decide (l 5 ≤ 1000)

/-- The limit that a write replaces stays in force until the next reading (R446). -/
def Thermal.keepLimit (t : Thermal) (o : Nat) (old : Word) : Thermal :=
  if (t.limWas.lookup o).isSome then t else { t with limWas := (o, old) :: t.limWas }

/-- A write of a limit or of HYST (R446). -/
def State.thmLimitWrite (s : State) (o : Fin 6) (v : Word) : State :=
  let a := adr pTHM (0x10 + o.val)
  let t := s.setReg a (v &&& 0xFFFF)
  if t.limitsOrdered then t.modT fun x => x.keepLimit o.val (s.reg a) else s.refuse pTHM

/-- A write of a thermal limit. -/
def execThmLimitWrite (off : Fin 6) (v : Word) (s : State) : Host.Outcome State Fault Refusal :=
  .next (s.thmLimitWrite off v)

/-- Read-only view of `THM.TEMPi` (R454). Before a first reading there is no value, and no hottest sensor. -/
def State.tempView (s : State) (i : Fin 5) : Word :=
  let x := s.thm.sensors[i]
  let read := s.thm.sensors.toList.any fun x => x.seen || x.failed
  BitVec.ofNat 32 (x.value.toNat + b2n x.failed <<< 16 + b2n (s.sensorFast i) <<< 17 + b2n (read && s.thm.hottest == i) <<< 18)

/-- Read-only view of `THM.THROT_REQ`. -/
def State.throtView (s : State) : Word :=
  let t := s.thm
  BitVec.ofNat 32 (b2n t.req + b2n t.enforced <<< 1 + b2n (!t.maxlock.isEmpty) <<< 2 + t.step.toNat <<< 4)

end Sys2Proof.Machine
end

