-- ==== Sys2Proof/Machine/Clocks.lean ====
section
/-! DEFINITION. Clocks and synchronisation (13): ready flags, the root, the multiplexers, the monitor, the
regulator, SYNC steering and TICK marks. -/

namespace Sys2Proof.Machine

open Sys2Proof

/-! ## Ready flags and the root (R316 to R319) -/

/-- Whether the reference CLK.SRC.REF_SEL names is ready. -/
def State.selReady (s : State) : Bool := if s.regB (adr pCLK 0x08) 0 then s.clk.xo else s.clk.ref

/-- Whether the reference REF_SEL does not name is ready. -/
def State.otherReady (s : State) : Bool := if s.regB (adr pCLK 0x08) 0 then s.clk.ref else s.clk.xo

/-- REF_SEL set. -/
def State.setRefSel (s : State) (xo : Bool) : State :=
  s.setReg (adr pCLK 0x08) (putFld (s.reg (adr pCLK 0x08)) 0 1 (b2n xo))

/-- The RCO restarts: RCO_RDY clears for 20 µs (R328). -/
def State.rcoRestart (s : State) : State :=
  ({ s with clk := { s.clk with rco := false } }).event pCLK 6

/-- Whether every supply is in range (R317, 14 R340). -/
def State.suppliesIn (s : State) : Bool := s.boot.supplies.toList.all id

/-- RCO_RDY sets: the RCO starts when the supplies become valid (R316, R317). -/
def execRcoReady (s : State) : Host.Outcome State Fault Refusal :=
  .next (if s.suppliesIn then { s with clk := { s.clk with rco := true } } else s)

/-- XO_RDY sets: the XO starts at the release of RST_n (R316, R317). In BOOT past the 2 ms window the XO is then selected
(R319). -/
def execXoReady (s : State) : Host.Outcome State Fault Refusal := .next <|
  if s.clk.rco && s.boot.rstRel then
    let s := { s with clk := { s.clk with xo := true } }
    if s.mode = .boot ∧ s.boot.refWait = true ∧ s.clk.lock = false then s.setRefSel true else s
  else s

/-- REF_RDY sets (R316). -/
def execRefReady (s : State) : Host.Outcome State Fault Refusal :=
  .next (if s.clk.rco then { s with clk := { s.clk with ref := true } } else s)

/-- The 2 ms window of BOOT ends without REF_RDY: the XO is selected as soon as it is ready (R319). -/
def execBootRefWindow (s : State) : Host.Outcome State Fault Refusal := .next <|
  if s.mode = .boot ∧ s.clk.ref = false ∧ s.clk.lock = false then
    let s := { s with boot := { s.boot with refWait := true } }
    if s.clk.xo then s.setRefSel true else s
  else s

/-- 20 ms after RCO_RDY neither reference is ready (R319). -/
def execNoReference (s : State) : Host.Outcome State Fault Refusal := .next <|
  if s.mode = .boot ∧ s.clk.ref = false ∧ s.clk.xo = false ∧ s.clk.lock = false then s.raise srcCLK kNO_REFERENCE 0 else s

/-- Whether a ready reference is selected: in BOOT past its window REFCLK is not (R319). -/
def State.refSelected (s : State) : Bool :=
  s.selReady && (s.mode != .boot || !s.boot.refWait || s.regB (adr pCLK 0x08) 0)

/-- ROOT_LOCK sets (R316). -/
def execRootLock (s : State) : Host.Outcome State Fault Refusal := .next <|
  if s.refSelected = true ∧ s.clk.lock = false ∧ s.mode ≠ .reset then
    let was := s.clk.lost
    let s := { s with clk := { s.clk with lock := true, trip := false, lost := false } }
    if was then s.event pCLK 7 else s
  else s

/-- The root is lost: ROOT_LOCK clears, and the monitor is to trip (R316, R318). -/
def State.loseRoot (s : State) : State :=
  { s with clk := { s.clk with trip := s.clk.trip || s.clk.lock, lost := s.clk.lost || s.clk.lock, lock := false, holdover := false } }

/-- A reference loses its ready flag: holdover, or the root goes with it, or its own fault (R318, R327). DEDUCED (log entry
112): the selected reference is in use while the root is locked or the PLL can move; a loss that takes neither raises its own
fault. -/
def State.loseReference (s : State) (xo : Bool) : State :=
  let sel := s.regB (adr pCLK 0x08) 0 == xo
  if sel = true ∧ s.regB (adr pCLK 0x08) 1 = true ∧ s.otherReady = true then { s with clk := { s.clk with holdover := true } }
  else if (sel || s.clk.holdover) && s.clk.lock then s.loseRoot
  else ({ s with clk := { s.clk with holdover := false } }).raise srcCLK (if xo then kXO_LOSS else kREF_LOSS) 0

/-- Outputs go safe at a loss of the clock, by asynchronous logic (R324, R325): channels, waveform DACs, TRIG lines,
OWN_OUT, and FAULT_n low until a pulse has run on the new clock; SYNC_OUT is low while there is no root (`State.syncOut`). -/
def State.clockSafe (s : State) : State :=
  let s := { s with pair := { s.pair with ownOut := false } }
  let s := if s.mode = .reset then s else s.actAll .safeState
  let s := if s.mode = .reset then s else s.eachG State.wavFault
  { s with lines := vmap (fun l => { l with low := false }) s.lines, flt := { s.flt with pulse := true } }

/-- A ready flag clears (R316). The RCO under the domains, or their only source left, takes the clock with it (R325);
otherwise it restarts (R327). -/
def execReadyLoss (src : ClockSource) (s : State) : Host.Outcome State Fault Refusal := .next <|
  match src with
  | .rco =>
    if s.clk.rco then
      if s.clk.domRco || s.clk.target == some true then
        let s := { s with clk := { s.clk with rco := false } }
        { s.clockSafe with clk := { s.clk with gated := true, target := none } }
      else (s.raise srcCLK kRCO_LOSS 0).rcoRestart
    else s
  | .xo => if s.clk.xo then
      ((({ s with clk := { s.clk with xo := false } }).event pCLK 5).loseReference true) else s
  | .ref => if s.clk.ref then ({ s with clk := { s.clk with ref := false } }).loseReference false else s
  | .root => s.loseRoot

/-- The PLL has moved to the other reference under AUTO_REF (R318). -/
def execRefHoldoverMove (s : State) : Host.Outcome State Fault Refusal := .next <|
  if s.clk.holdover = true ∧ s.otherReady = true then
    let s := s.setRefSel (!s.regB (adr pCLK 0x08) 0)
    let s := { s with clk := { s.clk with holdover := false } }
    (s.event pCLK 2).raise srcCLK kREF_SWITCH 0
  else s

/-! ## The clock monitor and the multiplexers (R321 to R326) -/

/-- The monitor trips on a loss of the root (R324); with RCO_RDY clear nothing but the outputs acts (R325). -/
def execClockMonitorTrip (s : State) : Host.Outcome State Fault Refusal := .next <|
  if s.clk.trip ∨ s.clk.lock then
    let s := s.loseRoot
    let s := { s with clk := { s.clk with trip := false } }
    if s.mode = .reset then s
    else
      let s := s.clockSafe
      if s.clk.rco then
        let s := { s with clk := { s.clk with target := if s.clk.domRco then none else some true } }
        let s := (s.bump (adr pCLK 0x10)).event pCLK 3
        (s.raiseActed srcCLK kROOT_LOSS 0).enterSafe causeROOT
      else { s with clk := { s.clk with gated := true, target := none } }
  else s

/-- The domains start on a source that reports ready, the RCO first where it is ready too; the switches count (R321, R325). -/
def State.ungate (s : State) (root : Bool) : State :=
  let onRoot := root && !s.clk.rco
  let moved := s.clk.domRco == onRoot
  let s := { s with clk := { s.clk with
    gated := false
    domRco := !onRoot
    rco := s.clk.rco || !root
    lock := s.clk.lock || root } }
  let s := if root ∧ s.clk.lost then ({ s with clk := { s.clk with lost := false, trip := false } }).event pCLK 7 else s
  if moved then s.bump (adr pCLK 0x0E) else s

/-- After a loss of both clocks a source reports ready: the domains start on it, one fault is recorded, and the unit
is in SAFE (R325); in RESET only the domains start. -/
def execClockReturn (root : Bool) (s : State) : Host.Outcome State Fault Refusal := .next <|
  if s.clk.gated = false then s
  else if s.mode = .reset then s.ungate root
  else
    let s := ((s.ungate root).bump (adr pCLK 0x10)).event pCLK 4
    (s.raiseActed srcCLK kDUAL_CLOCK_LOSS 0).enterSafe causeDUAL

/-- The three multiplexers reach their new source; no domain moves to a source whose flag is clear (R320, R321). -/
def State.domSwitch (s : State) : State :=
  match s.clk.target with
  | none => s
  | some toRco =>
    let ready := if toRco then s.clk.rco else s.clk.lock
    let s := { s with clk := { s.clk with target := none } }
    if ready then ({ s with clk := { s.clk with domRco := toRco } }).bump (adr pCLK 0x0E)
    else s.event pCLK 1

/-- A normal switch completes (R321). -/
def execDomainSwitchDone (s : State) : Host.Outcome State Fault Refusal := .next s.domSwitch

/-- No edge of the old source came within 64 periods of the new one (R322). -/
def execForcedSwitch (s : State) : Host.Outcome State Fault Refusal := .next <|
  let t := s.domSwitch
  if t.clk.domRco = s.clk.domRco then t else (t.bump (adr pCLK 0x0F)).event pCLK 0

/-! ## CLK.SRC (R320) -/

/-- A write of CLK.SRC. A REF_SEL that changes nothing is no move; a refused field keeps its value. -/
def State.clkSrcWrite (s : State) (v : Word) : State :=
  let a := adr pCLK 0x08
  let old := s.reg a
  let s := s.setReg a (putFld old 1 1 (fld v 1 1))
  let toXo := bit v 0
  let refuse (s : State) : State := (s.refuse pCLK).event pCLK 1
  let s :=
    if toXo = bit old 0 then s
    else if (s.mode = .configure ∨ s.mode = .safe) ∧ (if toXo then s.clk.xo else s.clk.ref) = true then
      { s.setRefSel toXo with clk := { s.clk with holdover := false } }
    else refuse s
  let r := fld v 8 2
  if r = fld old 8 2 then s
  else if (r = 0 ∧ s.clk.ref = false) ∨ (r = 1 ∧ s.clk.xo = false) then refuse s
  else s.setReg a (putFld (s.reg a) 8 2 r)

/-- A write of CLK.SRC.REF_SEL. -/
def execRefSelWrite (v : Word) (s : State) : Host.Outcome State Fault Refusal := .next (s.clkSrcWrite v)

/-! ## The regulator (R328, R329) -/

/-- Twice the RCO periods expected in one interval (R329). -/
def State.rcoExpected (s : State) : Nat :=
  let len := s.esc.len.toNat
  if s.regF (adr pCLK 0x08) 8 2 = 2 then
    let m := (List.range 24).findIdx fun k => decide (2000000 ≤ 2 ^ k * len)
    2 ^ m * len
  else 2 * 1048576

/-- ERR for an error in 0.1 ppm; free where the field does not hold it (R337). -/
def rcoErr (counted expected : Nat) (e : Int) : BitVec 16 :=
  if -32768 ≤ e ∧ e < 32768 then BitVec.ofInt 16 e else Config.rcoErrWord counted expected

/-- Whether the regulator's reference is selected and ready (R329). -/
def State.regReady (s : State) : Bool :=
  match s.regF (adr pCLK 0x08) 8 2 with
  | 0 => s.clk.ref
  | 1 => s.clk.xo
  | 2 => true
  | _ => false

/-- FINE, and COARSE where FINE would pass an end with the domains on the root (R329). -/
def State.trimMove (s : State) (steps : Int) : State :=
  let a := adr pCLK 0x0C
  let v := s.reg a
  let fine : Int := ((fld v 0 12 : Nat) : Int) + steps
  let coarse := fld v 12 5
  if 0 ≤ fine ∧ fine ≤ 4095 then s.setReg a (putFld v 0 12 fine.toNat)
  else
    let up := decide (4095 < fine)
    let can := !s.clk.domRco && (if up then decide (coarse < 31) else decide (0 < coarse))
    if can then
      (s.setReg a (putFld (putFld v 12 5 (if up then coarse + 1 else coarse - 1)) 0 12 2048)).rcoRestart
    else s.setReg a (putFld v 0 12 (if up then 4095 else 0))

/-- A measurement interval ends with `counted` RCO periods (R329). -/
def execRegulatorInterval (counted : Nat) (s : State) : Host.Outcome State Fault Refusal := .next <|
  if s.regReady then
    let e := s.rcoExpected
    let diff : Int := ((2 * counted : Nat) - (e : Int)) * 1000000
    let steps := clampInt (-16) 16 (-(roundTie 5 diff (5 * e)))
    let err := freeRound 4 (10 * diff) e
    let s := s.setReg (adr pCLK 0x0D) ((rcoErr counted e err).setWidth 32)
    let ok := if diff.natAbs ≤ 5 * e then true else if 50 * e < diff.natAbs then false else s.clk.trimOk
    ({ s with clk := { s.clk with trimOk := ok } }).trimMove steps
  else s

/-- A write of CLK.RCO_TRIM: only with no regulator reference, and a new COARSE only on the root (R329). -/
def State.rcoTrimWrite (s : State) (v : Word) : State :=
  let a := adr pCLK 0x0C
  let moved := fld v 12 5 != s.regF a 12 5
  if s.regF (adr pCLK 0x08) 8 2 = 3 ∧ (moved && s.clk.domRco) = false then
    let s := s.setReg a (v &&& 0x1FFFF)
    if moved then s.rcoRestart else s
  else s.refuse pCLK

/-- A write of CLK.RCO_TRIM. -/
def execRcoTrimWrite (v : Word) (s : State) : Host.Outcome State Fault Refusal := .next (s.rcoTrimWrite v)

/-! ## SYNC (R330 to R334) -/

/-- Whether this unit steers: EN without MASTER (R330, R332). -/
def State.steers (s : State) : Bool := s.regB (adr pSYNC 0x08) 2 && !s.regB (adr pSYNC 0x08) 0

/-- A write of SYNC.CTRL, and the state it shows (R338). -/
def State.syncCtrlWrite (s : State) (v : Word) : State :=
  let s := s.setReg (adr pSYNC 0x08) (v &&& 7)
  let st := if bit v 0 then SyncState.master else if bit v 2 then
    (match s.sync.st with
      | .acquire => .acquire
      | .locked => .locked
      | .hold => .hold
      | .off => .acquire
      | .master => .acquire)
    else .off
  { s with sync := { s.sync with st := st, run := if st = s.sync.st then s.sync.run else 0,
                                 miss := if st = s.sync.st then s.sync.miss else 0,
                                 limit := s.sync.limit && s.steers } }

/-- Whether SYNC_OUT is high: on the master from 2 ns after each tick for 20 ns, in root cycles 6.4 to 70.4; on a repeating
unit SYNC_IN's pulse REP_DLY ps late; low while there is no root (R324, R330). DESIGN CHOICE (log entry 113): SYNC_IN is high
for the 20 ns of the master's pulse from each rise, the only thing of it that a command tells. -/
def State.syncOut (s : State) : Bool :=
  s.rootRuns && s.mode != .reset &&
    if s.regB (adr pSYNC 0x08) 0 then
      let d := s.rootNow - s.esc.tickRoot.toNat
      decide (64 ≤ 10 * d) && decide (10 * d < 704)
    else match s.sync.riseAt with
      | some r =>
        let d := 3125 * (s.rootNow - r)
        let dly := 10 * s.regF (adr pSYNC 0x11) 0 16
        s.regB (adr pSYNC 0x08) 1 && decide (dly ≤ d) && decide (d < dly + 200000)
      | none => false

/-- SYNC.SKEW, signed. -/
def State.syncSkew (s : State) : Int := signed 24 (s.reg (adr pSYNC 0x09)).toNat

/-- The own tick nearest to an instant x: how many ticks after the last one it lies, its distance from the last one, and its
frame number. x and the distance count 1/u root cycles from the last tick (R331, R335). Ticks that have passed are those
recorded; of those to come, the next ends the present frame and the others follow at FRAME_LEN. DESIGN CHOICE (log entry 114):
ticks to come are taken at the present FRAME_LEN; of two equally near ticks the earlier. -/
def State.nearestTick (s : State) (u : Nat) (x : Int) : Int × Int × FrameNo :=
  if x < 0 then
    let dist (d : Int) : Nat := (x - d).natAbs
    let near (b : Int × Int × FrameNo) (t : (Nat × FrameNo) × Nat) : Int × Int × FrameNo :=
      let d : Int := (u : Int) * ((t.1.1 : Int) - (s.esc.tickRoot.toNat : Int))
      if dist d ≤ dist b.2.1 then (-((t.2 : Int) + 1), d, t.1.2) else b
    s.esc.ticks.zipIdx.foldl near (0, 0, s.esc.frame)
  else
    let next : Int := 16 * (u : Int) * (s.frameCycles : Int)
    if 2 * x ≤ next then (0, 0, s.esc.frame)
    else
      let per := 16 * u * s.regF (adr pESC 0x08) 0 28
      let k : Int := max 0 (-(roundUp (next - x) per))
      (k + 1, next + k * (per : Int), s.esc.frame + 1 + BitVec.ofInt 48 k)

/-- Error of a SYNC edge against the own tick nearest to S less SKEW, in bins (R331). -/
def State.syncError (s : State) (stamp : BitVec 43) : Int :=
  let x := (stamp - (s.esc.tickRoot <<< 3).setWidth 43).toInt - s.syncSkew
  x - (s.nearestTick 8 x).2.1

/-- Whether an edge falls in the window of LOCKED, the root cycle of its end included (R334). -/
def State.syncInside (s : State) (e : Int) : Bool :=
  let w : Int := ((s.regF (adr pSYNC 0x0A) 0 16 : Nat) : Int)
  decide (-w ≤ e) && decide ((s.syncSkew + e) / 8 ≤ (s.syncSkew + w) / 8)

/-- The lock state after an accepted edge (R332, R334). A frame without an edge breaks no run of edges; the edge that
returns the unit to ACQUIRE begins a new one. DEDUCED (log entry 88). -/
def State.syncJudge (s : State) (e : Int) : State :=
  let y := s.sync
  let run := if e.natAbs ≤ 2 then (if y.st = .hold ∨ y.st = .off then 1 else y.run + 1) else 0
  let st := if y.st = .hold ∨ y.st = .off then SyncState.acquire else if y.st = .locked ∧ 4 < e.natAbs then .acquire else y.st
  let lock := decide (16 ≤ run) && st == .acquire
  let s := { s with sync := { y with st := if lock then .locked else st, run := run, miss := 0, edge := true } }
  if lock then s.event pSYNC 0 else s

/-- An accepted edge: a coarse step, or the error for the next tick (R332, R333). -/
def State.syncAccept (s : State) (e : Int) : State :=
  let s := s.syncJudge e
  if 64 ≤ e.natAbs then
    if s.mode = .configure ∨ s.mode = .safe then
      let s := { s with esc := { s.esc with stretch := s.esc.stretch + roundTie 6 e 128 },
                        sync := { s.sync with fNum := 0, fDen := 1, pendE := [], limit := false } }
      s.event pSYNC 2
    else
      let enters := (s.mode == .run || s.mode == .mirror) && !s.sync.limit
      let s := { s with sync := { s.sync with pendE := s.sync.pendE ++ [e], limit := s.sync.limit || enters } }
      if enters then (s.raise srcSYNC kSYNC_LOST 0).event pSYNC 1 else s
  else { s with sync := { s.sync with pendE := s.sync.pendE ++ [e], limit := false } }

/-- Root count of the root cycle that a stamp just taken names by bits [39:0] of the count (R331, 09 R239). -/
def State.riseRoot (s : State) (stamp : BitVec 43) : Nat :=
  s.rootNow - (s.rootNow + 2 ^ 40 - stamp.toNat / 8) % 2 ^ 40

/-- A qualified rising edge of SYNC_IN, stamped (R330, R331, R334); with the root lost nothing stamps it, and nothing is
copied (R323, R324). -/
def execSyncEdge (stamp : BitVec 43) (s : State) : Host.Outcome State Fault Refusal := .next <|
  if s.regB (adr pSYNC 0x08) 0 || !s.rootRuns then s
  else
    let s := { s with sync := { s.sync with riseAt := some (s.riseRoot stamp) } }
    let e := s.syncError stamp
    let s := s.setReg (adr pSYNC 0x0C) ((BitVec.ofInt 24 e).setWidth 32)
    if s.steers then
      if s.sync.st = .locked ∧ s.syncInside e = false then s.bump (adr pSYNC 0x0E) else s.syncAccept e
    else s

/-- A fraction in lowest terms. -/
def lowest_ (n : Int) (d : Nat) : Int × Nat :=
  let g := Nat.gcd n.natAbs d
  if g = 0 then (n, d) else (n / (g : Int), d / g)

/-- A fraction kept within ± lim. -/
def clampFrac (lim : Nat) (n : Int) (d : Nat) : Int × Nat :=
  if (lim * d : Nat) < n then ((lim : Int), 1) else if n < -((lim * d : Nat) : Int) then (-(lim : Int), 1) else lowest_ n d

/-- The steering value goes to CLK.STEER and into force (R332). -/
def State.setSteer (s : State) (n : Int) (d : Nat) : State :=
  let y : Word := BitVec.ofInt 32 (freeRound 3 n d)
  { s.setReg (adr pCLK 0x0B) y with clk := { s.clk with y := y } }

/-- A fraction n / d of 0.01 ppb with e × 39.0625 ps / (m × L) added, kept within ± lim: that is e × 10^11 /
(128 × m × FRAME_LEN) (R332). -/
def State.addError (s : State) (m : Nat) (e : Int) (f : Int × Nat) : Int × Nat :=
  let d := 128 * m * s.esc.len.toNat
  clampFrac (10000 * s.regF (adr pSYNC 0x10) 0 16) (f.1 * (d : Int) + e * 100000000000 * (f.2 : Int)) (f.2 * d)

/-- What accepted edges make of F and Y, the edges in the order they came (R332). -/
def State.steerBy (s : State) (es : List Int) (fy : (Int × Nat) × (Int × Nat)) : (Int × Nat) × (Int × Nat) :=
  es.foldl (fun fy e =>
    let f := s.addError 16 e fy.1
    (f, s.addError 1 e f)) fy

/-- F and Y at the tick, in 0.01 ppb; without an accepted edge Y is F and the frame counts as missed (R332, R334). The condition
of R333 ends with steering, or outside RUN and MIRROR. -/
def State.syncTick (s : State) : State :=
  let y := s.sync
  let s : State := { s with
    clk := { s.clk with a := if s.rootXo then s.reg (adr pCLK 0x0A) else 0 }
    sync := { y with
      pendE := []
      edge := false
      limit := y.limit && s.steers && (s.mode == .run || s.mode == .mirror) } }
  if s.steers then
    let fy := s.steerBy y.pendE ((y.fNum, y.fDen), (y.fNum, y.fDen))
    let s := ({ s with sync := { s.sync with fNum := fy.1.1, fDen := fy.1.2 } }).setSteer fy.2.1 fy.2.2
    if y.edge then s
    else
      let s := { s with sync := { s.sync with miss := s.sync.miss + 1 } }
      (s.bump (adr pSYNC 0x0D)).event pSYNC 3
  else s

/-- MISS_LIM consecutive frames without an edge (R334). -/
def execSyncHold (s : State) : Host.Outcome State Fault Refusal := .next <|
  if s.steers = true ∧ s.sync.st ≠ .hold ∧ max (s.regF (adr pSYNC 0x0F) 0 8) 1 ≤ s.sync.miss then
    let s := { s with sync := { s.sync with st := .hold } }
    (s.raise srcSYNC kSYNC_LOST 0).event pSYNC 1
  else s

/-! ## TICK marks (R335) -/

/-- The master's TICK mark for this tick (R335, 16 R392, R405). -/
def State.tickMarkSend (s : State) : State :=
  if s.regB (adr pSYNC 0x08) 0 ∧ s.kl.addr ≠ 0xFE then
    s.transmit (mkPacket 0xFF s.kl.addr 0x1 false false 0 [s.esc.frame.setWidth 64])
  else s

/-- A TICK mark that carries N arrives: it belongs to the own tick nearest to the arrival less 48 ns (153.6 root
periods) a hop, k ticks after the last one (R335). -/
def State.tickMark (s : State) (n : FrameNo) : State :=
  if s.regB (adr pSYNC 0x08) 0 ∨ s.rootRuns = false then s
  else
    let dt : Int := 10 * ((s.esc.root.toNat : Int) - (s.esc.tickRoot.toNat : Int)) - 1536 * ((s.regF (adr pSYNC 0x12) 0 8 : Nat) : Int)
    let (k, _, own) := s.nearestTick 10 dt
    if own = n then s
    else match s.mode with
      | .configure | .safe =>
        let s := { s with esc := { s.esc with frame := n - BitVec.ofInt 48 k } }
        (s.bump (adr pSYNC 0x13)).event pSYNC 4
      | .run | .mirror => (s.raise srcSYNC kFN_MISMATCH 0).event pSYNC 5
      | .reset | .boot | .enumerate | .factory => s

/-- A TICK mark arrives. -/
def execTickMark (n : FrameNo) (s : State) : Host.Outcome State Fault Refusal := .next (s.tickMark n)

end Sys2Proof.Machine
end

