-- ==== Sys2Proof/Machine/Modes.lean ====
section
/-! DEFINITION. Modes and commands (14, 02, 12 R311, 10 R254, 16 R406 to R408): the MC's command queue, the commands
but SNAP_ALL, the entries to RUN, CONFIGURE and FACTORY, the crown. -/

namespace Sys2Proof.Machine

open Sys2Proof

/-! ## The command queue (05 R157) -/

/-- Whether the MC executes. -/
def State.mcRuns (s : State) : Bool := !s.mc.stopped && !s.clk.gated

/-- A command by the path it came on (05 R157): at once where none waits, else queued; refused where sixteen wait,
which the reply the port holds shows. The MC takes the oldest waiting command. DESIGN CHOICE (log entry 87): a command that
has waited is judged as the state stands when the MC takes it. -/
def State.command (s : State) (from_ : CommandFrom) (code : Nat) (param : BitVec 24) (run : State → State) : State :=
  match from_ with
  | .mcQueue =>
    match s.mc.queue with
    | c :: rest =>
      if c.code.toNat = code ∧ c.param = param ∧ s.mcRuns = true then
        run { s with mc := { s.mc with queue := rest, cmd := some c } }
      else s
    | [] => s
  | .msp | .kwenlink =>
    if s.mc.queue.isEmpty && s.mcRuns then run { s with mc := { s.mc with cmd := some ⟨BitVec.ofNat 8 code, param⟩ } }
    else if s.mc.queue.length < 16 then
      { s with mc := { s.mc with queue := s.mc.queue ++ [⟨BitVec.ofNat 8 code, param⟩] } }
    else { s with msp := { s.msp with reply := s.msp.reply.map fun r =>
            if from_ = .msp then { r with status := r.status ||| 0x80#16 } else r } }

/-- A command row: what comes on Kwenlink comes while the root runs (13 R323). -/
def State.commandRow (s : State) (from_ : CommandFrom) (code : Nat) (param : BitVec 24) (run : State → State) : State :=
  match from_ with
  | .kwenlink => s.carried fun s => s.command .kwenlink code param run
  | .msp | .mcQueue => s.command from_ code param run

/-- A command the mode does not list is refused with MODE (R339). -/
def State.cmdRefused (s : State) : State := s.event pMODE 2

/-- CMD_STATUS of START, STOP, RECOVER and FACTORY (R356). -/
def State.cmdStatus (s : State) (code reason : Nat) : State :=
  let s := s.setReg (adr pMODE 0x09) (BitVec.ofNat 32 (code <<< 16 + 1 <<< 15 + reason))
  if reason = 0 then s else s.cmdRefused

/-! ## START and STOP (02 R22, R23) -/

/-- ARM_STATUS.TARGET of every arm that waits for the START frame shows the accepted frame (02 R47). -/
def State.showStart (s : State) (m : FrameNo) : State :=
  s.eachG fun s g =>
    let a := adr (pGRP g) 0x09
    if s.regB a 8 then s.setReg a (putFld (s.reg a) 16 16 m.toNat) else s

/-- Command START: MODE, COMPAT, LATE (02 R22, R356). DESIGN CHOICE (log entry 110): a START accepted while one is pending
takes its place; the spec does not say which frame stands. -/
def State.startCmd (s : State) : State :=
  let m := s.reg48 (adr pESC 0x0B)
  if s.mode ≠ .configure then s.cmdStatus 1 1
  else if s.modes.compat = false then s.cmdStatus 1 3
  else if m.toNat < s.esc.frame.toNat + 2 then (s.cmdStatus 1 2).event pESC 1
  else (({ s with esc := { s.esc with startAt := some m } }).showStart m).cmdStatus 1 0

/-- Command START. -/
def execStart (from_ : CommandFrom) (param : BitVec 24) (s : State) : Host.Outcome State Fault Refusal :=
  .next (s.commandRow from_ 1 param State.startCmd)

/-- Command STOP: at the tick that ends this frame, or the next one where it comes after the cut-off (02 R23). -/
def State.stopCmd (s : State) : State :=
  if s.mode ≠ .run then s.cmdStatus 2 1
  else
    let n := if s.pastCut then 2 else 1
    let n := match s.esc.stopAt with
      | some k => min k n
      | none => n
    ({ s with esc := { s.esc with stopAt := some n } }).cmdStatus 2 0

/-- Command STOP, or a non-urgent STOP packet. -/
def execStop (from_ : CommandFrom) (param : BitVec 24) (s : State) : Host.Outcome State Fault Refusal :=
  .next (s.commandRow from_ 2 param State.stopCmd)

/-- An urgent STOP packet (02 R51, R352); in the cycle of an entry to FACTORY that entry is not taken (R357). -/
def State.urgentStop (s : State) : State :=
  match s.mode with
  | .reset | .boot | .enumerate => s
  | .factory =>
    if s.undoEntry.mode = .factory then s.actAll .disconnect else (s.raiseActed srcESTOP kESTOP 0).enterSafe causeESTOP
  | .configure | .run | .mirror | .safe => (s.raiseActed srcESTOP kESTOP 0).enterSafe causeESTOP

/-- An urgent STOP packet. -/
def execUrgentStop (s : State) : Host.Outcome State Fault Refusal := .next (s.carried State.urgentStop)

/-- At the tick of the START frame the unit enters RUN (02 R22). What FACTORY had passed is consumed (R357). -/
def State.runEntry (s : State) : State :=
  if s.mode = .configure ∧ s.esc.startAt = some s.esc.frame then
    let s := { s with esc := { s.esc with startAt := none },
                      modes := { s.modes with factory := false, cfg := .idle } }
    s.enterMode .run
  else s

/-- The entry to RUN at its tick; none without the root (13 R323). -/
def execRunEntry (s : State) : Host.Outcome State Fault Refusal := .next (if s.rootRuns then s.runEntry else s)

/-! ## CONFIGURE (03 R76, R353) -/

/-- Whether a channel takes part in an entry to CONFIGURE (R353). -/
def State.entryChan (s : State) (g : GroupIx) (l : LaneIx) : Bool := !(s.grp g).failed && !s.limitHeld g l

/-- A function over the channels that take part. -/
def State.eachEntry (s : State) (f : State → GroupIx → LaneIx → State) : State :=
  s.eachG fun s g => (below 16).foldl (fun s l => if s.entryChan g l then f s g l else s) s

/-- Step 1 of the entry: HIZ, drivers off (R353). -/
def State.entryHiz (s : State) : State :=
  let now := s.rootNow
  let s := s.eachEntry fun s g l => s.modFe g l fun fe => { (fe.hiz.driverOff.settle now) with action := .none }
  { s with modes := { s.modes with cfg := .relays } }

/-- Step 2: every relay moves to the RELAY value of its power-up record (R353). -/
def State.entryRelays (s : State) : State :=
  s.eachEntry fun s g l => s.relayTo g l (recRelay (s.chan g l).fe.puRec)

/-- Step 3: stages and drivers take their power-up values, a gang those of its leader (R353, 03 R60); not those of a unit that may
not drive, whose relays alone the entry moves (17 R414). -/
def State.entryValues (s : State) : State :=
  if s.drives then
    s.eachEntry fun s g l =>
      let r := (s.chan g (s.leader g l)).fe.puRec
      s.modFe g l fun fe => fe.applyRecord s.rootNow true (s.ganged g l) r
  else s

/-- Programs held in slots wait for the next START frame (02 R23). -/
def Slot.holdForStart (sl : Slot) : Slot :=
  if sl.st == .empty then {} else { sl with start := true, cur := false, next := false, after := false }

/-- RUN ends: what was running stops, held programs wait (02 R23, 06 R175, 07 R201, 08 R231, 10 R255, R262, 12 R302). -/
def State.leaveRun (s : State) : State :=
  let s := s.eachG fun s g =>
    let s := s.modG g fun gr => ((gr.haltEngine).stopCont fun _ => true).shutWindows
    let s := (s.pauseQuads g).endPattern g
    let s := (s.abortHolds g).wavStopNow g
    s.modG g fun gr => { gr with slots := vmap Slot.holdForStart gr.slots, leaving := Vector.replicate 8 none, due := [] }
  s.leaveLines

/-- What every entry to CONFIGURE does: the wear flush starts and the raw count clears (12 R307, 15 R379). -/
def State.configureCommon (s : State) : State :=
  let s := s.enterMode .configure
  { s with modes := { s.modes with flush := true, recover := false, assigned := false, pend := 0 },
           msp := { s.msp with raw := 0 }, esc := { s.esc with stopAt := none } }

/-- The entry tick to CONFIGURE: from RUN by STOP, from SAFE by RECOVER once the domains are on the root, from
ENUMERATE with an address (R352, R353, R326). -/
def State.configureEntry (s : State) : State :=
  match s.mode with
  | .run => if s.esc.stopAt = some 0 then (s.leaveRun.configureCommon).entryHiz else s
  | .safe =>
    if s.modes.recover && !s.clk.domRco then
      let s := s.eachG fun s g => s.pauseQuads g
      s.configureCommon.entryHiz
    else s
  | .enumerate =>
    if s.modes.assigned then
      let s := s.configureCommon
      let s := s.eachEntry fun s g l => if recRelay (s.chan g l).fe.puRec then s.relayTo g l true else s
      { s with modes := { s.modes with cfg := .powerup } }
    else s
  | .reset | .boot | .configure | .mirror | .factory => s

/-- The entry to CONFIGURE at its tick; none without the root (13 R323). -/
def execConfigureEntry (s : State) : Host.Outcome State Fault Refusal := .next (if s.rootRuns then s.configureEntry else s)

/-- 2 µs after the entry (R353). -/
def execConfigureRelayStep (s : State) : Host.Outcome State Fault Refusal := .next <|
  if s.mode = .configure ∧ s.modes.cfg = .relays then
    { s.entryRelays with modes := { s.modes with cfg := .values } }
  else s

/-- 12 µs after the entry (R353). -/
def execConfigureValuesStep (s : State) : Host.Outcome State Fault Refusal := .next <|
  if s.mode = .configure ∧ s.modes.cfg = .values then
    { s.entryValues with modes := { s.modes with cfg := .idle } }
  else s

/-- On the first entry, 10 µs after the relays close (03 R76). -/
def execPowerupValuesApply (s : State) : Host.Outcome State Fault Refusal := .next <|
  if s.mode = .configure ∧ s.modes.cfg = .powerup then
    { s.entryValues with modes := { s.modes with cfg := .idle } }
  else s

/-! ## RECOVER (R326, R356) -/

/-- Root and every hairspring locked (R326). -/
def State.locked (s : State) : Bool := s.clk.lock && s.clk.hs.toList.all id

/-- Whether a cause is cleared (R354). -/
def State.causeCleared (s : State) (c : Nat) : Bool :=
  match c with
  | 1 => !bit (s.flt.first.getD 1 0) 31
  | 2 => true
  | 3 | 4 => s.locked
  | 5 => s.thm.sensors.toList.all fun x => !x.failed && decide (x.temp < s.thmLimit 1)
  | _ => false

/-- Every pending cause is cleared, and the wear flush is complete (R356). -/
def State.causesCleared (s : State) : Bool :=
  !s.modes.flush && (List.range 6).all fun i => !bit s.modes.pend i || s.causeCleared (i + 1)

/-- Command RECOVER: MODE, NOT_READY, LOCK, CAUSE; then the switch to the root where it is needed (R326). -/
def State.recoverCmd (s : State) : State :=
  if s.mode ≠ .safe then s.cmdStatus 3 1
  else if s.boot.done = false ∨ s.kl.addr = 0xFE ∨ bit s.modes.pend 5 = true then s.cmdStatus 3 4
  else if s.locked = false then s.cmdStatus 3 5
  else if s.causesCleared = false then s.cmdStatus 3 6
  else
    let s := { s with modes := { s.modes with recover := true },
                      clk := { s.clk with target := if s.clk.domRco then some false else s.clk.target } }
    s.cmdStatus 3 0

/-- Command RECOVER. -/
def execRecover (from_ : CommandFrom) (param : BitVec 24) (s : State) : Host.Outcome State Fault Refusal :=
  .next (s.commandRow from_ 3 param State.recoverCmd)

/-! ## CAL_NOW, RESUME, ARM -/

/-- Command CAL_NOW (12 R311). A halted rotation restarts only while EN is set (04 R105, R110). DESIGN CHOICE (log entry 82):
it restarts at the lane it halted on. -/
def State.calNow (s : State) (param : BitVec 24) : State :=
  if s.mode = .configure ∨ s.mode = .run ∨ s.mode = .mirror then
    let on := s.tbOn
    s.allG fun g =>
      let g := if bit param 0 && on && g.tb.st == .halted then g.tbShadow g.tb.lane else g
      if bit param 1 then { g with fpDue := 0xFFFF } else g
  else s.cmdRefused

/-- Command CAL_NOW. -/
def execCalNow (from_ : CommandFrom) (param : BitVec 24) (s : State) : Host.Outcome State Fault Refusal :=
  .next (s.commandRow from_ 4 param fun s => s.calNow param)

/-- Command RESUME names a stream; the tick decides (07 R215). -/
def State.resumeCmd (s : State) (param : BitVec 24) : State :=
  if s.mode = .run then
    let n := if s.pastCut then 1 else 0
    s.modSt (laneOf param.toNat) fun x => { x with resumes := x.resumes ++ [n] }
  else s.cmdRefused

/-- Command RESUME. -/
def execResume (from_ : CommandFrom) (param : BitVec 24) (s : State) : Host.Outcome State Fault Refusal :=
  .next (s.commandRow from_ 7 param fun s => s.resumeCmd param)

/-- Reason of an ARM that is not a DISARM (10 R254). -/
def State.armReason (s : State) (l : LineIx) (f : FrameNo) : Nat :=
  let st := (s.lines[l]).st
  if s.regB (adr pTRG 0x08) 0 = false then 1
  else if s.mode ≠ .configure ∧ s.mode ≠ .run then 2
  else if f.toNat < s.esc.frame.toNat + 2 then 3
  else if st = .armed ∨ st = .live then 4
  else 0

/-- Command ARM on the trigger master: the checks, the ARM packet, and the master's own copy of it (10 R254, 16 R405);
the packet is HOST traffic (16 R401). -/
def State.armCmd (s : State) (param : BitVec 24) : State :=
  let l : LineIx := ⟨fld param 0 2, Nat.mod_lt _ (by decide)⟩
  let disarm := bit param 2
  let f := s.reg48 (adr pTRG 0x09)
  let auto : BitVec 16 := (s.reg (adr pTRG 0x0B)).setWidth 16
  let r := if disarm then 0 else s.armReason l f
  let s := s.setReg (adr pTRG 0x0D) (BitVec.ofNat 32 (1 <<< 7 + l.val <<< 4 + r))
  let listed := s.mode == .configure || s.mode == .run
  let s := if !listed && !disarm then s.cmdRefused else s
  if r ≠ 0 then s.event pTRG 4
  else
    let b1 : BitVec 64 := BitVec.ofNat 64 (auto.toNat + l.val <<< 16 + b2n disarm <<< 18)
    let s := if s.kl.addr = 0xFE then s
      else s.originate cHOST (mkPacket 0xFF s.kl.addr 0x6 false false 0 [f.setWidth 64, b1])
    s.armPacket f auto l disarm

/-- Command ARM. -/
def execArm (from_ : CommandFrom) (param : BitVec 24) (s : State) : Host.Outcome State Fault Refusal :=
  .next (s.commandRow from_ 6 param fun s => s.armCmd param)

/-! ## The crown (16 R406 to R408) -/

/-- A broadcast ENUM_ASSIGN (16 R407). -/
def State.enumAssign (s : State) (word : Word) : State :=
  if s.mode = .enumerate ∧ s.kl.addr = 0xFE ∧ s.kl.enumIn = true ∧ word.toNat ≤ 0xFD then
    let s := { s with kl := { s.kl with addr := word.setWidth 8, enumDue := true, cache := [] },
                      msp := { s.msp with ucSync := false, bcSync := false },
                      modes := { s.modes with assigned := true } }
    s.event pKL 5
  else s

/-- An ENUM_ASSIGN acts in the cycle in which it passes its checks (16 R407); one that the MC takes from its queue is
command 0x05. -/
def execEnumAssign (from_ : CommandFrom) (word : Word) (s : State) : Host.Outcome State Fault Refusal := .next <|
  match from_ with
  | .mcQueue => s.command .mcQueue 5 (word.setWidth 24) fun s => s.enumAssign word
  | .msp => s.enumAssign word
  | .kwenlink => s.carried fun s => s.enumAssign word

/-- ENUM_IN reads high (16 R406). -/
def execEnumInRise (s : State) : Host.Outcome State Fault Refusal :=
  .next { s with kl := { s.kl with enumIn := true } }

/-- ENUM_IN reads low (16 R406). -/
def execEnumInFall (s : State) : Host.Outcome State Fault Refusal :=
  .next { s with kl := { s.kl with enumIn := false } }

/-- 1 µs after the assignment (16 R408). -/
def execEnumOutRaise (s : State) : Host.Outcome State Fault Refusal :=
  .next (if s.kl.enumDue then { s with kl := { s.kl with enumDue := false, enumOut := true } } else s)

/-- In a halted BOOT, ENUM_OUT follows ENUM_IN (R350). -/
def execEnumOutFollow (s : State) : Host.Outcome State Fault Refusal :=
  .next (if s.mode = .boot ∧ s.boot.failed = true then { s with kl := { s.kl with enumOut := s.kl.enumIn } } else s)

/-! ## FACTORY (R358) -/

/-- Bytes of a word, most significant first. -/
def wordBytes (w : Word) : List Byte :=
  [w.extractLsb' 24 8, w.extractLsb' 16 8, w.extractLsb' 8 8, w.extractLsb' 0 8]

/-- Token word. -/
def State.tokWord (s : State) (i : Nat) : Word := tget 0 s.modes.token i

/-- A 256-bit value in eight MRAM words, the most significant first (20 R497). -/
def State.nvmHash (s : State) (k : Nat) : BitVec 256 :=
  BitVec.ofNat 256 ((List.range 8).foldl (fun n i => n * 2 ^ 32 + (tget 0 s.nvm.a (k + i)).toNat) 0)

/-- The check TOKEN: serial number, nonce, reserved bits, and a key with the hash in MRAM under which the signature verifies; such
a key is one of the two that a signature over a digest determines (R358). -/
def State.tokenOk (s : State) : Bool :=
  let bytes := ((List.range 6).map s.tokWord).flatMap wordBytes
  let sig := ((List.range 16).map fun i => s.tokWord (6 + i)).flatMap wordBytes
  let digest := sha256 bytes
  s.tokWord 0 == s.reg (adr pUNIT 0x0A) && s.tokWord 1 == s.reg (adr pUNIT 0x0B) &&
    s.tokWord 2 == s.modes.nonce.setWidth 32 && s.tokWord 3 == s.modes.nonce.extractLsb' 32 32 &&
    fld (s.tokWord 4) 4 28 == 0 && s.tokWord 5 == 0 &&
    (ecdsaKeys digest sig).any fun key => sha256 key == s.nvmHash 0x48 && ecdsaP256 key digest sig

/-- A fresh nonce (R358). -/
def State.newNonce (s : State) : State :=
  let (n, s) := s.draw
  { s with modes := { s.modes with nonce := Config.nonce n } }

/-- Command FACTORY: MODE, FUSE, TOKEN; the nonce is drawn afresh either way. -/
def State.factoryCmd (s : State) : State :=
  let r := if s.mode ≠ .configure then 1 else if s.modes.fuse = false then 7 else if s.tokenOk then 0 else 8
  let s := if r = 0 then
      { s with modes := { s.modes with factory := true, perm := (s.tokWord 4).setWidth 4 } }
    else s
  (s.cmdStatus 9 r).newNonce

/-- Command FACTORY. -/
def execFactory (from_ : CommandFrom) (param : BitVec 24) (s : State) : Host.Outcome State Fault Refusal :=
  .next (s.commandRow from_ 9 param State.factoryCmd)

/-- The tick of the entry to FACTORY (R358); a START due at the same tick goes before it (R357). -/
def State.factoryEntry (s : State) : State :=
  if s.mode = .configure ∧ s.modes.factory = true ∧ s.esc.startAt ≠ some s.esc.frame then
    let s := s.actAll .safeState
    let s := s.eachG fun s g => s.emptySlots g 0x7
    let s := { s with modes := { s.modes with factory := false, cfg := .idle }, esc := { s.esc with startAt := none } }
    s.enterMode .factory
  else s

/-- The entry to FACTORY at its tick; none without the root (13 R323). -/
def execFactoryEntry (s : State) : Host.Outcome State Fault Refusal := .next (if s.rootRuns then s.factoryEntry else s)

/-- Whether a facility the token permits is open: FACTORY, permission bit k (R358). -/
def State.permits (s : State) (k : Nat) : Bool := s.mode == .factory && bit s.modes.perm k

end Sys2Proof.Machine
end

