-- ==== Sys2Proof/Machine/Pair.lean ====
section
/-! DEFINITION. Pair operation (17): heartbeats, the mirror stream, ownership, MIRROR, takeover, release. -/

namespace Sys2Proof.Machine

open Sys2Proof

/-- The pair block changed. -/
def State.modP (s : State) (f : Pair → Pair) : State := { s with pair := f s.pair }

/-! ## Degraded pairs (R419, R429) -/

/-- The effective divider D (R419). -/
def State.divEff (s : State) : Nat :=
  let len := s.esc.len.toNat
  if 2000 ≤ len then 1 else max (max (s.regF (adr pPAIR 0x09) 0 8) 1) ((2000 + len - 1) / len)

/-- Image version of this unit (R360). -/
def State.imgVer (s : State) : BitVec 16 := (s.reg (adr pBOOT 0x09)).setWidth 16

/-- Vendor region version of this unit (R360). -/
def State.vrVer (s : State) : BitVec 16 := (s.reg (adr pBOOT 0x09)).extractLsb' 16 16

/-- First DEGRADED reason that applies, 0 for none (R429). -/
def State.pairReason (s : State) : Nat :=
  if s.pair.en = false then 0
  else if s.pair.linkUp = false ∨ s.pair.hbSeen = false then 1
  else match s.pair.partner with
    | none => 1
    | some h =>
      if h.imgVer ≠ s.imgVer ∨ h.vrVer ≠ s.vrVer then 2
      else if h.frameLen ≠ s.esc.len.toNat ∨ h.div ≠ s.divEff ∨ s.pair.badFrame = true then 3
      else if h.pairId = s.pair.id then 4
      else if s.modes.compat = false ∨ h.compatOk = false then 5
      else 0

/-- The reason is brought up to date; entering DEGRADED sets its event and raises the fault (R429). -/
def State.pairJudge (s : State) : State :=
  let r := s.pairReason
  let enters := s.pair.reason == 0 && r != 0
  let s := s.modP fun p => { p with reason := BitVec.ofNat 3 r }
  if enters then (s.event pPAIR 3).raise srcPAIR kPAIR_DEGRADED 0 else s

/-! ## PAIR.CTRL (R414, R430) -/

/-- Every stage to HIZ and every driver off (R414, R430). -/
def State.dropOutputs (s : State) : State :=
  let now := s.rootNow
  s.allG fun g => g.modLanes 0xFFFF fun _ c => { c with fe := c.fe.hiz.driverOff.settle now }

/-- EN set: the pair starts afresh with its outputs held; EN cleared: OWN_OUT goes low (R414). -/
def State.pairEnable (s : State) (on : Bool) : State :=
  let s := s.modP fun p =>
    { p with en := on, ownOut := false, relPend := false, miss := 0, hbNow := false, hbSeen := false, partner := none,
             id0 := none, id1 := none, badFrame := false, stuck := false, snap := none, okRun := 0, gotSnap := false,
             latch := none, rebase := false, takeAt := none, hbOut := none, snapWait := [], snapOut := none }
  (if on then s.dropOutputs else s).pairJudge

/-- RELEASE is accepted in CONFIGURE or SAFE, while this unit asserts OWN_OUT (R430). -/
def State.releaseWrite (s : State) : State :=
  if s.pair.en = true ∧ s.pair.ownOut = true ∧ (s.mode = .configure ∨ s.mode = .safe) then
    s.modP fun p => { p with relPend := true }
  else s.refuse pPAIR

/-- A write of PAIR.CTRL: EN changes in CONFIGURE only (R414), RELEASE by its own rule. -/
def State.pairCtrlWrite (s : State) (v : Word) : State :=
  let s := if bit v 0 == s.pair.en then s
    else if s.mode = .configure then
      (s.setReg (adr pPAIR 0x08) (putFld (s.reg (adr pPAIR 0x08)) 0 1 (b2n (bit v 0)))).pairEnable (bit v 0)
    else s.refuse pPAIR
  if bit v 1 then s.releaseWrite else s

/-- A write of PAIR.CTRL for EN. -/
def execPairEnWrite (v : Word) (s : State) : Host.Outcome State Fault Refusal := .next (s.pairCtrlWrite v)

/-- A write of PAIR.CTRL.RELEASE. -/
def execRelease (s : State) : Host.Outcome State Fault Refusal := .next s.releaseWrite

/-- The tick after the acceptance: no heartbeat leaves at it (R430). -/
def execReleaseEffect (s : State) : Host.Outcome State Fault Refusal := .next <|
  if s.pair.relPend then
    let s := s.modP fun p =>
      { p with relPend := false, ownOut := false, hbStop := true, released := true, ownHigh := 0, hbOut := none }
    s.dropOutputs
  else s

/-- A write of PAIR.MIR_DIV: CONFIGURE only (R431). -/
def State.mirDivWrite (s : State) (v : Word) : State :=
  if s.mode = .configure then (s.setReg (adr pPAIR 0x09) (v &&& 0xFF#32)).pairJudge else s.refuse pPAIR

/-! ## Wires (R412, R413) -/

/-- The pair link comes up. -/
def execPairLinkUp (s : State) : Host.Outcome State Fault Refusal :=
  .next (s.modP fun p => { p with linkUp := true }).pairJudge

/-- The pair link loses block lock. -/
def execPairLinkDown (s : State) : Host.Outcome State Fault Refusal :=
  .next (s.modP fun p => { p with linkUp := false }).pairJudge

/-- OWN_IN changes; its ticks are counted afresh (R412). -/
def execOwnInChange (high : Bool) (s : State) : Host.Outcome State Fault Refusal :=
  .next (if s.pair.ownIn == high then s else s.modP fun p => { p with ownIn := high, ownLow := 0, ownHigh := 0 })

/-! ## The partner's state in MIRROR (R175, R422) -/

/-- A channel of a snapshot. -/
def snapChan (n : Snapshot) (g : GroupIx) (l : LaneIx) : Option ChannelSnap := n.chans[chanNo g l]?

/-- Every relay follows the snapshot's commanded state, but for failed groups and channels held by a LIMIT trip
(R422, R73). -/
def State.followRelays (s : State) (n : Snapshot) : State :=
  s.eachG fun s g =>
    if (s.grp g).failed then s
    else (below 16).foldl (fun s l =>
      match snapChan n g l with
      | some c => if c.closed && s.limitHeld g l then s else s.relayTo g l c.closed
      | none => s) s

/-- The group whose slice snapshot s carries (R419). -/
def sliceGroup (seq : Word) : GroupIx := ⟨seq.toNat % 64, Nat.mod_lt _ (by decide)⟩

/-- A quad state from its code (R172); 7 is no state. -/
def quadOfCode (n : Nat) : Option QuadState :=
  match n with
  | 0 => some .idle
  | 1 => some .running
  | 2 => some .ending
  | 3 => some .paused
  | 4 => some .done
  | 5 => some .faulted
  | 6 => some .refused
  | _ => none

/-- Whether a snapshot shows a quad in another step than its own. -/
def Quad.stepsTo (q : Quad) (n : QuadSnap) : Bool :=
  q.serial != n.qstat.extractLsb' 24 8 || q.step != BitVec.ofNat 6 (fld n.qstat 4 6) || q.words.isEmpty

/-- A 64-bit value of a list of words, the low word first. -/
def wideAt (ws : List Word) (i : Nat) : BitVec 64 := ws.getD (i + 1) 0 ++ ws.getD i 0

/-- A quad of the slice's group whose step a snapshot has begun afresh, from what it was before: it goes on with what it has
measured since the latch tick, and of the values kept from that tick the new step has none (R422). -/
def State.rebaseFrom (s : State) (g : GroupIx) (j : QuadIx) (was : Quad) : State :=
  match s.pair.latch with
  | none => s
  | some (f, own) =>
    let (imgs, qs) := own.getD g.val ([], [])
    let since (i : Nat) : BitVec 64 := was.stat64 i - wideAt (qs.getD j.val []) i
    let q := s.quad g j
    let base := List.replicate 6 0 ++ (q.stats.set 15 q.info).toList.drop 6
    let s := s.modQ g j fun q => ((q.setStat64 0 (since 0)).setStat64 2 (since 2)).setStat64 4 (since 4)
    s.modP fun p => { p with latch := some (f, own.set g.val (imgs, qs.set j.val base)) }

/-- A sequencer takes its mirrored state; the step's words come from this unit's own table (R175, R419). -/
def State.followQuad (s : State) (g : GroupIx) (j : QuadIx) (n : QuadSnap) : State :=
  match quadOfCode (fld n.qstat 0 3) with
  | none => s
  | some st =>
    let step := fld n.qstat 4 6
    let ws := (stepWords step).map (s.tblQ g j)
    let slot := s.qctlSlot g j
    s.modQ g j fun q =>
      let newStep := q.stepsTo n
      let runs := st == .running || st == .ending || st == .paused
      let goesOn := !newStep && runs
      let q := if (q.counts || q.st == .paused) && !goesOn then
          q.endStep (if newStep then q.cond else BitVec.ofNat 3 (fld n.qstat 10 3))
        else q
      let q := if newStep && runs then q.load (BitVec.ofNat 6 step) ws false else q
      let q := if newStep then { q with words := ws, slot := slot } else q
      { q with
        st := st, step := BitVec.ofNat 6 step, cond := BitVec.ofNat 3 (fld n.qstat 10 3),
        reason := BitVec.ofNat 4 (fld n.qstat 16 4), cause := BitVec.ofNat 4 (fld n.qstat 20 4),
        serial := n.qstat.extractLsb' 24 8,
        pi := { u := n.u, eI := n.eI, eV := n.eV, rI := n.rI, rV := n.rV },
        evalAll := n.hold == 0, qual := Vector.ofFn fun i : Fin 4 => n.qual.getD i.val 0, succ := n.succ,
        wait := false, due := false }

/-- Every sequencer of a working group takes its mirrored state; one of the group whose slice waits for its rebase keeps what it
has measured since the latch tick (R422). -/
def State.followQuads (s : State) (n : Snapshot) : State :=
  s.eachG fun s g =>
    if (s.grp g).failed then s
    else (below 4).foldl (fun s j =>
      match n.quads[quadNo g j]? with
      | some q =>
        let was := s.quad g j
        let s := s.followQuad g j q
        if was.stepsTo q && s.pair.rebase && sliceGroup n.seq == g then s.rebaseFrom g j was else s
      | none => s) s

/-- What a unit in MIRROR takes from a snapshot at once. -/
def State.follow (s : State) (n : Snapshot) : State := (s.followRelays n).followQuads n

/-! ## Receptions (R413, R418, R420) -/

/-- A heartbeat: its check, the frame it carries, the partner's state (R413, R418, R427, R429); none passes while this unit has no
root (13 R323). -/
def State.heartbeat (s : State) (h : Heartbeat) : State :=
  if s.pair.en = false ∨ s.rootRuns = false then s
  else if h.valid = false then s.bump (adr pPAIR 0x13)
  else
    let good := h.frame == s.esc.frame
    let s := s.modP fun p =>
      { p with hbSeen := true, partner := some h, id0 := if h.pairId then p.id0 else some 0,
               id1 := if h.pairId then some 0 else p.id1, hbNow := p.hbNow || good, badFrame := !good,
               miss := if good then 0 else p.miss, stuck := if good then false else p.stuck }
    let s := s.setReg (adr pPAIR 0x0B) (h.imgVer ++ h.vrVer)
    let s := (s.setReg (adr pPAIR 0x0C) (h.serial.setWidth 32)).setReg (adr pPAIR 0x0D) (h.serial.extractLsb' 32 32)
    s.pairJudge

/-- A partner heartbeat arrives. -/
def execHeartbeatReceive (h : Heartbeat) (s : State) : Host.Outcome State Fault Refusal := .next (s.heartbeat h)

/-- A snapshot arrives whole, or is discarded; its parts that fail their CRC count; under VERSION or ID it is not taken (R413,
R420, R422, R429; 13 R323). -/
def State.snapshot (s : State) (n : Snapshot) : State :=
  if s.pair.en = false ∨ s.rootRuns = false then s
  else
  let s := s.bumpBy (adr pPAIR 0x13) n.bad
  if s.pair.ownOut = true then s
  else if n.valid = false ∨ n.bad ≠ 0 then
    ((s.modP fun p => { p with okRun := 0 }).bump (adr pPAIR 0x12)).event pPAIR 5
  else if s.pair.reason = 2 ∨ s.pair.reason = 4 then s
  else
    let good : Bool := match s.pair.latch with
      | some l => l.1 == n.frame
      | none => false
    let s := s.modP fun p =>
      { p with snap := some n, gotSnap := true, okRun := if good then p.okRun + 1 else 0,
               rebase := good && s.mode == .mirror }
    let s := (s.setReg (adr pPAIR 0x0E) (n.frontier.setWidth 32)).setReg (adr pPAIR 0x0F) ((n.frontier.extractLsb' 32 16).setWidth 32)
    let s := s.setReg (adr pPAIR 0x10) n.seq
    if s.mode = .mirror then s.follow n else s

/-- A snapshot of the owner arrives. -/
def execSnapshotReceive (p : Snapshot) (s : State) : Host.Outcome State Fault Refusal := .next (s.snapshot p)

/-! ## What this unit sends (R417, R419) -/

/-- The heartbeat of this tick (R417). -/
def State.ownHeartbeat (s : State) : Heartbeat :=
  { valid := true, frame := s.esc.frame, pairId := s.pair.id,
    serial := s.reg (adr pUNIT 0x0B) ++ s.reg (adr pUNIT 0x0A), mode := s.mode, ownOut := s.pair.ownOut,
    compatOk := s.modes.compat, imgVer := s.imgVer, vrVer := s.vrVer, frameLen := s.esc.len.toNat, div := s.divEff,
    mirror := s.mode == .mirror }

/-- Whether this unit sends heartbeats (R417, R430). -/
def State.beats (s : State) : Bool :=
  s.pair.en && !s.pair.hbStop && s.rootRuns && modeCounts s.mode

/-- The frame before this one, or 0 at the start of counting. -/
def prevFrame (f : FrameNo) : FrameNo := if f = 0 then 0 else f - 1

/-- The drain frontier F: the newest frame whose ring entries have all entered the replay buffer (R422). -/
def State.frontier (s : State) : FrameNo :=
  (s.rings.unsent.filter fun u => decide (u.sel < 0x40000)).foldl
    (fun f u => if u.frame ≤ f then prevFrame u.frame else f) (prevFrame s.esc.frame)

/-- Channel state of a snapshot. -/
def FrontEnd.snap (fe : FrontEnd) : ChannelSnap :=
  { stage := fe.stage.st, range := fe.stage.range, code := fe.stage.code, link := fe.stage.link,
    closed := fe.relay.st == .closed || fe.relay.st == .closing, outSel := fe.outSel,
    limitHi := fe.hi.latch && fe.hi.limit, limitLo := fe.lo.latch && fe.lo.limit }

/-- Quad state of a snapshot; the holdoff counter counts down (R169, R419). -/
def Quad.snap (q : Quad) : QuadSnap :=
  { qstat := q.qstat, u := q.pi.u, eI := q.pi.eI, eV := q.pi.eV, rI := q.pi.rI, rV := q.pi.rV,
    hold := if q.evalAll then 0 else max 1 (250 * fld (q.w 4) 0 16 - q.time), qual := q.qual.toList, succ := q.succ }

/-- Own tick images and live statistics of a group (R102, R180, R422). -/
def Group.sliceOf (g : Group) : List IntegImage × List (List Word) :=
  (g.chans.toList.map fun c => c.ms.tickImg, g.quads.toList.map fun q => (q.stats.set 15 q.info).toList)

/-- The snapshot latched now (R419). -/
def State.ownSnapshot (s : State) : Snapshot :=
  let sl := (s.grp (sliceGroup s.pair.sentSeq)).sliceOf
  { valid := true, frame := s.esc.frame, seq := s.pair.sentSeq, frontier := s.frontier, closes := prevFrame s.esc.frame,
    chans := s.groups.toList.flatMap fun g => g.chans.toList.map fun c => c.fe.snap,
    quads := s.groups.toList.flatMap fun g => g.quads.toList.map Quad.snap,
    sliceInt := sl.1, sliceQ := sl.2 }

/-- Latched snapshots are read out in order on the MIR store share; one that finds it spent goes on in the next frame
(R420, 02 R41). -/
def State.readSnapshots : List (Snapshot × Nat) → State → State
  | [], s => s.modP fun p => { p with snapWait := [] }
  | (n, k) :: rest, s =>
    let have_ := min k (s.left none 2 cMIR)
    let s := s.pay none 2 cMIR have_
    if have_ = k then State.readSnapshots rest (s.modP fun p => { p with snapOut := some n })
    else (s.starved none 2 cMIR (k - have_)).modP fun p => { p with snapWait := (n, k - have_) :: rest }

/-- The owner latches a snapshot in SEQ cycle 0 (R419, R420; 02 R25). -/
def State.latchSnapshot (s : State) : State :=
  s.modP fun p => { p with snapWait := p.snapWait ++ [(s.ownSnapshot, 2736)], sentSeq := p.sentSeq + 1 }

/-! ## The tick -/

/-- The rebase of a lane: the owner's image less this unit's own at the latch tick is added (R422). -/
def Integ.rebase (i : Integ) (theirs own : IntegImage) : Integ :=
  { i with q := i.q + (theirs.q - own.q), e := i.e + (theirs.e - own.e), s := i.s + (theirs.s - own.s) }

/-- The rebase of the live statistics, items 0 to 5 as three 64-bit values; of INFO, whose STEP, COND and SERIAL follow the
sequencer, the two flags (R180, R422). -/
def Quad.rebase (q : Quad) (theirs own : List Word) : Quad :=
  let add64 (q : Quad) (i : Fin 15) : Quad := q.setStat64 i (q.stat64 i.val + (wideAt theirs i.val - wideAt own i.val))
  let q := add64 (add64 (add64 q 0) 2) 4
  let diff (i : Nat) : Word := theirs.getD i 0 - own.getD i 0
  let q := (below 15).foldl (fun q i =>
    if i.val < 6 then q else q.setStat i.castSucc (q.stat i.val + diff i.val)) q
  q.setStat 15 ((q.info + diff 15) &&& 0x03000000#32)

/-- The rebase due at this tick (R422). -/
def State.mirrorRebase (s : State) : State :=
  match s.pair.rebase, s.pair.snap, s.pair.latch with
  | true, some n, some l =>
    let g := sliceGroup n.seq
    let own := l.2.getD g.val ([], [])
    let zeros : IntegImage := ⟨0, 0, 0, 0, 0⟩
    let s := (below 16).foldl (fun s i =>
      s.modMs g i fun m => { m with integ := m.integ.rebase (n.sliceInt.getD i.val zeros) (own.1.getD i.val zeros) }) s
    let s := (below 4).foldl (fun s j =>
      s.modQ g j fun q => q.rebase (n.sliceQ.getD j.val []) (own.2.getD j.val [])) s
    s.modP fun p => { p with rebase := false }
  | _, _, _ => s.modP fun p => { p with rebase := false }

/-- Ring entries of frame F or earlier are freed unsent (R422). -/
def State.shadowFree (s : State) (f : FrameNo) : State :=
  let gone (u : Unsent) : Bool := decide (u.sel < 0x40000) && decide (u.frame ≤ f)
  let out := s.rings.unsent.filter gone
  let s := out.foldl (fun s u =>
    let d := s.desc u.sel
    s.setDesc u.sel { d with tail := (u.slot + u.slots) % d.modulus }) s
  let s := { s with rings := { s.rings with unsent := s.rings.unsent.filter fun u => !gone u } }
  s.bumpBy (adr pPAIR 0x15) out.length

/-- Programs held for the START frame are admitted for the frame that begins (02 R22, R28, R36). -/
def State.releaseHeld (s : State) : State :=
  s.allG fun g =>
    let slots := vmap (fun sl : Slot =>
      if sl.start && sl.st != .empty then { sl with start := false, cur := true } else sl) g.slots
    let g := { g with slots := slots }
    { g with due := g.dueList }

/-- Whether a claim is made at this tick (R415). A tick at which a START is due is RUN's (log entry 60). -/
def State.claims (s : State) : Bool :=
  let recent : Bool := match s.pair.id0 with
    | some n => decide (n ≤ 2)
    | none => false
  s.mode == .configure && !s.pair.id && !s.pair.ownIn && decide (3 ≤ s.pair.ownLow) && !s.pair.released &&
    !s.pair.ownOut && !recent && s.esc.startAt != some s.esc.frame

/-- Whether MIRROR is entered at this tick (R421); a START due at the tick leaves CONFIGURE instead (log entry 60). -/
def State.entersMirror (s : State) : Bool :=
  s.mode == .configure && s.pair.en && !s.pair.ownOut && s.pair.ownIn && s.modes.compat && s.pair.reason == 0 &&
    s.pair.gotSnap && decide (2 ≤ s.pair.okRun) && s.esc.startAt != some s.esc.frame

/-- MIRROR is entered: the programs held run, armed waveform sources return to IDLE (08 R232), relays and
sequencers follow the last snapshot (R421, R422). -/
def State.enterMirror (s : State) : State :=
  let s := { s with modes := { s.modes with cfg := .idle, factory := false }, esc := { s.esc with startAt := none } }
  let s := ((s.enterMode .mirror).event pPAIR 0).releaseHeld
  let s := s.eachG fun s g => if (s.grp g).wav.st = .armed then s.wavIdle g else s
  match s.pair.snap with
  | some n => s.follow n
  | none => s

/-- The frame that ends had no heartbeat (R418). -/
def State.heartbeatMiss (s : State) : State :=
  if s.pair.hbNow then s.modP fun p => { p with hbNow := false }
  else (s.modP fun p => { p with miss := min 15 (p.miss + 1) }).bump (adr pPAIR 0x11)

/-- The ticks of OWN_IN at each level, and those since each PAIR_ID was shown. -/
def Pair.count (p : Pair) : Pair :=
  { p with ownLow := if p.ownIn then 0 else min 3 (p.ownLow + 1),
           ownHigh := if p.ownIn then min 2 (p.ownHigh + 1) else 0,
           id0 := p.id0.map (fun n => min 3 (n + 1)), id1 := p.id1.map (fun n => min 3 (n + 1)) }

/-- A mirror whose owner has gone silent and still owns is STUCK (R426). -/
def State.pairStuck (s : State) : State :=
  if s.mode == .mirror && decide (3 ≤ s.pair.miss) && s.pair.ownIn && !s.pair.stuck then
    ((s.modP fun p => { p with stuck := true }).event pPAIR 2).raise srcPAIR kPAIR_STUCK 0
  else s

/-- This unit's own values at a latch tick; a snapshot that has not come since the last one ends the run of R421. -/
def State.ownLatch (s : State) : State :=
  s.modP fun p =>
    { p with okRun := if p.gotSnap then p.okRun else 0, gotSnap := false,
             latch := some (s.esc.frame, s.groups.toList.map Group.sliceOf) }

/-- The pair block at a tick; the frame number is the new frame's and the tick images are taken (R415 to R430). The ticks of
OWN_IN count with EN clear too. -/
def State.pairTick (s : State) : State :=
  let s := s.modP Pair.count
  if s.pair.en = false then s
  else
    let s := s.heartbeatMiss.pairJudge
    let s := s.modP fun p => if p.hbStop && decide (2 ≤ p.ownHigh) then { p with hbStop := false } else p
    let s := s.modP fun p => { p with hbOut := none }
    let s := if s.beats then s.modP fun p => { p with hbOut := some s.ownHeartbeat } else s
    let latches := s.esc.frame.toNat % s.divEff == 0
    let s := if s.pair.ownOut then
        (let s := if latches then s.latchSnapshot else s
         s.readSnapshots s.pair.snapWait) else s
    let s := s.mirrorRebase.pairStuck
    let s : State := match s.mode, s.pair.snap with
      | .mirror, some n => s.shadowFree n.frontier
      | _, _ => s
    let s := if s.claims then (s.modP fun p => { p with ownOut := true }).entryHiz
      else if s.entersMirror then s.enterMirror else s
    if latches && !s.pair.ownOut then s.ownLatch else s

/-! ## Takeover (R423 to R425) -/

/-- A LIMIT latch bit taken from the owner (R424). -/
def Comparator.mirrorLimit (c : Comparator) (on : Bool) : Comparator :=
  if on then { c with latch := true, limit := true } else c

/-- Root cycles from a takeover's tick to the arrival of the restored output at the stage: 16 SEQ cycles and 20 ns (R425). -/
def restoreDelay : Nat := 16 * 16 + linkDelay

/-- A channel takes the owner's output: clamps, levels and OUT_SEL from its own CPM by the operation of a LEVEL_LOAD, a mirrored
LIMIT trip keeping it disconnected; stage state, range, code and link follow when they reach the stage (R424, R425). -/
def State.takeChannel (s : State) (g : GroupIx) (l : LaneIx) (c : ChannelSnap) : State :=
  let s := s.modFe g l fun fe =>
    { fe with outSel := false, hi := fe.hi.mirrorLimit c.limitHi, lo := fe.lo.mirrorLimit c.limitLo }
  let s := s.levelLane g l 0x1F
  let s := s.modFe g l fun fe =>
    if fe.limitHeld then { (fe.hiz.driverOff.settle s.rootNow) with action := .disconnect }
    else { fe.settle s.rootNow with action := .none }
  s.modG g fun gr => { gr with sends := gr.sends ++ [⟨s.rootNow + restoreDelay, l, .restore c⟩] }

/-- A quad after a takeover: one whose owner program is not admitted pauses; the others go on as they stand, a
successor of an ENDING one starting at the first boundary (R165, R174, R424). -/
def State.takeQuad (s : State) (g : GroupIx) (j : QuadIx) : State :=
  let q := s.quad g j
  if q.counts then
    if s.quadAdmitted g j then s.modQ g j fun q => { q with due := q.st == .ending && q.succ.isSome, wait := false }
    else (s.modQ g j fun q => { q with
      st := .paused, wait := false, due := false,
      stats := q.stats.set 15 (q.stats[15] ||| 0x01000000#32) }).restQuad g j
  else s

/-- A takeover from the last complete snapshot (R424). -/
def State.takeOver (s : State) (n : Snapshot) : State :=
  let s := s.modP fun p => { p with ownOut := true, stuck := false, takeAt := some s.esc.frame }
  let s := s.followQuads n
  let s := s.eachG fun s g =>
    if (s.grp g).failed then s
    else (below 16).foldl (fun s l =>
      match snapChan n g l with
      | some c => s.takeChannel g l c
      | none => s) s
  let s := { s with esc := { s.esc with startAt := none, stopAt := none }, modes := { s.modes with recover := false } }
  let s := s.leaveLines.enterMode .run
  s.eachG fun s g => (below 4).foldl (fun s j => s.takeQuad g j) s

/-- At a tick in MIRROR with MISS at 3 or more and OWN_IN low since the tick two frames earlier (R423). -/
def execTakeover (s : State) : Host.Outcome State Fault Refusal := .next <|
  if s.rootRuns = true ∧ s.pair.en = true ∧ s.mode = .mirror ∧ 3 ≤ s.pair.miss ∧ s.pair.ownIn = false ∧ 3 ≤ s.pair.ownLow ∧
      s.lockWindow = true then
    match s.pair.snap with
    | some n => s.takeOver n
    | none => s
  else s

/-- By tick k + 2 the takeover completes (R425). -/
def execTakeoverComplete (s : State) : Host.Outcome State Fault Refusal := .next <|
  if s.pair.takeAt.isSome then
    let s := s.modP fun p => { p with takeAt := none }
    ((s.event pPAIR 1).raise srcPAIR kPAIR_TAKEOVER 0).bump (adr pPAIR 0x14)
  else s

/-! ## Conflict (R428) -/

/-- A conflict of ownership is resolved by PAIR_ID (R428); a unit that loses OWN_OUT drops its outputs, in SAFE too (R414). -/
def State.resolveConflict (s : State) : State :=
  let shown : Bool := match s.pair.id1 with
    | some n => decide (n ≤ 2)
    | none => false
  if s.pair.en && s.pair.ownOut && (s.pair.id || !shown) then
    (s.modP fun p => { p with ownOut := false }).dropOutputs.enterSafe causeFAULT
  else s

/-- OWN_IN has been high for 1 µs while this unit asserts OWN_OUT (R428). -/
def execOwnConflict (s : State) : Host.Outcome State Fault Refusal := .next <|
  if s.pair.en = true ∧ s.pair.ownOut = true ∧ s.pair.ownIn = true then
    ((s.raiseActed srcPAIR kOWN_CONFLICT 0).event pPAIR 4).resolveConflict
  else s

/-! ## PAIR.STATE (R431) -/

/-- STATE code (R421, R426, R429, R431). -/
def State.pairCode (s : State) : Nat :=
  let p := s.pair
  if p.en = false then 0
  else if p.ownOut then
    (if p.reason = 0 ∧ (p.partner.map fun h => h.mirror) = some true then 6 else 7)
  else if p.stuck then 5
  else if s.mode = .mirror then 4
  else if p.reason ≠ 0 then 2
  else if p.ownIn then 3
  else 1

/-- `PAIR.STATE`. -/
def State.pairView (s : State) : Word :=
  let p := s.pair
  BitVec.ofNat 32 (s.pairCode + p.reason.toNat <<< 4 + b2n p.ownOut <<< 8 + b2n p.ownIn <<< 9 + b2n p.id <<< 10 +
    b2n p.released <<< 11 + p.miss <<< 12 + s.divEff <<< 16)

end Sys2Proof.Machine
end

