-- ==== Sys2Proof/Machine/Collector.lean ====
section
/-! DEFINITION. The fault collector (18 R432 to R443): severity, order, the log, the first fault, FAULT_n, injection. -/

namespace Sys2Proof.Machine

open Sys2Proof

/-! ## Fields of a message (R432) -/

/-- SOURCE of a message. -/
def Msg.src (m : Msg) : Nat := fld m.word 22 10

/-- KIND of a message. -/
def Msg.kind (m : Msg) : Nat := fld m.word 16 6

/-- ADDR of a message. -/
def Msg.addr (m : Msg) : Nat := fld m.word 0 16

/-! ## Severity (R435) -/

/-- Severity words at reset: 2 for every source, 4 for ESTOP. -/
def sevReset (k : Nat) : Word := if k = 0 then 0x22222224 else 0x22222222

/-- A severity word. -/
def State.sevWord (s : State) (k : Nat) : Word := tget (sevReset k) s.flt.sev k

/-- Severity of a source; ESTOP has 4. -/
def State.sevOf (s : State) (src : Nat) : Nat :=
  if src = srcESTOP then 4 else min 4 (fld (s.sevWord (src / 8)) (4 * (src % 8)) 3)

/-- Cap of a kind. -/
def State.capOf (s : State) (kind : Nat) : Nat :=
  min 4 (fld (s.reg (adr pFLT (0x17 + kind / 8))) (4 * (kind % 8)) 3)

/-- Effective severity. -/
def State.severity (s : State) (m : Msg) : Nat := min (s.sevOf m.src) (s.capOf m.kind)

/-- A posted write of SEV_DATA: the reserved bits stay 0, and source ESTOP stays 4 (R435, R453). -/
def State.sevWrite (s : State) (v : Word) : State :=
  if s.busy pFLT then s.loseWrite pFLT
  else
    let k := s.regF (adr pFLT 0x15) 0 7
    let v := v &&& 0x77777777#32
    let v := if k = 0 then putFld v 0 4 4 else v
    let s := s.stepAdr pFLT 0x15 128
    ({ s with flt := { s.flt with sev := tset (sevReset k) s.flt.sev k v } }).post pFLT

/-- A read of SEV_DATA returns the word and steps SEV_SEL (R453, 19 R472). -/
def State.sevDataRead (s : State) : State :=
  (s.stepAdr pFLT 0x15 128).answer (s.sevWord (s.regF (adr pFLT 0x15) 0 7))

/-- A read of SEV_DATA; it waits while BUSY is set (19 R478). -/
def execSevDataRead (s : State) : Host.Outcome State Fault Refusal := .next (if s.busy pFLT then s else s.sevDataRead)

/-! ## Arrivals (R436 to R440) -/

/-- What one CORE cycle brings: the head of every source queue and the injected message written first (R443), with the effective
severity. -/
def State.arrivals (s : State) : List (Nat × Msg) :=
  (s.flt.queues.filterMap (fun q => q.2.head?) ++ s.flt.injected.take 1).map fun m => (s.severity m, m)

/-- The queues after their heads have gone, and the injected messages after the first. -/
def State.takeHeads (s : State) : State :=
  { s with flt := { s.flt with
      queues := (s.flt.queues.map fun q => (q.1, q.2.tail)).filter fun q => !q.2.isEmpty
      injected := s.flt.injected.drop 1 } }

/-- The order of R438: severity falling, then SOURCE rising; messages of equal rank keep their place. -/
def insertMsg (m : Nat × Msg) : List (Nat × Msg) → List (Nat × Msg)
  | [] => [m]
  | x :: r => if m.1 > x.1 || (m.1 == x.1 && decide (m.2.src < x.2.src)) then m :: x :: r else x :: insertMsg m r

/-- The messages of a cycle in order. -/
def orderMsgs (l : List (Nat × Msg)) : List (Nat × Msg) := l.foldl (fun acc m => insertMsg m acc) []

/-- Sequence number after n: from 1 to 0x7FFFFFFF (R439). -/
def nextLogSeq (n : BitVec 31) : BitVec 31 := if n = 0x7FFFFFFF then 1 else n + 1

/-- The FAULT_n pulse timer starts or restarts (R442). -/
def State.startPulse (s : State) : State := { s with flt := { s.flt with pulse := true } }

/-- One message enters the log; it may latch the first fault and notify (R436, R439, R440). -/
def State.logMsg (s : State) (sev : Nat) (m : Msg) : State :=
  let n := nextLogSeq s.flt.logSeq
  let loss := s.flt.loss.contains m.src
  let info : Word := BitVec.ofNat 32 (s.esc.pos.toNat + sev <<< 28)
  let frame : Word := s.esc.frame.setWidth 32
  let i := n.toNat % 256
  let words : List Word := [m.word, frame, info ||| (if m.inj then 0x80000000#32 else 0),
    BitVec.ofNat 32 (n.toNat + b2n loss <<< 31)]
  let over_ := tget ([0, 0, 0, 0] : List Word) s.flt.log i != [0, 0, 0, 0]
  let first := !bit (s.flt.first.getD 1 0) 31
  let s := { s with flt := { s.flt with
      logSeq := n, loss := s.flt.loss.filter (· != m.src), log := tset [0, 0, 0, 0] s.flt.log i words,
      first := if first then [m.word, info ||| 0x80000000#32, frame, n.setWidth 32] else s.flt.first } }
  let s := if over_ then (s.bump (adr pFLT 0x13)).event pFLT 3 else s
  let s := if first then s.event pFLT 1 else s
  if 2 ≤ sev then (s.event pFLT 0).startPulse else s

/-- Groups that GROUP_STOP stops (R433). -/
def State.msgGroups (s : State) (m : Msg) : List GroupIx :=
  let c := m.src
  if c = srcTHM then (if 1 ≤ m.addr ∧ m.addr ≤ 4 then (below 64).filter fun g => g.val / 16 + 1 == m.addr else [])
  else if c = srcRING then (if m.addr = 0 then [] else [groupOf m.addr])
  else if c = srcWEAR then [groupOf m.addr]
  else if 0x010 ≤ c ∧ c ≤ 0x013 then (below 64).filter fun g => g.val / 16 + 0x010 == c
  else if 0x040 ≤ c ∧ c ≤ 0x07F then [⟨(c - 0x040) % 64, Nat.mod_lt _ (by decide)⟩]
  else if 0x080 ≤ c ∧ c ≤ 0x08F then [s.ownerOf ⟨(c - 0x080) % 16, Nat.mod_lt _ (by decide)⟩]
  else if 0x0C0 ≤ c ∧ c ≤ 0x0FF then [⟨(c - 0x0C0) % 64, Nat.mod_lt _ (by decide)⟩]
  else []

/-- Whether a kind stops its group whatever the severity (R434). -/
def stopsGroup (kind : Nat) : Bool := decide (1 ≤ kind) && decide (kind ≤ 9)

/-- SAFE cause that a kind takes whatever the severity (R434, R451). -/
def State.fixedCause (s : State) (kind : Nat) : Option Nat :=
  if kind = kROOT_LOSS then some causeROOT
  else if kind = kDUAL_CLOCK_LOSS then some causeDUAL
  else if kind = kMC_PARITY then some causeMC
  else if kind = kESTOP then some causeESTOP
  else if kind = kTHM_CRITICAL then some causeTHERMAL
  else if kind = kSENSOR_FAIL then (if s.thm.allFailed then some causeTHERMAL else none)
  else none

/-- The action a kind takes whatever the severity, unless the block that raised it has taken it there and then (R437, R441). -/
def State.fixedAction (s : State) (m : Msg) : State :=
  if m.acted then s
  else if stopsGroup m.kind then (s.msgGroups m).foldl (fun s g => s.groupActions g m.kind m.addr) s
  else if m.kind = kOWN_CONFLICT then s.resolveConflict
  else match s.fixedCause m.kind with
    | some c => s.enterSafe c
    | none => s

/-- What a message's effective severity does beyond the log (R436, R437). -/
def State.severityAction (s : State) (sev : Nat) (m : Msg) : State :=
  if sev = 3 then
    (if stopsGroup m.kind then s else (s.msgGroups m).foldl (fun s g => s.groupActions g m.kind m.addr) s)
  else if sev = 4 then (if (s.fixedCause m.kind).isSome then s else s.enterSafe causeFAULT)
  else s

/-- One CORE cycle of the collector: the log first, then the actions; with them the cycle of causes that arose together with the
root lost is over (R438, 14 R354). -/
def State.collect (s : State) : State :=
  if s.clk.gated then s
  else
    let l := orderMsgs s.arrivals
    let s := s.takeHeads
    let s := l.foldl (fun s m => if m.1 = 0 then s else s.logMsg m.1 m.2) s
    let s := l.foldl (fun s m => (s.fixedAction m.2).severityAction m.1 m.2) s
    { s with modes := { s.modes with causeOpen := false } }

/-- Messages reach the collector. -/
def execFaultMessage (s : State) : Host.Outcome State Fault Refusal := .next s.collect

/-! ## FAULT_n (R442) -/

/-- Whether FAULT_n is driven low: `FLT.PIN.LOW`. -/
def State.faultLow (s : State) : Bool := s.flt.holdLow || s.flt.pulse || s.regB (adr pFLT 0x20) 0

/-- The pulse timer ends; it does not run while no clock does (13 R325). -/
def execFaultPulseEnd (s : State) : Host.Outcome State Fault Refusal := .next <|
  if s.clk.gated then s else { s with flt := { s.flt with pulse := false } }

/-- A write of `FLT.PIN`. -/
def execFaultPinAssert (v : Word) (s : State) : Host.Outcome State Fault Refusal :=
  .next (s.setReg (adr pFLT 0x20) (v &&& 1#32))

/-! ## The latch and the log (R439, R440) -/

/-- A write of FIRST_CLR: VALID and CLR_STALE clear where SEQ is the newest, else CLR_STALE sets (R440, 19 R460). -/
def State.firstClear (s : State) (v : Word) : State :=
  if fld v 0 31 = s.flt.logSeq.toNat then
    let f := s.flt.first
    let s := s.modHdr pFLT fun h => { h with stale := false }
    { s with flt := { s.flt with first := [f.getD 0 0, f.getD 1 0 &&& 0x7FFFFFFF#32, f.getD 2 0, f.getD 3 0] } }
  else s.modHdr pFLT fun h => { h with stale := true }

/-- A write of FIRST_CLR. -/
def execFirstClr (v : Word) (s : State) : Host.Outcome State Fault Refusal := .next (s.firstClear v)

/-- A read of LOG_DATA0 loads the entry at LOG_SEL (R439). -/
def State.logLoad (s : State) : State :=
  let ws := tget ([0, 0, 0, 0] : List Word) s.flt.log (s.regF (adr pFLT 0x0E) 0 8)
  ({ s with flt := { s.flt with loaded := ws } }).answer (ws.getD 0 0)

/-- A read of LOG_DATA0. -/
def execLogLoad (s : State) : Host.Outcome State Fault Refusal := .next s.logLoad

/-- A read of LOG_DATA3 returns the loaded word and steps LOG_SEL (R439). -/
def State.logStepRead (s : State) : State :=
  (s.stepAdr pFLT 0x0E 256).answer (s.flt.loaded.getD 3 0)

/-- A read of LOG_DATA3. -/
def execLogStepRead (s : State) : Host.Outcome State Fault Refusal := .next s.logStepRead

/-! ## Injection (R443) -/

/-- A write of INJ_MSG: in FACTORY with permission bit 0, a message of the named source for the collector's next cycle; it does
not pass through that source's queue. -/
def State.injectMsg (s : State) (v : Word) : State :=
  if s.permits 0 then
    let m : Msg := { word := v, inj := true }
    ({ s with flt := { s.flt with injected := s.flt.injected ++ [m] } }).event pFLT 4
  else s.refuse pFLT

/-- A write of INJ_MSG. -/
def execInjMsg (v : Word) (s : State) : Host.Outcome State Fault Refusal := .next (s.injectMsg v)

/-- A write of INJ_MEM: in FACTORY with permission bit 0. -/
def State.injectMem (s : State) (v : Word) : State :=
  if s.permits 0 then s.setReg (adr pFLT 0x22) (v &&& 0xFFF3#32) else s.refuse pFLT

/-- A write of INJ_MEM. -/
def execInjMem (v : Word) (s : State) : Host.Outcome State Fault Refusal := .next (s.injectMem v)

end Sys2Proof.Machine
end

