-- ==== Sys2Proof/Machine/Escapement.lean ====
section
/-! DEFINITION. The escapement (02): arms and their checks, the admission cut-off, the tick and what the lock window
holds, the frame length and the shares. -/

namespace Sys2Proof.Machine

open Sys2Proof

/-! ## Writes (R19, R20, R40, R44) -/

/-- Whether any group holds an armed program. DESIGN CHOICE (log entry 73): a program disarmed after the cut-off, which must
run once more although its slot is empty, counts as held. -/
def State.armHeld (s : State) : Bool :=
  s.groups.toList.any fun g => (below 8).any fun i => (g.slots[i]).st != .empty || (g.leaving[i]).isSome

/-- A write of FRAME_LEN (R19, R20). -/
def State.frameLenWrite (s : State) (v : Word) : State :=
  let n := fld v 0 28
  if s.mode = .configure ∧ s.armHeld = false ∧ 400 ≤ n ∧ n ≤ 200000000 then
    s.setReg (adr pESC 0x08) (BitVec.ofNat 32 n)
  else (s.refuse pESC).event pESC 0

/-- A write of FRAME_LEN. -/
def execFrameLenWrite (v : Word) (s : State) : Host.Outcome State Fault Refusal := .next (s.frameLenWrite v)

/-- Address of a share register (R40). -/
def shareAdr (x c : Nat) : Nat := adr pFUS (0x08 + 8 * x + c)

/-- A write of a share: at most 1,024, and the resource's shares together too (R40, R46). -/
def State.shareWrite (s : State) (x : Fin 4) (c : ClassIx) (v : Word) : State :=
  let n := fld v 0 11
  let others := (List.range 8).foldl (fun t k => if k = c.val then t else t + (s.reg (shareAdr x.val k)).toNat) 0
  if n + others ≤ 1024 then s.setReg (shareAdr x.val c.val) (BitVec.ofNat 32 n)
  else (s.refuse pFUS).event pFUS 0

/-- A write of a share. -/
def execShareWrite (x : Fin 4) (c : ClassIx) (v : Word) (s : State) : Host.Outcome State Fault Refusal :=
  .next (s.shareWrite x c v)

/-- A write of FUS.THROTTLE (R44). -/
def execHostStepWrite (v : Word) (s : State) : Host.Outcome State Fault Refusal :=
  .next (s.setReg (adr pFUS 0x29) (v &&& 7#32))

/-- The header at an entry of a group's store; none where a parity bit of its word is wrong. -/
def State.header (s : State) (g : GroupIx) (entry : Nat) : Option (Slot × Nat) :=
  if s.ucBad g entry then none else headerOf entry (ucBits (s.uc g entry))

/-! ## Sums and budgets (R33) -/

/-- Frame an arm is for: the next one, the one after it, or the START frame (R28). -/
inductive Target where
  | next | after | start
  deriving DecidableEq, Repr

/-- Whether a slot's program counts as admitted for a target (R33, R35): a REPEAT program runs in every frame from
its first on, and one held for the START frame in the frame after it too. DESIGN CHOICE (log entry 74): a REPEAT program
counts for a frame whose cut-off has not come. -/
def Slot.counts (sl : Slot) (t : Target) : Bool :=
  let rep := sl.st == .repeat
  sl.st != .empty &&
    match t with
    | .start => sl.start
    | .next => sl.next || (rep && sl.cur)
    | .after => sl.after || (rep && (sl.cur || sl.next || sl.start))

/-- The declarations of a list of programs, summed: W, A, S, D. -/
def sums (l : List Slot) : Nat × Nat × Nat × Nat :=
  l.foldl (fun t p => (t.1 + p.w.toNat, t.2.1 + p.a.toNat, t.2.2.1 + p.s.toNat, t.2.2.2 + p.d.toNat)) (0, 0, 0, 0)

/-- The programs of a group admitted for a target. -/
def Group.admittedFor (g : Group) (t : Target) : List Slot :=
  let held := (below 8).filterMap fun i => if (g.slots[i]).counts t then some g.slots[i] else none
  match t with
  | .next => held ++ (below 8).filterMap fun i => (g.leaving[i]).bind fun p => if p.next then some p else none
  | .after => held
  | .start => held

/-- First of the checks 6 to 9 that programs fail in their group, with the record bytes of the whole unit; 0 where all
pass (R33, R34). -/
def State.budgetReason (s : State) (l : List Slot) (dUnit : Nat) : Nat :=
  let t := sums l
  if s.budget 0 0 < t.1 then 1
  else if s.budget 1 0 < t.2.1 then 2
  else if 4 * s.budget 2 0 < 4 * t.2.2.1 + t.2.2.2 then 3
  else if s.budget 3 2 < (dUnit * 33 + 31) / 32 ∨ 4 * s.unitStore 2 < dUnit then 4
  else 0

/-- Record bytes of all programs admitted to the unit for a target. -/
def State.unitBytes (s : State) (t : Target) : Nat :=
  s.groups.toList.foldl (fun n g => n + (sums (g.admittedFor t)).2.2.2) 0

/-! ## Arms (R27 to R34) -/

/-- The target of a latched arm as its check sees it (R23, R28). -/
def State.targetOf (s : State) (a : ArmReq) : Target :=
  let closed := a.late && s.esc.startAt == some (s.esc.frame + 1)
  if s.mode == .configure && !closed then .start else if a.late then .after else .next

/-- Bits of TARGET that ARM_STATUS shows for a target (R47). -/
def State.targetBits (s : State) (t : Target) : Nat :=
  match t with
  | .next => s.esc.frame.toNat + 1
  | .after => s.esc.frame.toNat + 2
  | .start => match s.esc.startAt with
    | some m => m.toNat
    | none => 0

/-- A refusal or a drop is reported (R34). -/
def State.armRefused (s : State) (g : GroupIx) (t : Target) (slot : Nat) (reason : Nat) : State :=
  let s := s.armStatus g (s.targetBits t) (t == .start) slot reason
  let s := (s.bump (adr pESC 0x0E)).event pESC 2
  s.groupEvent g 0 1 reason (BitVec.ofNat 32 slot)

/-- A slot set. -/
def State.setSlot (s : State) (g : GroupIx) (i : Fin 8) (sl : Slot) : State :=
  s.modG g fun gr => { gr with slots := gr.slots.set i.val sl i.isLt }

/-- The checks of an arm in their order: the reason, and the program where the header is intact (R33). A unit that is not
qualified refuses every arm that reaches the check FEATURE (14 R347). -/
def State.armCheck (s : State) (g : GroupIx) (a : ArmReq) (t : Target) : Nat × Slot :=
  let gr := s.grp g
  if s.mode ≠ .configure ∧ s.mode ≠ .run ∧ s.mode ≠ .mirror then (7, {})
  else if gr.gstop then (8, {})
  else if (gr.slots[a.slot]).st ≠ .empty then (9, {})
  else match s.header g a.entry.toNat with
    | none => (5, {})
    | some (p, feature) =>
      if s.modes.compat = false ∨ s.regF (adr pUNIT 0x0C) 0 8 < feature then (6, {})
      else (s.budgetReason (p :: gr.admittedFor t) (p.d.toNat + s.unitBytes t), p)

/-- The oldest latched arm of a group is admitted or refused (R29, R33). -/
def State.admitArm (s : State) (g : GroupIx) : State :=
  match (s.grp g).arms with
  | [] => s
  | a :: rest =>
    let s := s.modG g fun gr => { gr with arms := rest }
    let t := s.targetOf a
    let bad := s.ucBad g a.entry.toNat
    let (r, p) := s.armCheck g a t
    let s := if r = 5 ∧ bad = true then s.parityError 0 a.entry.toNat else s
    if r = 0 then
      let s := s.setSlot g a.slot { p with st := if a.rep then .repeat else .once, start := t == .start,
                                           next := t == .next, after := t == .after }
      s.armStatus g (s.targetBits t) (t == .start) a.slot.val 0
    else s.armRefused g t a.slot.val r

/-- The escapement checks an arm. -/
def execArmAdmission (g : GroupIx) (s : State) : Host.Outcome State Fault Refusal := .next (s.admitArm g)

/-- A write of `GRP[g].CTRL` (20 R510). -/
def State.gstopClear (s : State) (g : GroupIx) (v : Word) : State :=
  if bit v 0 && !(s.grp g).failed then s.modG g fun gr => { gr with gstop := false } else s

/-- A write of GSTOP_CLR. -/
def execGstopClr (g : GroupIx) (v : Word) (s : State) : Host.Outcome State Fault Refusal := .next (s.gstopClear g v)

/-! ## The admission cut-off (R27, R35) -/

/-- A program is dropped at a cut-off (R35). -/
def State.dropProgram (s : State) (g : GroupIx) (t : Target) (i : Fin 8) : State :=
  (s.setSlot g i {}).armRefused g t i.val 0xA

/-- REPEAT programs of a group that stay for the next frame: dropped from the highest slot down until the rest fit. -/
def State.keepRepeats (s : State) (once : List Slot) (dOthers : Nat) : List (Fin 8 × Slot) → List (Fin 8)
  | [] => []
  | x :: rest =>
    let l := (x :: rest).reverse.map (·.2)
    if s.budgetReason (once ++ l) (dOthers + (sums l).2.2.2) = 0 then (x :: rest).map (·.1)
    else s.keepRepeats once dOthers rest

/-- REPEAT programs of a group that would run in the next frame, highest slot first. -/
def Group.repeats (g : Group) : List (Fin 8 × Slot) :=
  ((below 8).filterMap fun i =>
    let sl := g.slots[i]
    if sl.st == .repeat && (sl.cur || sl.next) then some (i, sl) else none).reverse

/-- ONCE programs of a group admitted for the next frame. -/
def Group.onces (g : Group) : List Slot :=
  (below 8).filterMap fun i => if (g.slots[i]).st == .once && (g.slots[i]).next then some g.slots[i] else none

/-- One group's re-check, programs dropped from the highest slot down; the number is the record bytes of the REPEAT programs
kept so far (R35). -/
def recheckGroup (dOnce : Nat) (acc : Nat × State) (g : GroupIx) : Nat × State :=
  let s := acc.2
  let gr := s.grp g
  let reps := gr.repeats
  let kept := s.keepRepeats gr.onces (dOnce + acc.1) reps
  let s := reps.foldl (fun s x =>
    if kept.contains x.1 then s.setSlot g x.1 { x.2 with next := true } else s.dropProgram g .next x.1) s
  let d := reps.foldl (fun n x => if kept.contains x.1 then n + x.2.d.toNat else n) acc.1
  (d, s)

/-- The REPEAT programs are checked again for the next frame (R35). DESIGN CHOICE (log entry 76): check 9 takes the groups
in ascending order, with the record bytes of every ONCE program counted first. -/
def State.recheckRepeats (s : State) : State :=
  let dOnce := s.groups.toList.foldl (fun n g => n + (sums g.onces).2.2.2) 0
  ((below 64).foldl (recheckGroup dOnce) (0, s)).2

/-- Programs of a group held for the START frame: the ONCE ones, then the REPEAT ones (R35). -/
def Group.startPrograms (g : Group) : List (Fin 8) :=
  let of (st : SlotState) : List (Fin 8) := (below 8).filter fun i => (g.slots[i]).st == st && (g.slots[i]).start
  of .once ++ of .repeat

/-- A program held for the START frame is checked as if armed anew; kept ones and their bytes go on (R35). -/
def startCheck (g : GroupIx) (acc : List Slot × Nat × State) (i : Fin 8) : List Slot × Nat × State :=
  let s := acc.2.2
  let sl := (s.grp g).slots[i]
  let s := if !(s.grp g).gstop && s.ucBad g sl.entry.toNat then s.parityError 0 sl.entry.toNat else s
  let ok : Bool :=
    !(s.grp g).gstop &&
      (match s.header g sl.entry.toNat with
       | none => false
       | some h => s.modes.compat && decide (h.2 ≤ s.regF (adr pUNIT 0x0C) 0 8)) &&
      s.budgetReason (acc.1 ++ [sl]) (acc.2.1 + sl.d.toNat) == 0
  if ok then (acc.1 ++ [sl], acc.2.1 + sl.d.toNat, s) else (acc.1, acc.2.1, s.dropProgram g .start i)

/-- The cut-off before a START frame (R35). -/
def State.recheckStart (s : State) : State :=
  ((below 64).foldl (fun (acc : Nat × State) g =>
    let r := (acc.2.grp g).startPrograms.foldl (startCheck g) (([] : List Slot), acc.1, acc.2)
    (r.2.1, r.2.2)) (0, s)).2

/-- The admission cut-off of this frame, and the quads' records of the drop window (R27, R35, 06 R182). -/
def State.cutoff (s : State) : State :=
  if s.rootRuns = false ∨ s.esc.cut = true ∨ modeCounts s.mode = false then s
  else
    let s := s.passTo s.cutAt
    let s := { s with esc := { s.esc with cut := true } }
    let s :=
      if s.mode = .run ∨ s.mode = .mirror then s.recheckRepeats
      else if s.mode = .configure ∧ s.esc.startAt = some (s.esc.frame + 1) then s.recheckStart
      else s
    s.eachG fun s g => (below 4).foldl (fun s j => s.quadRecord g j) s

/-- The admission cut-off. -/
def execAdmissionCutoff (s : State) : Host.Outcome State Fault Refusal := .next s.cutoff

/-- The cut-off of this frame is done where its cycle has passed (R27). -/
def State.cutDone (s : State) : State := if s.pastCut then s.cutoff else s

/-! ## Writes of ARM (R28, R29, R37) -/

/-- DISARM: the slot is emptied; after the cut-off its program runs once more in the next frame (R37). DESIGN CHOICE (log entry
121): TARGET and START_FRAME of ARM_STATUS stay as the last check left them. -/
def State.disarm (s : State) (g : GroupIx) (i : Fin 8) : State :=
  let sl := (s.grp g).slots[i]
  if sl.st = .empty then s
  else
    let due := sl.next || (sl.start && s.esc.startAt == some (s.esc.frame + 1))
    let s := if s.pastCut && due then
        s.modG g fun gr => { gr with leaving := gr.leaving.set i.val (some { sl with next := true, start := false, cur := false }) i.isLt }
      else s
    let a := adr (pGRP g) 0x09
    (s.setSlot g i {}).armStatus g (s.regF a 16 16) (s.regB a 8) i.val 0xB

/-- A posted write of `GRP[g].ARM` (R28, R29, R37, R47). ARM_STATUS keeps what the last check left until the next check is
done. DESIGN CHOICE (log entry 75): DONE never clears again. -/
def State.armWrite (s : State) (g : GroupIx) (v : Word) : State :=
  let i : Fin 8 := ⟨fld v 0 3, Nat.mod_lt _ (by decide)⟩
  if s.busy (pGRP g) then s.loseWrite (pGRP g)
  else
    let s := (s.cutDone).post (pGRP g)
    if bit v 5 then s.disarm g i
    else
      let r : ArmReq := { entry := BitVec.ofNat 12 (fld v 16 12), rep := bit v 4, slot := i, late := s.pastCut }
      s.modG g fun gr => { gr with arms := gr.arms ++ [r] }

/-- A write of `GRP[g].ARM` that arms. -/
def execGrpArm (g : GroupIx) (v : Word) (s : State) : Host.Outcome State Fault Refusal := .next (s.armWrite g v)

/-- A write of `GRP[g].ARM` with DISARM. -/
def execGrpDisarm (g : GroupIx) (v : Word) (s : State) : Host.Outcome State Fault Refusal :=
  .next (s.armWrite g (v ||| 0x20#32))

/-! ## The tick (R21, R25) -/

/-- Shares, the frame length, the drain reservation and the telemetry settings written before the tick are in force
(R20, R40, 16 R410, 12 R315). -/
def State.tickSettings (s : State) : State :=
  let share := (List.range 32).foldl (fun (t : Table (BitVec 11)) k =>
    tset (BitVec.ofNat 11 (shareReset.getD k 0)) t k ((s.reg (adr pFUS (0x08 + k))).setWidth 11)) []
  { s with fus := { s.fus with share := share, spent := [], starve := [], stops := [] },
           esc := { s.esc with len := (s.reg (adr pESC 0x08)).setWidth 28 },
           kl := { s.kl with drainRsv := s.reg (adr pKL 0x08), tx := [], blocks := [] },
           tel := { s.tel with ctrl := s.reg (adr pTEL 0x08), period := (s.reg (adr pTEL 0x09)).setWidth 24 } }

/-- A slot at a tick (R28, R35): `start` where the frame is the START frame. A ONCE program whose frame is over leaves. -/
def Slot.tick (start : Bool) (sl : Slot) : Slot :=
  if sl.st == .once && sl.cur && !(sl.next || sl.after || sl.start) then {}
  else if start && sl.start && sl.st != .empty then { sl with start := false, cur := true }
  else { sl with cur := sl.next, next := sl.after, after := false }

/-- The programs of a group at a tick: slots, those disarmed late, the list to release, arms that came late (R27, R36,
R37). -/
def Group.tickSlots (start runs : Bool) (g : Group) : Group :=
  let slots := vmap (Slot.tick start) g.slots
  let leaving := vmap (fun (o : Option Slot) => o.bind fun (p : Slot) =>
    if p.next then some { p with cur := true, next := false } else none) g.leaving
  let g := { g with slots := slots, leaving := leaving, arms := g.arms.map fun (a : ArmReq) => { a with late := false } }
  { g with due := if runs && !g.gstop then g.dueList else [], nextAt := 64 }

/-- What a lane's conversions are at a tick: a CONTINUOUS one whose program is admitted goes on; every other conversion
and every pending start is abandoned, counted in the number; arms are disarmed (04 R88, R89, R92). -/
def Group.tickLane (acc : Group × Nat) (l : LaneIx) : Group × Nat :=
  let g := acc.1
  let m := (g.ch l).ms
  let sl := g.slice l
  let cont : Bool := match sl.job with
    | some j => j.continuous
    | none => false
  let keep : Bool := match sl.job with
    | some j => j.continuous && g.admitted j.prog
    | none => false
  let n := b2n (sl.job.isSome && !cont) + b2n sl.next.isSome + m.waitS.length + m.waitU.length + m.waitP.length
  let g := g.modC l fun c => { c with ms := { c.ms with waitS := [], waitU := [], waitP := [], pw := none } }
  let g := g.modSlice l fun sl => { sl with next := none }
  (if keep then g else g.modSlice l (Slice.finish false), acc.2 + n)

/-- The conversions of a group at a tick; an ARM_PW still on its way is an arm of the frame that ends (04 R89, R92). -/
def State.tickConversions (s : State) (g : GroupIx) : State :=
  let r := (below 16).foldl Group.tickLane (s.grp g, 0)
  let n := r.1.sends.filter fun x => !x.op.arms
  (List.range r.2).foldl (fun s _ => s.overrun g) (s.modG g fun _ => { r.1 with sends := n })

/-- CMP_LATCH bits of comparators with LATCH = 0 clear (03 R71, R73). -/
def State.tickLatches (s : State) (g : GroupIx) : State :=
  let gr := s.grp g
  let hi := maskOf fun l => (gr.ch l).fe.hi.latch && !(gr.ch l).fe.hi.swClear
  let lo := maskOf fun l => (gr.ch l).fe.lo.latch && !(gr.ch l).fe.lo.swClear
  if hi = 0 ∧ lo = 0 then s else s.clearAndMark g hi lo

/-- The background work of a group at a tick: tick images, a completed hold, the frames a hold lasts, the order of its
vendor routines, its waveform source (04 R102, 08 R231, 12 R298, R302). -/
def Group.tickRest (g : Group) : Group :=
  { g with
    chans := vmap (fun c => { c with ms := { c.ms with tickImg := c.ms.edgeImg } }) g.chans,
    holdFrames := if g.hold = 0 then 0 else g.holdFrames + 1, holdUsed := 0,
    holdRes := match g.heldLane with
      | some l => if 16 ≤ g.holdPts.length && g.holdEnd.isNone then some (l, g.holdPts) else g.holdRes
      | none => g.holdRes,
    vendorAt := 0, vendorStop := [], wav := g.wav.tick }

/-- The tick's time: the frame's remaining cycles pass, and the frame number steps in the modes that count (R21). Of the ticks
before it 330 stay on record, more than SKEW can reach back (13 R331). -/
def State.tickTime (s : State) : State :=
  let s := s.passTo s.frameCycles
  let f := if modeCounts s.mode then s.esc.frame + 1 else s.esc.frame
  { s with esc := { s.esc with
      ticks := ((s.esc.tickRoot.toNat, s.esc.frame) :: s.esc.ticks).take 330,
      frame := f, pos := 0, tickRoot := s.esc.root, cut := false, stretch := 0,
      stopAt := s.esc.stopAt.map fun n => n - 1,
      startAt := s.esc.startAt.bind fun m => if m < f then none else some m } }

/-- The arms of a group that came in time are checked: the check takes at most 64 cycles, and the cut-off lies 128 before
the tick (R29). -/
def State.admitInTime (s : State) (g : GroupIx) : State :=
  (s.grp g).arms.foldl (fun s a => if a.late then s else s.admitArm g) s

/-- The frame that ends is complete: its cut-off, the arms it was in time for (R27, R29). -/
def State.frameEnd (s : State) : State := s.cutoff.eachG State.admitInTime

/-- One group at the tick. -/
def State.tickGroup (s : State) (g : GroupIx) : State :=
  let start := s.runNow && s.mode == .configure
  let runs := s.runNow || s.mode == .mirror
  let s := (s.tbTick g).tickLatches g
  let s := s.modG g (Group.tickSlots start runs)
  let s := (s.tickConversions g).tdcTick g
  (s.modG g Group.tickRest).wavTick g

/-- The tick (R25). The master's TICK mark goes before every other packet of its own (16 R395); the trigger lines see the mode
that the tick leaves (10 R255). Staged coefficients take effect last: a hold that the tick aborts has none, by a STOP or by a
quad's start or resume (12 R302). DEDUCED (log entry 130): of an OK and an ABORT at one tick, ABORT is the ending. -/
def State.tick (s : State) : State :=
  if s.rootRuns = false ∨ s.mode = .reset then s
  else
    let s := s.writeBack.frameEnd.tickTime.tickSettings
    let s := s.tickMarkSend.retryWaiting.descRetry.publish
    let s := s.eachG State.tickGroup
    let s := s.streamTick
    let s := s.eachG fun s g => (below 4).foldl (fun s j => (s.quadTick g j).abortDue g j) s
    let s := if s.mode = .run ∧ s.runNow = false then s.eachG State.abortHolds else s
    let s := s.eachG State.coefTick
    s.syncTick.pairTick.lineTick

end Sys2Proof.Machine
end

