-- ==== Sys2Proof/Machine/Boot.lean ====
section
/-! DEFINITION. Power, RESET and BOOT (14 R340 to R351, 13 R319), and the master mode of the management port
(15 R381 to R384). -/

namespace Sys2Proof.Machine

open Sys2Proof

/-! ## RESET (R340, R341) -/

/-- Number of a supply. -/
def supplyIx : Supply → Fin 6
  | .vddCore => 0 | .vddLink => 1 | .vddIo => 2 | .vdda => 3 | .vpos => 4 | .vneg => 5

/-- A group in RESET: nothing but its relays remains, and those open (R341). -/
def Group.inReset (g : Group) : Group :=
  { chans := vmap (fun c : Channel =>
      let st : RelayState := match c.fe.relay.st with
        | .opened => .opened
        | .closing => .opening
        | .closed => .opening
        | .opening => .opening
      { fe := { relay := { st := st } } }) g.chans }

/-- A commit that RESET interrupts: copy A is whole under its CRC; of copy B some first words are rewritten, and its
CRC is the old one (R343, 20 R498). -/
def Nvm.interrupt (n : Nvm) (copied : Nat) : Nvm :=
  match n.commit with
  | none => { n with dirty := 0 }
  | some k =>
    let lo := (nvmRegions.getD k.val (0, 0)).1
    let into := n.b.filter fun p => decide (lo + copied ≤ p.1)
    let from_ := n.a.filter fun p => decide (p.1 < lo + copied)
    { n with b := copyRegion k.val (from_ ++ into) n.b, commit := none, dirty := 0 }

/-- Entry to RESET from any mode (R341). MRAM, the main SRAM's cells, the straps and the supplies remain. -/
def State.enterReset (s : State) : State :=
  let (n, s) := s.draw
  { State.reset with
    pending := s.pending, draws := s.draws, sram := { s.sram with back := [] }, nvm := s.nvm.interrupt (Config.commitCopied n),
    groups := vmap Group.inReset s.groups,
    modes := { mode := .reset, nonce := Config.nonce n },
    boot := { src := s.boot.src, supplies := s.boot.supplies, monitor := s.boot.monitor, rstRel := s.boot.rstRel },
    pair := { id := s.pair.id }, tap := s.tap }

/-- BOOT begins once the supply monitor and RST_n are both released (R340). -/
def State.startBoot (s : State) : State :=
  if s.mode = .reset ∧ s.boot.monitor = true ∧ s.boot.rstRel = true then
    { s with modes := { s.modes with mode := .boot }, boot := { s.boot with stage := 1 } }
  else s

/-- A supply reaches its range (21 R523). -/
def execSupplyRise (k : Supply) (s : State) : Host.Outcome State Fault Refusal :=
  .next { s with boot := { s.boot with supplies := s.boot.supplies.set (supplyIx k).val true (supplyIx k).isLt } }

/-- 1 ms after the last supply has reached its range (R340). -/
def execSupplyMonitorRelease (s : State) : Host.Outcome State Fault Refusal := .next <|
  if s.suppliesIn then ({ s with boot := { s.boot with monitor := true } }).startBoot else s

/-- A unit without any supply is unpowered: its RST_n receiver starts asserted at the next power-up, BOOT_SRC is to be sampled
again (R340), and the test access port is in reset (21 R519, R535). DESIGN CHOICE (log entry 111): the receiver keeps its
state while one supply is in range. -/
def State.powerDown (s : State) : State :=
  if s.boot.supplies.toList.any id then s else { s with boot := { s.boot with rstRel := false, src := 0 }, tap := {} }

/-- A supply has left its range for 1 µs (21 R523). -/
def execSupplyOutOfRange (k : Supply) (s : State) : Host.Outcome State Fault Refusal :=
  let s := { s with boot := { s.boot with monitor := false, supplies := s.boot.supplies.set (supplyIx k).val false (supplyIx k).isLt } }
  .next s.powerDown.enterReset

/-- A qualified assertion of RST_n (R341). -/
def execRstNAssert (s : State) : Host.Outcome State Fault Refusal :=
  .next ({ s with boot := { s.boot with rstRel := false } }).enterReset

/-- A qualified release of RST_n samples BOOT_SRC and PAIR_ID (R340, 17 R431); EXTEST ends with it (21 R535). -/
def execRstNRelease (bootSrc : BitVec 2) (pairId : Bool) (s : State) : Host.Outcome State Fault Refusal := .next <|
  if s.mode = .reset ∧ s.boot.rstRel = false then
    let s := { s with boot := { s.boot with rstRel := true, src := bootSrc }, pair := { s.pair with id := pairId },
                      tap := { s.tap with drive := false, bypass := s.tap.bypass || s.tap.drive } }
    s.startBoot
  else s

/-! ## Halting and stages (R342, R350) -/

/-- BOOT.TIME is measured (R351, R360). -/
def State.markTime (s : State) : State :=
  let (n, s) := s.draw
  s.setReg (adr pBOOT 0x0E) (Config.bootTime n)

/-- BOOT halts with a cause (R350). -/
def State.haltBoot (s : State) (cause : Nat) : State :=
  ({ s with boot := { s.boot with failed := true, cause := BitVec.ofNat 4 cause },
            msp := { s.msp with mastering := false } }).markTime

/-- Whether BOOT is in a stage, not halted, and clocked (13 R325). -/
def State.inStage (s : State) (n : Nat) : Bool :=
  s.mode == .boot && s.boot.stage.toNat == n && !s.boot.failed && !s.clk.gated

/-- The next stage. -/
def State.setStage (s : State) (n : Nat) : State := { s with boot := { s.boot with stage := BitVec.ofNat 3 n } }

/-! ## MRAM (R343, 20 R497) -/

/-- Whether a region's copy carries its own CRC. -/
def Nvm.goodA (n : Nvm) (k : Nat) : Bool := regionCrc n.a k == n.storedA k

/-- See `Nvm.goodA`. -/
def Nvm.goodB (n : Nvm) (k : Nat) : Bool := regionCrc n.b k == n.storedB k

/-- A region's copies at BOOT: one that fails its CRC is rewritten from the other (R343). -/
def State.repairRegion (s : State) (k : Nat) : State :=
  match s.nvm.goodA k, s.nvm.goodB k with
  | true, false =>
    ({ s with nvm := { s.nvm with
      b := copyRegion k s.nvm.a s.nvm.b
      crcB := tset (crcBlank k) s.nvm.crcB k (s.nvm.storedA k) } }).bump (adr pBOOT 0x10)
  | false, true =>
    ({ s with nvm := { s.nvm with
      a := copyRegion k s.nvm.b s.nvm.a
      crcA := tset (crcBlank k) s.nvm.crcA k (s.nvm.storedB k) } }).bump (adr pBOOT 0x10)
  | true, true => s
  | false, false => s

/-- A word of copy A. -/
def State.mram (s : State) (k : Nat) : Word := tget 0 s.nvm.a k

/-- A register loaded with a masked MRAM word. -/
def State.loadReg (s : State) (a k : Nat) (mask : Word) : State := s.setReg a (s.mram k &&& mask)

/-- What BOOT loads for a group: the DAC's codes and calibration, the records, the slices' trims (R342, 20 R497). -/
def State.loadGroup (n : Nat) (s : State) (g : GroupIx) : State :=
  let p := pWAV g
  let idle := (s.mram (0x100 + 2 * g.val)).setWidth 14
  let s := s.setReg (adr p 0x0F) ((idle : BitVec 14).setWidth 32 <<< 16)
  let s := s.loadReg (adr p 0x14) (0x101 + 2 * g.val) 0x3FFF
  let s := s.loadReg (adr p 0x13) (0x202 + g.val) 0xFFFFFFFF
  let rec_ (l : LaneIx) (i : Nat) : BitVec 64 := s.mram (0x1000 + 4 * chanNo g l + i + 1) ++ s.mram (0x1000 + 4 * chanNo g l + i)
  let s := s.modG g fun gr => { gr with
    wav := { gr.wav with out := idle, off := false },
    slices := Vector.ofFn fun i : Fin 17 => { gr.slices[i] with
      gain := Config.sliceGain n (17 * g.val + i.val), ofs := Config.sliceOffset n (17 * g.val + i.val) } }
  (below 16).foldl (fun s l =>
    let f := s.mram (0x2000 + 4 * chanNo g l + 2)
    s.modFe g l fun fe => { fe with
      puRec := rec_ l 0
      safeRec := rec_ l 2
      relay := { fe.relay with retA := bit f 0, retB := bit f 1 } }) s

/-- Retired beams of the whole unit (12 R306, R314). -/
def State.countRetired (s : State) : Nat :=
  s.nvm.a.foldl (fun n p =>
    if 0x2000 ≤ p.1 ∧ p.1 ≤ 0x2FFF ∧ p.1 % 4 = 2 then n + b2n (bit p.2 0) + b2n (bit p.2 1) else n) 0

/-- What BOOT loads from MRAM (R342, R343, 20 R482, R497): the RCO restarts on its trim. -/
def State.loadMram (s : State) : State :=
  let s := s.setReg (adr pUNIT 0x08) (0x10240000#32 ||| (s.mram 2 &&& 0xFF00#32))
  let s := s.loadReg (adr pUNIT 0x09) 3 0xFFFF
  let s := (s.loadReg (adr pUNIT 0x0A) 0 0xFFFFFFFF).loadReg (adr pUNIT 0x0B) 1 0xFFFFFFFF
  let s := (s.loadReg (adr pCLK 0x0A) 0xC0 0xFFFFFFFF).loadReg (adr pCLK 0x0C) 0xC1 0x1FFFF
  let s := s.loadReg (adr pMSP 0x0C) 0xC2 0xFF
  let s := (s.loadReg (adr pTHM 0x14) 0x200 0xFFFF).loadReg (adr pSYNC 0x11) 0x201 0xFFFF
  let s := s.setReg (adr pWEAR 0x0E) (BitVec.ofNat 32 s.countRetired)
  let s := (s.setHeld (adr pWEAR 0x09) (s.mram 0x2000)).setHeld (adr pWEAR 0x0A) (s.mram 0x2001)
  let (n, s) := s.draw
  let s := s.eachG (State.loadGroup n)
  let s := { s with modes := { s.modes with fuse := bit (s.mram 4) 0 }, boot := { s.boot with refWait := false } }
  s.rcoRestart

/-- Stage MRAM completes. -/
def execBootMram (s : State) : Host.Outcome State Fault Refusal := .next <|
  if s.inStage 1 then
    let found := s.nvm
    let s := (List.range 8).foldl State.repairRegion s
    if (List.range 8).all fun k => found.goodA k || found.goodB k then s.loadMram.setStage 2 else s.haltBoot 1
  else s

/-! ## CLOCK (R319, R342) -/

/-- Stage CLOCK completes: the domains move to the root and forwarding starts; BOOT_SRC 0b11 halts in stage IMAGE
(R344). -/
def execBootClock (s : State) : Host.Outcome State Fault Refusal := .next <|
  if s.inStage 2 && s.locked then
    let s := if s.clk.domRco then s.bump (adr pCLK 0x0E) else s
    let s := ({ s with clk := { s.clk with domRco := false, target := none }, kl := { s.kl with forward := true } }).setStage 3
    if s.boot.src = 3 then s.haltBoot 2 else s
  else s

/-! ## IMAGE (R344, R345) -/

/-- Byte of an image. -/
def imgByte (img : List Byte) (i : Nat) : Nat := (img.getD i 0).toNat

/-- Big-endian number of n bytes. -/
def imgNat (img : List Byte) (i n : Nat) : Nat := (List.range n).foldl (fun v k => 256 * v + imgByte img (i + k)) 0

/-- MC_WORDS. -/
def imgWords (img : List Byte) : Nat := imgNat img 0x0C 4

/-- Offset of the vendor region. -/
def imgVr (img : List Byte) : Nat := 0x80 + 4 * imgWords img

/-- Length of the whole image (R345). -/
def imgLen (img : List Byte) : Nat := imgVr img + 24576 + 64

/-- The requirements that the header alone can break (R345). -/
def imgHeaderOk (img : List Byte) : Bool :=
  imgNat img 0 4 == 0x4E56494D && decide (1 ≤ imgByte img 9) && decide (imgByte img 9 ≤ 8) && imgNat img 0x0A 2 == 0 &&
    decide (1 ≤ imgWords img) && decide (imgWords img ≤ 65536) && imgNat img 0x20 32 == 0 &&
    imgNat img (0x10 + 2 * imgByte img 9) (16 - 2 * imgByte img 9) == 0

/-- The requirements on the whole image (R345, 05 R153). -/
def imgOk (img : List Byte) : Bool :=
  imgHeaderOk img && imgNat img 6 2 == imgNat img (imgVr img) 2 && imgByte img 8 == imgByte img (imgVr img + 2)

/-- A copy fails: the secondary flash copy is read once, or BOOT halts (R344). -/
def State.imageFails (s : State) (cause : Nat) : State :=
  if s.boot.src = 0 ∧ s.boot.fallback = false then
    ({ s with boot := { s.boot with fallback := true, image := [] } }).setStage 3
  else s.haltBoot cause

/-- An image that has been read is checked for its format (R344, R345). -/
def State.imageRead (s : State) (img : List Byte) : State :=
  if imgOk img ∧ imgLen img ≤ img.length then
    ({ s with boot := { s.boot with image := img.take (imgLen img) }, msp := { s.msp with mastering := false } }).setStage 4
  else ({ s with msp := { s.msp with mastering := false } }).imageFails 4

/-- Flash byte address of the copy that the unit reads (R344). -/
def State.flashBase (s : State) : Nat := if s.boot.fallback then 0x00100000 else 0

/-- Stage IMAGE completes: from the flash, given by its bytes from address 0, once the bus is won; from MSP or Kwenlink once the
image is whole, or its header shows that it cannot be one (R344, R382). -/
def execBootImage (flash : List Byte) (s : State) : Host.Outcome State Fault Refusal := .next <|
  if s.inStage 3 then
    if s.boot.src = 0 then (if s.msp.mastering then s.imageRead (flash.drop s.flashBase) else s)
    else
      let img := s.boot.image
      if img.length < 0x80 then s
      else if imgHeaderOk img = false ∨ imgLen img ≤ img.length then s.imageRead img
      else s
  else s

/-- No byte within 2 s, on MSP or Kwenlink (R344). -/
def execBootImageTimeout (s : State) : Host.Outcome State Fault Refusal := .next <|
  if s.inStage 3 && (s.boot.src == 1 || s.boot.src == 2) then s.haltBoot 3 else s

/-- Image bytes arrive. -/
def State.appendImage (s : State) (l : List Byte) : State :=
  { s with boot := { s.boot with image := s.boot.image ++ l } }

/-- Whether the port takes raw frames for the image (15 R381). -/
def State.takesImage (s : State) : Bool := s.inStage 3 && s.boot.src == 1

/-- A raw frame in stage IMAGE with source MSP: accepted, and counted, at 8 to 8,192 bits in whole bytes (15 R381, R385). -/
def State.imageFrame (s : State) (bits : Nat) (bytes : List Byte) : State :=
  if s.takesImage && decide (8 ≤ bits) && decide (bits ≤ 8192) && bits % 8 == 0 && bytes.length * 8 == bits then
    (s.bump (adr pMSP 0x0E)).appendImage bytes
  else s

/-- A write of BOOT.IMG_DATA in stage IMAGE with source KWENLINK (R344). -/
def State.imgDataWrite (s : State) (v : Word) : State :=
  if s.inStage 3 && s.boot.src == 2 then s.appendImage (wordBytes v) else s

/-- A write of BOOT.IMG_DATA. -/
def execBootImgDataWrite (v : Word) (s : State) : Host.Outcome State Fault Refusal := .next (s.imgDataWrite v)

/-! ## VERIFY and LOAD (R346) -/

/-- Stage VERIFY: KEY, SIGNATURE. -/
def execBootVerify (s : State) : Host.Outcome State Fault Refusal := .next <|
  if s.inStage 4 then
    let img := s.boot.image
    let key := (img.drop 0x40).take 64
    let n := imgVr img + 24576
    if sha256 key ≠ s.nvmHash 0x40 then s.imageFails 5
    else if ecdsaP256 key (sha256 (img.take n)) ((img.drop n).take 64) then s.setStage 5
    else s.imageFails 6
  else s

/-- Vendor words of the group stores (R346). -/
def vendorStore (img : List Byte) : Table (BitVec 216) :=
  (List.range 1024).foldl (fun t i =>
    tset ucEndWord t (0xC00 + i) (ucWord (BitVec.ofNat 192 (imgNat img (imgVr img + 24 * i) 24)))) []

/-- Words of the MC store. -/
def mcStore (img : List Byte) : Table (BitVec 36) :=
  (List.range (imgWords img)).foldl (fun t i => tset (mcWord 0) t i (mcWord (BitVec.ofNat 32 (imgNat img (0x80 + 4 * i) 4)))) []

/-- Bytes and check symbols of the main store from a byte address on remain (07 R186). -/
def Sram.clearBelow (m : Sram) (a : Nat) : Sram :=
  { cells := m.cells.filter fun c => a ≤ c.1, check := m.check.filter fun c => a / 4 ≤ c.1 }

/-- Stage LOAD: the MC store, the group stores, the pattern store and the descriptors (R346, 05 R119). -/
def State.bootLoad (s : State) : State :=
  let img := s.boot.image
  let uc := vendorStore img
  let s := { s with
    stores := vmap (fun t : GroupStores => { t with uc := uc }) s.stores,
    mc := { store := mcStore img }, sram := s.sram.clearBelow 0x02000000,
    rings := { s.rings with desc := [], unsent := [] } }
  let s := s.setReg (adr pBOOT 0x09) (BitVec.ofNat 32 ((imgNat img 6 2) <<< 16 + imgNat img 4 2))
  s.setReg (adr pUNIT 0x0C) (BitVec.ofNat 32 ((imgByte img 8) <<< 8))

/-- Stage LOAD. -/
def execBootLoad (s : State) : Host.Outcome State Fault Refusal := .next <|
  if s.inStage 5 then s.bootLoad.setStage 6 else s

/-! ## COMPAT (R347) -/

/-- FEAT_MAX of the first qualified-version entry that matches. -/
def State.qualified (s : State) (hw : Nat) : Option Nat :=
  let match_ (e : Nat) : Bool :=
    let lo := s.mram (0x80 + 2 * e)
    let hi := s.mram (0x81 + 2 * e)
    fld lo 0 16 != 0 && fld lo 0 16 == hw && fld lo 16 16 == s.imgVer.toNat && fld hi 0 16 == s.vrVer.toNat
  ((List.range 32).find? match_).map fun e => fld (s.mram (0x81 + 2 * e)) 16 8

/-- Stage COMPAT: a combination that is not qualified raises COMPAT and BOOT goes on. -/
def State.bootCompat (s : State) : State :=
  let img := s.boot.image
  let hw := s.regF (adr pUNIT 0x09) 0 16
  let listed := (List.range (imgByte img 9)).any fun i => imgNat img (0x10 + 2 * i) 2 == hw
  let feat := s.regF (adr pUNIT 0x0C) 8 8
  let set (s : State) (n : Nat) : State := s.setReg (adr pUNIT 0x0C) (BitVec.ofNat 32 (feat <<< 8 + n))
  match listed, s.qualified hw with
  | true, some m => { set s (min m feat) with modes := { s.modes with compat := true } }
  | _, _ => (set s 0).raise srcMODE kCOMPAT 0

/-- Stage COMPAT. -/
def execBootCompat (s : State) : Host.Outcome State Fault Refusal := .next <|
  if s.inStage 6 then s.bootCompat.setStage 7 else s

/-! ## BIST (R348, R349) -/

/-- Failed items, item k in bit k. -/
def bistItems (r : BistResult) : Nat :=
  b2n r.sram + b2n r.desc <<< 1 + b2n (r.link != 0) <<< 2 + b2n (r.hs != 0) <<< 3 + b2n (r.store != 0) <<< 4 +
    b2n (r.cpm != 0) <<< 5 + b2n (r.step != 0) <<< 6 + b2n (r.slice != 0) <<< 7 + b2n (r.thr != 0) <<< 8 + b2n (r.wdac != 0) <<< 9

/-- Whether a group fails, by its own items or with its tile. -/
def groupFails (r : BistResult) (g : GroupIx) : Bool :=
  bit (r.store ||| r.cpm ||| r.step ||| r.slice ||| r.thr ||| r.wdac) g.val || bit (r.link ||| r.hs) (g.val / 16)

/-- What the self-test leaves of a unit that goes on: stores of zeros, failed groups stopped (R348, R349). -/
def State.bistLeaves (s : State) (r : BistResult) : State :=
  let s := { s with
    sram := {}, rings := { s.rings with desc := [], unsent := [] },
    stores := vmap (fun t : GroupStores =>
      { t with cpm := [], coef := [], tbl := [], mask := [], cpmBad := [], tblBad := [], cpmWas := [], tblWas := [] }) s.stores,
    boot := { s.boot with tileFail := r.link ||| r.hs, linkFail := r.link, hsFail := r.hs } }
  let mask : BitVec 64 := (below 64).foldl (fun m g => if groupFails r g then m ||| (1#64 <<< g.val) else m) 0
  let s := (s.setReg (adr pBOOT 0x0B) (mask.setWidth 32)).setReg (adr pBOOT 0x0C) (mask.extractLsb' 32 32)
  let s := s.setReg (adr pBOOT 0x0D) ((r.link ||| r.hs).setWidth 32)
  s.eachG fun s g => if groupFails r g then s.modG g fun gr => { gr with failed := true, gstop := true } else s

/-- BOOT completes: ENUMERATE, FAULT_n released, the rotations start at lane 0 (R342, R351, R352, 04 R105). -/
def State.bootDone (s : State) : State :=
  let s := { s with boot := { s.boot with done := true, image := [] }, flt := { s.flt with holdLow := false } }
  let s := if s.tbOn then s.allG fun g => if g.failed then g else g.tbShadow 0 else s
  (s.markTime).enterMode .enumerate

/-- Whether a word of a group's vendor region carries a wrong parity bit (R348 item 4). -/
def State.vendorBad (s : State) (g : GroupIx) : Bool :=
  (s.stores[g]).uc.any fun w => decide (0xC00 ≤ w.1) && s.ucBad g w.1

/-- The result of the self-test: items 3 and 4 fail too where the state itself shows it, an unlocked hairspring or a wrong parity
bit (R348). -/
def State.bistFound (s : State) (r : BistResult) : BistResult :=
  { r with
    hs := r.hs ||| (below 4).foldl (fun (m : BitVec 4) t => if s.clk.hs[t] then m else m ||| (1#4 <<< t.val)) 0
    store := r.store ||| (below 64).foldl (fun (m : BitVec 64) g => if s.vendorBad g then m ||| (1#64 <<< g.val) else m) 0 }

/-- Stage BIST: an SRAM or descriptor failure halts BOOT. -/
def execBootBist (r : BistResult) (s : State) : Host.Outcome State Fault Refusal := .next <|
  if s.inStage 7 then
    let r := s.bistFound r
    let s := s.setReg (adr pBOOT 0x0A) (BitVec.ofNat 32 (bistItems r))
    if r.sram || r.desc then s.haltBoot 7 else (s.bistLeaves r).bootDone
  else s

/-! ## Mastering the management bus (15 R382 to R384) -/

/-- Whether the unit is to master the bus (R382). -/
def State.masters (s : State) : Bool :=
  (s.inStage 3 && s.boot.src == 0) || (s.mode == .factory && s.regB (adr pMSP 0x08) 0)

/-- An arbitration, with the levels of SEL_n that the bus carried, first bit highest: lost where the unit released
SEL_n for a 1 and it was low (R383). -/
def execMasterArbitration (bus : BitVec 64) (s : State) : Host.Outcome State Fault Refusal := .next <|
  let own : BitVec 64 := s.reg (adr pUNIT 0x0B) ++ s.reg (adr pUNIT 0x0A)
  if s.masters && !s.msp.mastering then
    if own &&& ~~~bus == 0 then { s with msp := { s.msp with mastering := true, mmWait := false } }
    else ((({ s with msp := { s.msp with mmWait := true } }).bump (adr pMSP 0x12)).event pMSP 3)
  else s

/-- A slave sees an arbitration (R384). -/
def execArbitrationSeen (s : State) : Host.Outcome State Fault Refusal :=
  .next (if s.msp.mastering then s else { s with msp := { s.msp with quiet := false } })

end Sys2Proof.Machine
end

