-- ==== Sys2Proof/Machine/Views.lean ====
section
/-! DEFINITION. What register reads return (19, 20): headers, read-only views, holding registers, snapshots. -/

namespace Sys2Proof.Machine

open Sys2Proof

/-! ## Instances of a page number (20 R479, R480) -/

/-- Group of a WAV, TDC, ACQ or GRP page. -/
def pageGroup (p : Nat) : GroupIx := ⟨p % 64, Nat.mod_lt _ (by decide)⟩

/-- Stream of an APG or STRM page. -/
def pageStream (p : Nat) : StreamIx := ⟨p % 16, Nat.mod_lt _ (by decide)⟩

/-- Tile of a TILE page. -/
def pageTile (p : Nat) : TileIx := ⟨p % 4, Nat.mod_lt _ (by decide)⟩

/-- The family a page belongs to, by its first page; `none` where the directory lists none. -/
def pageBase (p : Nat) : Option Nat := (pageFamily p).map fun f => f.1

/-- PAGE_ID (R480). -/
def pageId (p : Nat) : Word :=
  match pageFamily p with
  | some (base, _, ty, count) => BitVec.ofNat 32 (ty <<< 24 + (p - base) <<< 16 + 0x100 + count)
  | none => 0

/-! ## Headers (19 R459 to R464) -/

/-- STATUS with WRAP and CLR_STALE; GSTOP and FAILED in a GRP page (20 R510). -/
def State.statusView (s : State) (p : Nat) : Word :=
  let h := s.hdr p
  let own := if pageBase p = some 0x100 then
      b2n (s.grp (pageGroup p)).gstop <<< 8 + b2n (s.grp (pageGroup p)).failed <<< 9
    else 0
  BitVec.ofNat 32 (b2n h.stale + b2n h.wrap <<< 1 + own)

/-- Whether a listed page is pending (R464). -/
def State.pagePending (s : State) (p : Nat) : Bool := pageListed p && (s.hdr p).evt &&& (s.hdr p).en != 0

/-- `UNIT.PENDk` (R464). -/
def State.pendView (s : State) (k : Nat) : Word :=
  BitVec.ofNat 32 ((List.range 32).foldl (fun n i => n + b2n (s.pagePending (32 * k + i)) <<< i) 0)

/-- Registers 0x00 to 0x07. -/
def State.headerView (s : State) (p o : Nat) : Word :=
  let h := s.hdr p
  match o with
  | 0 => pageId p
  | 2 => s.statusView p
  | 3 => h.seq ++ h.evt
  | 5 => h.en.setWidth 32
  | 6 => h.snaps.setWidth 32
  | 7 => BitVec.ofNat 32 (b2n h.busy + b2n h.err <<< 1 + b2n h.lost <<< 2)
  | _ => 0

/-! ## Read-only views of the unit's pages -/

/-- `MODE.STATE` (14 R359). -/
def State.modeView (s : State) : Word :=
  let m := s.modes
  BitVec.ofNat 32 (modeCode m.mode + modeCode m.prev <<< 4 + m.cause.toNat <<< 8 + m.pend.toNat <<< 12 +
    b2n m.compat <<< 18 + b2n m.fuse <<< 19)

/-- `CLK.RDY` (13 R337). -/
def State.rdyView (s : State) : Word :=
  let c := s.clk
  BitVec.ofNat 32 (b2n c.rco + b2n c.xo <<< 1 + b2n c.ref <<< 2 + b2n c.lock <<< 3 + b2n c.holdover <<< 4 + b2n c.trimOk <<< 5)

/-- Code of a SYNC state (13 R338). -/
def syncCode : SyncState → Nat
  | .off => 0 | .acquire => 1 | .locked => 2 | .hold => 3 | .master => 4

/-- `FUS.THROTTLE` (02 R46). -/
def State.throttleView (s : State) : Word :=
  BitVec.ofNat 32 (s.regF (adr pFUS 0x29) 0 3 + s.thm.step.toNat <<< 4 + s.throttle <<< 8)

/-- `MSP.ALIVE` (15 R385). -/
def State.aliveView (s : State) : Word :=
  let m := s.msp
  BitVec.ofNat 32 (m.uc.toNat + m.bc.toNat <<< 4 + b2n m.ucSync <<< 8 + b2n m.bcSync <<< 9)

/-- `MSP.MBOX` (15 R385). -/
def State.mboxView (s : State) : Word :=
  match s.msp.mbox with
  | some (n, _) => BitVec.ofNat 32 (n % 16384 + 1 <<< 31)
  | none => 0

/-- Code of a receiver state (16 R388). -/
def rxCode : KlRx → Nat
  | .down => 0 | .locked => 1 | .aligned => 2 | .up => 3

/-- `NVM.REGIONS` (20 R496). -/
def State.regionsView (s : State) : Word :=
  let cur := match s.nvm.commit with
    | some k => k.val <<< 8 + 1 <<< 12
    | none => 0
  BitVec.ofNat 32 (s.nvm.dirty.toNat + cur)

/-- Channel that `WEAR.SEL` names (12 R314). -/
def State.wearSel (s : State) : Nat := s.regF (adr pWEAR 0x08) 0 10

/-- `WEAR.BEAMS` (12 R314): NEXT reads 0 where both beams are retired. -/
def State.beamsView (s : State) : Word :=
  let c := s.wearSel
  let r := s.retired c
  BitVec.ofNat 32 (b2n r.1 + b2n r.2 <<< 1 + b2n ((s.nextBeam (groupOf c) (laneOf c)).getD false) <<< 2)

/-- `BOOT.STATUS` (14 R360). -/
def State.bootView (s : State) : Word :=
  let b := s.boot
  BitVec.ofNat 32 (b.stage.toNat + b2n b.done <<< 3 + b2n b.failed <<< 4 + b2n b.fallback <<< 5 + b.src.toNat <<< 6 +
    b.cause.toNat <<< 8)

/-- Registers of a trigger line that are views (10 R268); o is the offset within the line. -/
def State.lineView (s : State) (l : LineIx) (o : Nat) : Word :=
  let x := s.lines[l]
  let code : Nat := match x.st with
    | .idle => 0
    | .armed => 1
    | .live => 2
    | .triggered => 3
  match o with
  | 1 => BitVec.ofNat 32 (code + b2n x.fired <<< 2 + x.auto.toNat <<< 16)
  | 2 => x.f.setWidth 32
  | 3 => BitVec.ofNat 32 (fld x.f 32 16)
  | 5 => x.ts.setWidth 32
  | 6 => BitVec.ofNat 32 (fld x.ts 32 15 + b2n x.forced <<< 15 + b2n x.unlock <<< 16 + b2n x.xo <<< 17)
  | _ => s.reg (lineReg l o)

/-! ## Views of the per-stream and per-group pages -/

/-- Code of a stream state (07 R198). -/
def streamCode : StreamState → Nat
  | .idle => 0 | .running => 1 | .underrun => 2 | .halted => 3

/-- Read-only registers of a STRM page (07 R216). -/
def State.strmView (s : State) (i : StreamIx) (o : Nat) : Word :=
  let x := s.streams[i]
  match o with
  | 0x09 => BitVec.ofNat 32 (streamCode x.st + x.stack.length <<< 6 + x.cause.toNat <<< 9 + x.seg.toNat <<< 16)
  | 0x0A => x.urVec.setWidth 32
  | 0x0C => BitVec.ofNat 32 (fld (x.rcvd - x.rdPos) 0 19)
  | 0x0D => x.rcvd
  | 0x0E => x.credit
  | _ => s.reg (adr (pSTRM i) o)

/-- `APG[a].ADDR` (07 R217). -/
def State.apgView (s : State) (i : StreamIx) : Word :=
  BitVec.ofNat 32 ((s.streams[i]).apg.addr.toNat + b2n (s.streams[i]).apg.role <<< 31)

/-- Stamps held by lanes base to base + 7 (09 R251). -/
def State.fillView (s : State) (g : GroupIx) (base : Nat) : Word :=
  BitVec.ofNat 32 ((List.range 8).foldl (fun n i =>
    n + (s.chan g (laneOf (base + i))).td.fifo.length <<< (4 * i)) 0)

/-- Read-only registers of a TDC page (09 R251). -/
def State.tdcView (s : State) (g : GroupIx) (o : Nat) : Word :=
  match o with
  | 0x08 => BitVec.ofNat 32 (b2n s.clk.hs[tileOf g] + b2n s.rootXo <<< 1)
  | 0x09 => (maskOf fun l => (s.chan g l).td.isOpen s.rootNow).setWidth 32
  | 0x0A => s.fillView g 0
  | 0x0B => s.fillView g 8
  | 0x0D => s.esc.tickRoot.setWidth 32
  | 0x0E => s.esc.tickRoot.extractLsb' 32 32
  | _ => s.reg (adr (pTDC g) o)

/-- Code of a capture state (10 R262). -/
def acqCode : AcqState → Nat
  | .idle => 0 | .armed => 1 | .pre => 2 | .post => 3 | .done => 4 | .stopped => 5 | .aborted => 6

/-- Read-only registers of an ACQ page (10 R269); the trigger point is counted from the first point of the capture. -/
def State.acqView (s : State) (g : GroupIx) (o : Nat) : Word :=
  let a := (s.grp g).acq
  match o with
  | 0x0B => BitVec.ofNat 32 (acqCode a.st + a.reason.toNat <<< 4)
  | 0x0C => BitVec.ofNat 32 (a.trigPt.getD 0 % 65536)
  | 0x0D => BitVec.ofNat 32 (a.kept % 65536 + (a.stored % 65536) <<< 16)
  | 0x10 => s.maskW g (s.regF (adr (pACQ g) 0x0F) 0 7)
  | 0x12 => 0
  | _ => s.reg (adr (pACQ g) o)

/-- Two bits per slot (02 R47). -/
def slotCode : SlotState → Nat
  | .empty => 0 | .once => 1 | .repeat => 2

/-- Two bits per relay (03 R79). -/
def relayCode : RelayState → Nat
  | .opened => 0 | .closing => 1 | .closed => 2 | .opening => 3

/-- Codes of a tourbillon state (04 R117). -/
def tbCode : TbState → Nat
  | .off => 0 | .shadow => 1 | .match => 2 | .handover => 3 | .recal => 4 | .halted => 5

/-- `GRP[g].GE_STAT` (05 R154). -/
def State.geStat (s : State) (g : GroupIx) : Word :=
  let e := (s.grp g).eng
  let pc := if e.running then e.here else e.lastPc
  BitVec.ofNat 32 (e.slot.val + b2n (e.vendor && e.running) <<< 5 + b2n e.committed <<< 6 + b2n e.running <<< 7 +
    e.restarts.toNat <<< 8 + e.stack.length <<< 12 + pc.toNat <<< 16)

/-- Word of a group's microcode store as UC_DATA shows it (05 R120). -/
def State.ucRead (s : State) (g : GroupIx) : Word :=
  let k := s.regF (adr (pGRP g) 0x30) 0 15
  let w := s.uc g (k / 8)
  if k % 8 < 6 then w.extractLsb' (32 * (k % 8)) 32 else if k % 8 = 6 then (w.extractLsb' 192 24).setWidth 32 else 0

/-- Read-only registers of a GRP page (20 R511). -/
def State.grpView (s : State) (g : GroupIx) (o : Nat) : Word :=
  let gr := s.grp g
  match o with
  | 0x08 => 0
  | 0x0A => BitVec.ofNat 32 ((below 8).foldl (fun n i => n + slotCode (gr.slots[i]).st <<< (2 * i.val)) 0)
  | 0x11 => s.cpmNow g (s.regF (adr (pGRP g) 0x10) 0 10)
  | 0x12 => s.cmpLatch g
  | 0x13 => 0
  | 0x14 => s.cmpQual g
  | 0x15 => BitVec.ofNat 32 ((below 16).foldl (fun n l => n + relayCode (gr.ch l).fe.relay.st <<< (2 * l.val)) 0)
  | 0x16 => (maskOf fun l => (gr.ch l).fe.relay.beamB).setWidth 32
  | 0x2C => gr.hold.setWidth 32
  | 0x2D => BitVec.ofNat 32 (gr.tb.lane.val + tbCode gr.tb.st <<< 4 + b2n gr.tb.gainHeld <<< 7 + gr.tb.spare.val <<< 8)
  | 0x31 => s.ucRead g
  | 0x32 => s.geStat g
  | 0x35 => s.irqPend g
  | 0x38 => gr.eng.shown.toList.getD (s.regF (adr (pGRP g) 0x37) 0 5) 0
  | 0x3B => s.tblHost g (s.regF (adr (pGRP g) 0x3A) 0 12)
  | 0x3C => BitVec.ofNat 32 ((below 4).foldl (fun n j => n + quadCode (gr.quads[j]).st <<< (8 * j.val)) 0)
  | _ => s.reg (adr (pGRP g) o)

/-- `TILE[t]` (20 R512). -/
def State.tileView (s : State) (t : TileIx) (o : Nat) : Word :=
  match o with
  | 0x08 => BitVec.ofNat 32 (t.val + (s.regF (adr pUNIT 0x09) 4 4) <<< 4)
  | 0x09 =>
    let link := bit s.boot.linkFail t.val
    BitVec.ofNat 32 (b2n (s.boot.done && !link) + b2n link <<< 1 + b2n (bit s.boot.hsFail t.val) <<< 2)
  | 0x0C => s.clk.hsErr[t].setWidth 32
  | _ => s.reg (adr (pTILE t) o)

/-! ## Live values and the registers of a page -/

/-- Value of a register of a unit-level page (20 R482 to R504). -/
def State.unitView (s : State) (p o : Nat) : Word :=
  let r := s.reg (adr p o)
  if p = pUNIT then (if 0x30 ≤ o then s.pendView (o - 0x30) else if o = 0x0D then 0 else r)
  else if p = pMODE then
    (match o with
      | 0x08 => s.modeView
      | 0x0A => s.modes.entry.setWidth 32
      | 0x0B => BitVec.ofNat 32 (fld s.modes.entry 32 16)
      | 0x0C => s.modes.nonce.setWidth 32
      | 0x0D => s.modes.nonce.extractLsb' 32 32
      | 0x0F => if s.regF (adr pMODE 0x0E) 0 5 < 22 then s.tokWord (s.regF (adr pMODE 0x0E) 0 5) else 0
      | _ => r)
  else if p = pCLK then (if o = 0x08 then r ||| (if s.clk.domRco then 0x10 else 0) else if o = 0x09 then s.rdyView else r)
  else if p = pSYNC then (if o = 0x0B then BitVec.ofNat 32 (syncCode s.sync.st) else r)
  else if p = pESC then
    (match o with
      | 0x09 => s.esc.frame.setWidth 32
      | 0x0A => BitVec.ofNat 32 (fld s.esc.frame 32 16)
      | 0x0D => s.esc.pos.setWidth 32
      | _ => r)
  else if p = pFUS then (if o = 0x29 then s.throttleView else r)
  else if p = pFLT then
    (if 0x08 ≤ o ∧ o ≤ 0x0B then s.flt.first.getD (o - 0x08) 0
     else if o = 0x0C ∨ o = 0x21 then 0
     else if o = 0x0D then s.flt.logSeq.setWidth 32
     else if 0x0F ≤ o ∧ o ≤ 0x12 then s.flt.loaded.getD (o - 0x0F) 0
     else if o = 0x16 then s.sevWord (s.regF (adr pFLT 0x15) 0 7)
     else if o = 0x20 then r ||| (if s.faultLow then 2 else 0)
     else r)
  else if p = pTHM then
    (if 0x08 ≤ o ∧ o ≤ 0x0C then s.tempView ⟨(o - 8) % 5, Nat.mod_lt _ (by decide)⟩ else if o = 0x18 then s.throtView
     else if o = 0x1B then s.enfMs else r)
  else if p = pMSP then
    (match o with
      | 0x0B => s.msp.raw.setWidth 32
      | 0x0D => s.aliveView
      | 0x13 => s.mboxView
      | _ => r)
  else if p = pKL then
    (match o with
      | 0x09 => BitVec.ofNat 32 (rxCode s.kl.rx)
      | 0x0A => BitVec.ofNat 32 (s.kl.addr.toNat + s.kl.dn.toNat <<< 8 + b2n s.kl.dnValid <<< 16)
      | 0x0B => s.kl.limit
      | 0x0C => s.kl.sent
      | 0x0D => BitVec.ofNat 32 (s.kl.held % 262144)
      | _ => r)
  else if p = pPAIR then (if o = 0x0A then s.pairView else r)
  else if p = pRING then
    (if 0x09 ≤ o ∧ o ≤ 0x0C then s.descLoaded (o - 9)
     else if o = 0x14 then s.fmtWord (s.regF (adr pRING 0x13) 0 6) else r)
  else if p = pNVM then
    (match o with
      | 0x09 => s.mram (s.regF (adr pNVM 0x08) 0 15)
      | 0x0A => 0
      | 0x0B => s.regionsView
      | _ => r)
  else if p = pWEAR then
    (let c := s.wearSel
     let w := (s.chan (groupOf c) (laneOf c)).fe.relay
     match o with
      | 0x09 => s.mram (0x2000 + 4 * c)
      | 0x0A => s.mram (0x2001 + 4 * c)
      | 0x0B => w.pendA
      | 0x0C => w.pendB
      | 0x0D => s.beamsView
      | 0x0F => 0x35A4E900
      | _ => r)
  else if p = pTRG then
    (if 0x10 ≤ o ∧ o < 0x30 then s.lineView ⟨(o - 0x10) / 8 % 4, Nat.mod_lt _ (by decide)⟩ (o % 8)
     else if o = 0x0C then 0 else r)
  else if p = pBOOT then (if o = 0x08 then s.bootView else if o = 0x0F then 0 else r)
  else if p = pFACT then
    (match o with
      | 0x08 => if s.mode = .factory then s.modes.perm.setWidth 32 else 0
      | 0x0A => 0
      | 0x0B => r ||| (if s.modes.test.isSome then 4 else 0)
      | _ => r)
  else r

/-- Live value of the register at offset o, 8 or above, of page p: what a read of a register that is no holding
register returns, and what a snapshot copies. -/
def State.live (s : State) (p o : Nat) : Word :=
  match pageBase p with
  | some 0x020 => if o = 0x0B then s.apgView (pageStream p) else s.reg (adr p o)
  | some 0x030 => s.strmView (pageStream p) o
  | some 0x040 => if o = 0x09 then s.wavState (pageGroup p) else s.reg (adr p o)
  | some 0x080 => s.tdcView (pageGroup p) o
  | some 0x0C0 => s.acqView (pageGroup p) o
  | some 0x100 => s.grpView (pageGroup p) o
  | some 0x180 => s.tileView (pageTile p) o
  | some _ => s.unitView p o
  | none => 0

/-! ## Snapshots (19 R469 to R471) -/

/-- SN registers of a page family, by its first page (20 R484 to R513); the integrator fields apart. -/
def snOffsets : Nat → List Nat
  | 0x001 => [0x0A, 0x0B]
  | 0x002 => [0x0E, 0x0F, 0x10]
  | 0x003 => [0x0D, 0x0E, 0x13]
  | 0x004 => [0x09, 0x0A, 0x0E]
  | 0x005 => [0x30, 0x31, 0x32, 0x33, 0x34, 0x35, 0x36, 0x37]
  | 0x006 => [0x13, 0x14]
  | 0x007 => [0x19, 0x1A, 0x1B]
  | 0x008 => [0x0E, 0x0F, 0x10, 0x11, 0x12]
  | 0x009 => [0x0E, 0x0F, 0x10, 0x11, 0x12, 0x13, 0x14]
  | 0x00A => [0x0E, 0x0F, 0x11, 0x12, 0x13, 0x14, 0x15]
  | 0x00B => [0x0E, 0x0F, 0x10, 0x11, 0x12, 0x16, 0x17, 0x18]
  | 0x00C => [0x08, 0x09, 0x0A, 0x0E]
  | 0x00D => [0x0C, 0x0D]
  | 0x00E => [0x0C, 0x0D, 0x13, 0x14, 0x16]
  | 0x00F => [0x09, 0x0A, 0x0B, 0x0C]
  | 0x010 => [0x0C, 0x0D]
  | 0x011 => [0x15, 0x16, 0x17, 0x1D, 0x1E, 0x1F, 0x25, 0x26, 0x27, 0x2D, 0x2E, 0x2F, 0x30]
  | 0x030 => [0x0B, 0x0F, 0x20, 0x21, 0x22, 0x23, 0x24, 0x25, 0x26]
  | 0x040 => [0x12]
  | 0x080 => [0x0C, 0x0D, 0x0E, 0x0F]
  | 0x0C0 => [0x0E]
  | 0x100 => [0x17, 0x1D, 0x20, 0x21, 0x36, 0x3D]
  | 0x180 => [0x0A, 0x0B]
  | _ => []

/-- Whether a register is a holding register. -/
def isSn (p o : Nat) : Bool :=
  match pageBase p with
  | some b => (snOffsets b).contains o
  | none => false

/-- Key of the holding registers of a lane's integrators: word i of Q, E, S and the counts (04 R103). -/
def intHeldKey (g : GroupIx) (l : Nat) (i : Nat) : Nat := 0x10000 + 8 * (16 * g.val + l) + i

/-- Whether the last clock edge of a group is too late for a snapshot written now: less than 40 ns before its arrival at the
tile, 20 ns from now (04 R103). -/
def State.edgeLate (s : State) (g : GroupIx) : Bool := s.rootRuns && decide (s.rootNow - (s.grp g).edgeAt < linkDelay)

/-- The integrators of a group's sixteen lanes are copied, all from one clock edge (04 R103). -/
def State.snapInt (s : State) (g : GroupIx) : State :=
  let late := s.edgeLate g
  (below 16).foldl (fun s l => (List.range 8).foldl (fun s i =>
    let m := (s.chan g l).ms
    s.setHeld (intHeldKey g l.val i) (imgWord (if late then m.prevImg else m.edgeImg) i)) s) s

/-- A snapshot of a listed page (R469). -/
def State.snapPage (s : State) (p : Nat) : State :=
  match pageBase p with
  | none => s
  | some b =>
    let t := (snOffsets b).foldl (fun t o => t.setHeld (adr p o) (s.live p o)) s
    let t := if b = 0x100 then t.snapInt (pageGroup p) else t
    t.modHdr p fun h => { h with snaps := h.snaps + 1 }

/-- Every listed page, ascending (R479). -/
def listedPages : List Nat := pageFamilies.flatMap fun f => (List.range (f.2.1 + 1 - f.1)).map fun i => f.1 + i

/-- A snapshot of every listed page (R470). -/
def State.snapAll (s : State) : State := listedPages.foldl State.snapPage s

/-- Value that a read of page p, offset o returns, without the side effects of indirect data registers. -/
def State.view (s : State) (p o : Nat) : Word :=
  if o < 8 then s.headerView p o
  else if pageBase p = some 0x100 ∧ 0x23 ≤ o ∧ o ≤ 0x2A then
    s.heldReg (intHeldKey (pageGroup p) (s.regF (adr p 0x22) 0 4) (o - 0x23))
  else if isSn p o then s.heldReg (adr p o)
  else s.live p o

end Sys2Proof.Machine
end

