-- ==== Sys2Proof/Machine/Registers.lean ====
section
/-! DEFINITION. Register accesses (19, 20): indirect data registers, posted writes, the MRAM window, the FACTORY test, and
the one read and the one write that every path ends in. -/

namespace Sys2Proof.Machine

open Sys2Proof

/-! ## Indirect stores of a group (03 R79, 05 R119 to R121, 06 R166, R185) -/

/-- A posted write of CPM_DATA (03 R78, R79). -/
def State.cpmDataWrite (s : State) (g : GroupIx) (v : Word) : State :=
  let p := pGRP g
  if s.busy p then s.loseWrite p
  else
    let a := s.regF (adr p 0x10) 0 10
    ((s.stepAdr p 0x10 1024).setCpm g a v).post p

/-- A posted write of CPM_DATA. -/
def execCpmDataWrite (g : GroupIx) (v : Word) (s : State) : Host.Outcome State Fault Refusal := .next (s.cpmDataWrite g v)

/-- A read of CPM_DATA returns the word and steps CPM_ADDR. -/
def State.cpmDataRead (s : State) (g : GroupIx) : State :=
  (s.stepAdr (pGRP g) 0x10 1024).answer (s.live (pGRP g) 0x11)

/-- A read of CPM_DATA; it waits while BUSY is set (R478). -/
def execCpmDataRead (g : GroupIx) (s : State) : Host.Outcome State Fault Refusal :=
  .next (if s.busy (pGRP g) then s else s.cpmDataRead g)

/-- UC_ADDR after an access: part 5 is followed by part 0 of the next word; parts 6 and 7 do not step (05 R120). -/
def State.stepUc (s : State) (g : GroupIx) : State :=
  let a := adr (pGRP g) 0x30
  let k := s.regF a 0 15
  if k % 8 < 5 then s.setReg a (BitVec.ofNat 32 (k + 1))
  else if k % 8 = 5 then
    (if k / 8 = 0xFFF then (s.setReg a 0).setWrap (pGRP g) else s.setReg a (BitVec.ofNat 32 (8 * (k / 8 + 1))))
  else s

/-- Whether a store word lies in an extent. -/
def inExtent (a entry len : Nat) : Bool := decide (entry ≤ a) && decide (a < entry + len)

/-- Whether a customer word lies in a program held, still to run once more, or being armed (05 R121). -/
def State.ucProtected (s : State) (g : GroupIx) (a : Nat) : Bool :=
  let gr := s.grp g
  (below 8).any (fun i =>
    ((gr.slots[i]).st != .empty && inExtent a (gr.slots[i]).entry.toNat (gr.slots[i]).len.toNat) ||
    (match gr.leaving[i] with
      | some x => inExtent a x.entry.toNat x.len.toNat
      | none => false)) ||
  gr.arms.any (fun r =>
    match s.header g r.entry.toNat with
    | some x => inExtent a r.entry.toNat x.1.len.toNat
    | none => false)

/-- A posted write of UC_DATA (05 R119 to R121). DESIGN CHOICE (log entry 84): a write to part 6 or 7 is ignored without ERR
in vendor and protected words too. -/
def State.ucDataWrite (s : State) (g : GroupIx) (v : Word) : State :=
  let p := pGRP g
  if s.busy p then s.loseWrite p
  else
    let k := s.regF (adr p 0x30) 0 15
    let a := k / 8
    let t := s.stepUc g
    if k % 8 ≥ 6 then t.post p
    else if 0xC00 ≤ a ∨ s.ucProtected g a = true then t.refusePosted p
    else (t.setUcPart g a (k % 8) v).post p

/-- A posted write of UC_DATA. -/
def execUcDataWrite (g : GroupIx) (v : Word) (s : State) : Host.Outcome State Fault Refusal := .next (s.ucDataWrite g v)

/-- A read of UC_DATA returns the part and steps UC_ADDR. -/
def State.ucDataRead (s : State) (g : GroupIx) : State := (s.stepUc g).answer (s.ucRead g)

/-- A read of UC_DATA; it waits while BUSY is set (R478). -/
def execUcDataRead (g : GroupIx) (s : State) : Host.Outcome State Fault Refusal :=
  .next (if s.busy (pGRP g) then s else s.ucDataRead g)

/-- A posted write of TBL_DATA; a word that accepts no writes sets ERR (06 R166). -/
def State.tblDataWrite (s : State) (g : GroupIx) (v : Word) : State :=
  let p := pGRP g
  if s.busy p then s.loseWrite p
  else
    let a := s.regF (adr p 0x3A) 0 12
    let s := s.stepAdr p 0x3A 4096
    if tblWritable a then (s.tblWrite g a v).post p else s.refusePosted p

/-- A posted write of TBL_DATA. -/
def execTblDataWrite (g : GroupIx) (v : Word) (s : State) : Host.Outcome State Fault Refusal := .next (s.tblDataWrite g v)

/-- A read of TBL_DATA returns the word and steps TBL_ADDR (06 R185). -/
def State.tblDataRead (s : State) (g : GroupIx) : State :=
  (s.stepAdr (pGRP g) 0x3A 4096).answer (s.live (pGRP g) 0x3B)

/-- A read of TBL_DATA; it waits while BUSY is set (R478). -/
def execTblDataRead (g : GroupIx) (s : State) : Host.Outcome State Fault Refusal :=
  .next (if s.busy (pGRP g) then s else s.tblDataRead g)

/-! ## Other registers of a GRP page -/

/-- A write of GE_IRQ_EN: a latch bit already set may interrupt the routine (05 R145). -/
def State.geIrqEnWrite (s : State) (g : GroupIx) (v : Word) : State :=
  ((s.setReg (adr (pGRP g) 0x34) v).irqSettle g).interrupt g

/-- A write of GE_IRQ_EN. -/
def execGeIrqEnWrite (g : GroupIx) (v : Word) (s : State) : Host.Outcome State Fault Refusal := .next (s.geIrqEnWrite g v)

/-- A write of GE_XDATA: in CONFIGURE the register takes the value, X0 apart; else it is ignored (05 R131, R154). -/
def State.geXdataWrite (s : State) (g : GroupIx) (v : Word) : State :=
  let i := s.regF (adr (pGRP g) 0x37) 0 5
  if s.mode = .configure ∧ i ≠ 0 then
    if h : i < 32 then
      s.modE g fun e => { e with regs := { e.regs with x := e.regs.x.set i v h }, shown := e.shown.set i v h }
    else s
  else s

/-! ## The management port's and Kwenlink's own registers (15 R379, R382, 16 R410) -/

/-- A write of MSP.RAW (15 R379). -/
def State.rawWrite (s : State) (v : Word) : State := { s with msp := { s.msp with raw := v.setWidth 16 } }

/-- A write of MSP.RAW. -/
def execRawCountWrite (v : Word) (s : State) : Host.Outcome State Fault Refusal := .next (s.rawWrite v)

/-- Bits of a word of the port (15 R364). -/
def State.wordSize (s : State) : Nat :=
  match s.regF (adr pMSP 0x09) 0 2 with
  | 0 => 8
  | 1 => 16
  | _ => 32

/-- A write of MSP.LEN (15 R379). -/
def State.mspLenWrite (s : State) (v : Word) : State :=
  let n := fld v 0 14
  if 1 ≤ n ∧ n ≤ 8192 ∧ n % s.wordSize = 0 then s.setReg (adr pMSP 0x0A) (BitVec.ofNat 32 n) else s.refuse pMSP

/-- A write of MSP.CTRL.ROLE: FACTORY only, else ignored (15 R382, R385). -/
def State.roleWrite (s : State) (v : Word) : State :=
  if s.mode = .factory then
    let s := s.setReg (adr pMSP 0x08) (v &&& 1)
    if bit v 0 then s else { s with msp := { s.msp with mastering := false, mmWait := false } }
  else s

/-- A write of KL.DRAIN_RSV: accepted as a frame length is; the tick takes it (16 R410, 02 R20). -/
def State.drainRsvWrite (s : State) (v : Word) : State :=
  if s.mode = .configure ∧ s.armHeld = false then s.setReg (adr pKL 0x08) v else s.refuse pKL

/-- A write of KL.DRAIN_RSV. -/
def execDrainRsvWrite (v : Word) (s : State) : Host.Outcome State Fault Refusal := .next (s.drainRsvWrite v)

/-! ## Indirect data of the MODE and RING pages -/

/-- A posted write of TOK_DATA; an address above the last word is ignored (14 R358, 19 R473). -/
def State.tokDataWrite (s : State) (v : Word) : State :=
  if s.busy pMODE then s.loseWrite pMODE
  else
    let a := s.regF (adr pMODE 0x0E) 0 5
    let s := s.stepAdr pMODE 0x0E 22
    let s := if a < 22 then { s with modes := { s.modes with token := tset 0 s.modes.token a v } } else s
    s.post pMODE

/-- A read of TOK_DATA returns the word and steps TOK_ADDR (19 R472). -/
def State.tokDataRead (s : State) : State := (s.stepAdr pMODE 0x0E 22).answer (s.live pMODE 0x0F)

/-- A read of TOK_DATA; it waits while BUSY is set (R478). -/
def execTokDataRead (s : State) : Host.Outcome State Fault Refusal := .next (if s.busy pMODE then s else s.tokDataRead)

/-- A posted write of DESC_DATAk, k from 0 to 2, fills a holding register (11 R273). -/
def State.descFill (s : State) (k : Nat) (v : Word) : State :=
  if s.busy pRING then s.loseWrite pRING
  else ({ s with rings := { s.rings with fill := s.rings.fill.set k v } }).post pRING

/-! ## MRAM (20 R496 to R498) -/

/-- Region of an MRAM word. -/
def nvmRegionOf (a : Nat) : Option (Fin 8) :=
  (below 8).find? fun k => decide ((nvmRegions.getD k.val (0, 0)).1 ≤ a) && decide (a ≤ (nvmRegions.getD k.val (0, 0)).2)

/-- Whether a region accepts host writes now (R497). -/
def State.nvmAccepts (s : State) (k : Fin 8) : Bool :=
  if k.val = 3 ∨ k.val = 4 ∨ k.val = 6 then s.mode == .configure || s.mode == .factory
  else s.permits (if k.val = 2 then 1 else if k.val = 7 then 2 else 3)

/-- The bits of an MRAM word that hold fields; the others are reserved and stay 0 (00 R2; R497; 03 R75, 08 R235, 13 R337, 14
R347). Words whose contents are Rolantik's own, or whose layout the spec gives elsewhere as a whole word, hold 32 bits. -/
def nvmFields (a : Nat) : Word :=
  if a = 0x02 then 0xFFFFFF00
  else if a = 0x03 then 0x0000FFFF
  else if a = 0x04 then 1
  else if 0x05 ≤ a ∧ a < 0x40 ∨ 0x50 ≤ a ∧ a < 0x80 ∨ 0xC3 ≤ a ∧ a < 0x100 then 0
  else if 0x80 ≤ a ∧ a < 0xC0 ∧ a % 2 = 1 then 0x00FFFFFF
  else if a = 0xC1 then 0x1FFFF
  else if a = 0xC2 then 0xFF
  else if 0x100 ≤ a ∧ a < 0x180 then 0x3FFF
  else if a = 0x200 ∨ a = 0x201 then 0xFFFF
  else if 0x1000 ≤ a ∧ a < 0x2000 ∧ a % 2 = 1 then 0x01FFFFFF
  else if 0x2000 ≤ a then (if a % 4 = 2 then 3 else if a % 4 = 3 then 0 else 0xFFFFFFFF)
  else 0xFFFFFFFF

/-- A posted write of NVM.DATA changes copy A and sets DIRTY, or is refused (R498). -/
def State.nvmDataWrite (s : State) (v : Word) : State :=
  if s.busy pNVM then s.loseWrite pNVM
  else
    let a := s.regF (adr pNVM 0x08) 0 15
    let s := s.stepAdr pNVM 0x08 32768
    match nvmRegionOf a with
    | none => s.refusePosted pNVM
    | some k =>
      if s.nvmAccepts k then
        let m : Byte := 1#8 <<< k.val
        let s := { s with nvm := { s.nvm with a := tset 0 s.nvm.a a (v &&& nvmFields a), dirty := s.nvm.dirty ||| m } }
        (s.bump (adr pNVM 0x0C)).post pNVM
      else s.refusePosted pNVM

/-- A posted write of NVM.DATA. -/
def execNvmDataWrite (v : Word) (s : State) : Host.Outcome State Fault Refusal := .next (s.nvmDataWrite v)

/-- A read of NVM.DATA returns the word of copy A and steps the address. -/
def State.nvmDataRead (s : State) : State := (s.stepAdr pNVM 0x08 32768).answer (s.live pNVM 0x09)

/-- A read of NVM.DATA; it waits while BUSY is set (R478). -/
def execNvmDataRead (s : State) : Host.Outcome State Fault Refusal := .next (if s.busy pNVM then s else s.nvmDataRead)

/-- A write of NVM.CMD: a commit writes the CRC of copy A of a region that accepts host writes now (R498). -/
def State.nvmCmdWrite (s : State) (v : Word) : State :=
  if s.busy pNVM then s.loseWrite pNVM
  else if bit v 0 = false then s.post pNVM
  else if h : fld v 4 4 < 8 then
    let k : Fin 8 := ⟨fld v 4 4, h⟩
    if s.nvmAccepts k then
      let m : Byte := 1#8 <<< k.val
      ({ s with nvm := { s.nvm with dirty := s.nvm.dirty &&& ~~~m, commit := some k,
                                    crcA := tset (crcBlank k) s.nvm.crcA k (regionCrc s.nvm.a k) } }).post pNVM
    else s.refusePosted pNVM
  else s.refusePosted pNVM

/-- A write of NVM.CMD. -/
def execNvmCommit (v : Word) (s : State) : Host.Outcome State Fault Refusal := .next (s.nvmCmdWrite v)

/-- A commit completes: copy B is whole, and BUSY clears (R498). -/
def State.nvmCommitDone (s : State) : State :=
  match s.nvm.commit with
  | none => s
  | some k =>
    let s := { s with nvm := { s.nvm with b := copyRegion k.val s.nvm.a s.nvm.b, commit := none,
                                          crcB := tset (crcBlank k) s.nvm.crcB k (s.nvm.storedA k) } }
    ((s.bump (adr pNVM 0x0D)).event pNVM 0).unpost pNVM

/-! ## The FACTORY test (20 R513, R514) -/

/-- A write of FACT.TEST_RUN (R514). -/
def State.testRun (s : State) (v : Word) : State :=
  let sel := s.reg (adr pFACT 0x09)
  if s.permits 3 = false then s.refuse pFACT
  else if bit v 0 = false then s
  else if s.modes.test.isSome ∨ 9 < fld sel 0 4 then s.refuse pFACT
  else
    let s := s.setReg (adr pFACT 0x0B) (s.reg (adr pFACT 0x0B) &&& 0xFFFFFF00)
    { s with modes := { s.modes with test := some (sel.setWidth 4, pageGroup (fld sel 8 6)) } }

/-- A write of FACT.TEST_RUN. -/
def execFactTestRun (v : Word) (s : State) : Host.Outcome State Fault Refusal := .next (s.testRun v)

/-- What an item leaves behind: stores of zeros (14 R348, R514). With QCTL 0 a quad is IDLE at V0 = 0 (06 R173), and no word of its
own stands in the table. -/
def State.testLeaves (s : State) (item : Nat) (g : GroupIx) : State :=
  match item with
  | 0 =>
    { s with sram := {}, rings := { s.rings with desc := s.rings.desc.filter (fun d => 0x40000 ≤ d.1),
                                                 unsent := s.rings.unsent.filter (fun u => 0x40000 ≤ u.sel) } }
  | 1 => { s with rings := { s.rings with desc := [], unsent := [] } }
  | 5 => s.modS g fun t => { t with cpm := [], cpmBad := [], cpmWas := [] }
  | 6 =>
    let s := s.modS g fun t => { t with tbl := [], tblBad := [], tblWas := [] }
    s.modG g fun gr => { gr with quads := vmap (fun q => ({ acc := q.acc, tSeen := q.tSeen } : Quad)) gr.quads }
  | _ => s

/-- The item completes with its result (R514). -/
def execFactTestDone (fail : Bool) (loc : BitVec 24) (s : State) : Host.Outcome State Fault Refusal := .next <|
  match s.modes.test with
  | none => s
  | some (item, g) =>
    let s := (s.testLeaves item.toNat g).setReg (adr pFACT 0x0B) (BitVec.ofNat 32 (1 + b2n fail <<< 1 + loc.toNat <<< 8))
    ({ s with modes := { s.modes with test := none } }).event pFACT 0

/-! ## Header writes (19 R459 to R463, R469) -/

/-- A write of EVT_CLR (R463). -/
def State.evtClear (s : State) (p : Nat) (v : Word) : State :=
  if pageListed p then
    s.modHdr p fun h =>
      if v.extractLsb' 16 16 = h.seq then { h with evt := h.evt &&& ~~~(v.setWidth 16), stale := false }
      else { h with stale := true }
  else s

/-- A write of EVT_CLR. -/
def execEvtClr (page : Nat) (v : Word) (s : State) : Host.Outcome State Fault Refusal := .next (s.evtClear (page % 512) v)

/-- A write of SNAP. -/
def execSnapWrite (page : Nat) (s : State) : Host.Outcome State Fault Refusal := .next (s.snapPage (page % 512))

/-- A write of BUSY clears the bits written 1 (R459). -/
def State.busyClear (s : State) (p : Nat) (v : Word) : State :=
  if pageListed p then s.modHdr p fun h => { h with err := h.err && !bit v 1, lost := h.lost && !bit v 2 } else s

/-- A write of BUSY. -/
def execBusyFlagClear (page : Nat) (v : Word) (s : State) : Host.Outcome State Fault Refusal :=
  .next (s.busyClear (page % 512) v)

/-- Command SNAP_ALL (05 R157, 14 R339, R470). -/
def State.snapAllCmd (s : State) : State :=
  if s.mode = .configure ∨ s.mode = .run ∨ s.mode = .mirror ∨ s.mode = .safe ∨ s.mode = .factory then s.snapAll
  else s.cmdRefused

/-- Command SNAP_ALL. -/
def execSnapAll (from_ : CommandFrom) (param : BitVec 24) (s : State) : Host.Outcome State Fault Refusal :=
  .next (s.commandRow from_ 8 param State.snapAllCmd)

/-- The destination takes a posted write, or refuses it, and BUSY clears (R475, R478). A descriptor write that waits for its share
or for the tick and a commit keep it set (02 R41, 11 R275, 20 R498). -/
def State.postedDone (s : State) (p : Nat) : State :=
  if (p = pRING ∧ (s.rings.pending.isSome || s.descWaits) = true) ∨ (p = pNVM ∧ s.nvm.commit.isSome = true) then s
  else s.unpost p

/-! ## Writes of registers, page by page (20) -/

/-- A register takes the bits of a mask. -/
def State.put (s : State) (p o : Nat) (v mask : Word) : State := s.setReg (adr p o) (v &&& mask)

/-- An address or select register takes the bits of a mask, and WRAP clears (R460). -/
def State.putSel (s : State) (p o : Nat) (v mask : Word) : State :=
  (s.put p o v mask).modHdr p fun h => { h with wrap := false }

/-- Unit-level pages 0x000 to 0x007. -/
def State.writeUnit (s : State) (p o : Nat) (v : Word) : State :=
  if p = pUNIT then (if o = 0x0D then s.snapAll else s)
  else if p = pMODE then (match o with
    | 0x0E => s.putSel p o v 0x1F
    | 0x0F => s.tokDataWrite v
    | _ => s)
  else if p = pCLK then (match o with
    | 0x08 => s.clkSrcWrite v
    | 0x0A => s.put p o v 0xFFFFFFFF
    | 0x0C => s.rcoTrimWrite v
    | _ => s)
  else if p = pSYNC then (match o with
    | 0x08 => s.syncCtrlWrite v
    | 0x09 => s.put p o v 0xFFFFFF
    | 0x0A => s.put p o v 0xFFFF
    | 0x0F => s.put p o v 0xFF
    | 0x10 => s.put p o v 0xFFFF
    | 0x12 => s.put p o v 0xFF
    | _ => s)
  else if p = pESC then (match o with
    | 0x08 => s.frameLenWrite v
    | 0x0B => s.put p o v 0xFFFFFFFF
    | 0x0C => s.put p o v 0xFFFF
    | _ => s)
  else if p = pFUS then
    (if 0x08 ≤ o ∧ o < 0x28 then
       s.shareWrite ⟨(o - 8) / 8 % 4, Nat.mod_lt _ (by decide)⟩ ⟨(o - 8) % 8, Nat.mod_lt _ (by decide)⟩ v
     else if o = 0x28 then s.put p o v 1
     else if o = 0x29 then s.put p o v 7 else s)
  else if p = pFLT then
    (if o = 0x0C then s.firstClear v
     else if o = 0x0E then s.putSel p o v 0xFF
     else if o = 0x15 then s.putSel p o v 0x7F
     else if o = 0x16 then s.sevWrite v
     else if 0x17 ≤ o ∧ o ≤ 0x1E then s.put p o v 0x77777777
     else if o = 0x1F then s.put p o v 0xFFFF
     else if o = 0x20 then s.put p o v 1
     else if o = 0x21 then s.injectMsg v
     else if o = 0x22 then s.injectMem v else s)
  else if p = pTHM then
    (if 0x10 ≤ o ∧ o ≤ 0x15 then s.thmLimitWrite ⟨(o - 0x10) % 6, Nat.mod_lt _ (by decide)⟩ v
     else if o = 0x16 ∨ o = 0x17 then s.put p o v 0xFFFF else s)
  else s

/-- Unit-level pages 0x008 to 0x012, and FACT. -/
def State.writeSystem (s : State) (p o : Nat) (v : Word) : State :=
  if p = pMSP then (match o with
    | 0x08 => s.roleWrite v
    | 0x09 => s.put p o v 3
    | 0x0A => s.mspLenWrite v
    | 0x0B => s.rawWrite v
    | 0x0C => s.put p o v 0xFF
    | _ => s)
  else if p = pKL then (if o = 0x08 then s.drainRsvWrite v else s)
  else if p = pPAIR then (if o = 0x08 then s.pairCtrlWrite v else if o = 0x09 then s.mirDivWrite v else s)
  else if p = pRING then (match o with
    | 0x08 => s.putSel p o v 0x7FFFF
    | 0x09 => s.descFill 0 v
    | 0x0A => s.descFill 1 v
    | 0x0B => s.descFill 2 v
    | 0x0C => s.descSubmit v
    | 0x13 => s.putSel p o v 0x3F
    | 0x14 => s.fmtDataWrite v
    | _ => s)
  else if p = pNVM then (match o with
    | 0x08 => s.putSel p o v 0x7FFF
    | 0x09 => s.nvmDataWrite v
    | 0x0A => s.nvmCmdWrite v
    | _ => s)
  else if p = pCAL then (match o with
    | 0x08 => s.tbCtrlWrite v
    | 0x09 => s.put p o v 0xFFFF
    | 0x0A => s.put p o v 0xFFFFFF
    | 0x0B => s.put p o v 0xFFFFFF
    | 0x10 => s.put p o v 1
    | 0x11 => s.put p o v 0xFFFFFFFF
    | 0x12 => s.put p o v 0xFFFF
    | _ => s)
  else if p = pWEAR then (if o = 0x08 then s.putSel p o v 0x3FF else s)
  else if p = pTEL then (match o with
    | 0x08 => s.put p o v 0x73F
    | 0x09 => s.put p o v 0xFFFFFF
    | 0x0A => s.put p o v 0xFFFFFFFF
    | 0x0B => s.put p o v 0xFFFFFFFF
    | _ => s)
  else if p = pTRG then
    (if o = 0x08 then s.put p o v 1
     else if o = 0x09 then s.put p o v 0xFFFFFFFF
     else if o = 0x0A ∨ o = 0x0B then s.put p o v 0xFFFF
     else if o = 0x0C then s.fireNext (v.setWidth 4)
     else if 0x10 ≤ o ∧ o < 0x30 ∧ o % 8 = 0 then s.put p o v 0xFFFF
     else if 0x10 ≤ o ∧ o < 0x30 ∧ o % 8 = 4 then s.put p o v 0xFFFFFF else s)
  else if p = pBOOT then (if o = 0x0F then s.imgDataWrite v else s)
  else if p = pFACT then (match o with
    | 0x09 => if s.permits 3 then s.putSel p o v 0x3F0F else s.refuse p
    | 0x0A => s.testRun v
    | _ => s)
  else s

/-- A block register of a stream or its generator, the code table apart: only while the stream is IDLE (07 R210). -/
def State.whileIdle (s : State) (p : Nat) (f : State → State) : State :=
  if (s.streams[pageStream p]).st = .idle then f s else s.refuse p

/-- APG pages (07 R210, R217); offsets 0x0C to 0x0F name no register (R457). -/
def State.writeApg (s : State) (p o : Nat) (v : Word) : State :=
  let mask : Word :=
    if o = 0x08 then 0x171F1F else if o = 0x09 then 0x3FFF else if o = 0x0A then 0xFFFF
    else if 0x10 ≤ o ∧ o ≤ 0x1F then 0x1F7 else if 0x20 ≤ o ∧ o ≤ 0x23 then 0xFFFFFFFF else 0
  if 0x0C ≤ o ∧ o ≤ 0x0F then s
  else s.whileIdle p fun s => if mask = 0 then s else s.put p o v mask

/-- STRM pages: CTRL, the code table, and registers that a write does not change (07 R210, R216). -/
def State.writeStrm (s : State) (p o : Nat) (v : Word) : State :=
  if o = 0x08 then s.strmCtrlWrite (pageStream p) v
  else if 0x10 ≤ o ∧ o ≤ 0x1F then s.put p o v 0x77 else s.whileIdle p id

/-- ACQ pages: the settings only while no capture is active (10 R269). -/
def State.writeAcq (s : State) (p o : Nat) (v : Word) : State :=
  let set (mask : Word) : State := if (s.grp (pageGroup p)).acq.open then s.put p o v mask else s.refuse p
  match o with
  | 0x08 => set 0xFFFF03F7
  | 0x09 => set 0x3FFF
  | 0x0A => set 0x7FFF
  | 0x0F => s.putSel p o v 0x7F
  | 0x10 => s.maskDataWrite (pageGroup p) v
  | 0x12 => s.rdRst (pageGroup p) v
  | _ => s

/-- GRP pages. -/
def State.writeGrp (s : State) (p o : Nat) (v : Word) : State :=
  let g := pageGroup p
  match o with
  | 0x08 => s.armWrite g v
  | 0x10 => s.putSel p o v 0x3FF
  | 0x11 => s.cpmDataWrite g v
  | 0x13 => s.cmpClrWrite g v
  | 0x18 => s.gangWrite g 0 v
  | 0x19 => s.gangWrite g 1 v
  | 0x1A => s.gangWrite g 2 v
  | 0x1B => s.gangWrite g 3 v
  | 0x22 => (s.intSelWrite g v).modHdr p fun h => { h with wrap := false }
  | 0x2B => s.coefCommitWrite g v
  | 0x30 => s.putSel p o v 0x7FFF
  | 0x31 => s.ucDataWrite g v
  | 0x34 => s.geIrqEnWrite g v
  | 0x37 => s.putSel p o v 0x1F
  | 0x38 => s.geXdataWrite g v
  | 0x3A => s.putSel p o v 0xFFF
  | 0x3B => s.tblDataWrite g v
  | 0x3E => s.put p o v 0xFFFF
  | _ => s

/-- A write of a header register. -/
def State.writeHeader (s : State) (p o : Nat) (v : Word) : State :=
  match o with
  | 1 => if pageBase p = some 0x100 then s.gstopClear (pageGroup p) v else s
  | 4 => s.evtClear p v
  | 5 => s.modHdr p fun h => { h with en := v.setWidth 16 }
  | 6 => s.snapPage p
  | 7 => s.busyClear p v
  | _ => s

/-- A write at page p, offset o: RO, SN and SQ fields ignore it, and so does an offset that names no register
(R457, R466). -/
def State.writeAt (s : State) (p o : Nat) (v : Word) : State :=
  if o < 8 then s.writeHeader p o v
  else match pageBase p with
    | some 0x020 => s.writeApg p o v
    | some 0x030 => s.writeStrm p o v
    | some 0x040 => if o = 0x08 then s.wavCtrlWrite (pageGroup p) v else s.wavRegWrite (pageGroup p) o v
    | some 0x080 => s
    | some 0x0C0 => s.writeAcq p o v
    | some 0x100 => s.writeGrp p o v
    | some 0x180 => s
    | some b => if b < 0x008 then s.writeUnit p o v else s.writeSystem p o v
    | none => s

/-- A host write of a register address (R455 to R458, R466). -/
def State.hostWrite (s : State) (a : Nat) (v : Word) : State :=
  match decodeAdr a with
  | some (p, o) => s.writeAt p o v
  | none => s

/-- A write of a register. -/
def execRegisterWrite (addr : BitVec 16) (v : Word) (s : State) : Host.Outcome State Fault Refusal :=
  .next (s.hostWrite addr.toNat v)

/-! ## Reads -/

/-- A read of HS_ERR: the error as the tile last measured it, measured afresh while its hairspring is locked (20 R512). -/
def State.hsErrRead (s : State) (t : TileIx) : State :=
  if s.clk.hs[t] then
    let (n, s) := s.draw
    let e := Config.hairspringError t.val n
    ({ s with clk := { s.clk with hsErr := s.clk.hsErr.set t.val e t.isLt } }).answer (e.setWidth 32)
  else s.answer (s.clk.hsErr[t].setWidth 32)

/-- A read that does more than return a register: the indirect data registers (R472), and two registers whose value is
an analog fact (03 R57, 20 R512). -/
def State.readEffect (s : State) (p o : Nat) : Option State :=
  if p = pMODE ∧ o = 0x0F then some s.tokDataRead
  else if p = pFLT then
    (if o = 0x0F then some s.logLoad else if o = 0x12 then some s.logStepRead else if o = 0x16 then some s.sevDataRead else none)
  else if p = pRING then
    (if o = 0x09 then some s.descLoad else if o = 0x0C then some s.descStepRead
     else if o = 0x14 then some s.fmtDataRead else none)
  else if p = pNVM ∧ o = 0x09 then some s.nvmDataRead
  else match pageBase p with
    | some 0x0C0 => if o = 0x10 then some (s.maskDataRead (pageGroup p)) else none
    | some 0x100 =>
      let g := pageGroup p
      (match o with
        | 0x11 => some (s.cpmDataRead g)
        | 0x31 => some (s.ucDataRead g)
        | 0x3B => some (s.tblDataRead g)
        | 0x1C =>
          let (n, s) := s.draw
          let forcing := maskOf fun l => (s.chan g l).fe.stage.st != .hiz
          some (s.answer ((Config.clampSense g.val n &&& forcing).setWidth 32))
        | _ => none)
    | some 0x180 => if o = 0x0C then some (s.hsErrRead (pageTile p)) else none
    | _ => none

/-- A host read of a register address; `rf.read` takes the value (R455 to R458). -/
def State.hostRead (s : State) (a : Nat) : State :=
  match decodeAdr a with
  | some (p, o) =>
    match s.readEffect p o with
    | some t => t
    | none => s.answer (s.view p o)
  | none => s.answer 0

/-- Whether a register is posted (access PW). -/
def isPosted (p o : Nat) : Bool :=
  match pageBase p with
  | some 0x001 => o == 0x0F
  | some 0x006 => o == 0x16
  | some 0x00B => (decide (0x09 ≤ o) && decide (o ≤ 0x0C)) || o == 0x14
  | some 0x00D => o == 0x09 || o == 0x0A
  | some 0x0C0 => o == 0x10
  | some 0x100 => o == 0x08 || o == 0x11 || o == 0x31 || o == 0x3B
  | _ => false

/-- Whether a register is a posted data register; ARM and NVM.CMD are posted and hold no data (R478). -/
def isPostedData (p o : Nat) : Bool :=
  isPosted p o && !(pageBase p == some 0x100 && o == 0x08) && !(p == pNVM && o == 0x0A)

/-- Whether a read of DESC_DATA0 has to wait for the HOST store share. -/
def State.descStarved (s : State) : Bool :=
  let n := (DescWork.load (s.reg (adr pRING 0x08)).toNat).cost
  !s.rings.waits.isEmpty || (n != 0 && !s.fits none 2 cHOST n)

/-- Whether a read of a register has to wait: for BUSY of a posted data register (R478), for the HOST store share (15 R375). -/
def State.readWaits (s : State) (a : Nat) : Bool :=
  match decodeAdr a with
  | some (p, o) => (isPostedData p o && s.busy p) || (p == pRING && o == 9 && s.descStarved)
  | none => false

end Sys2Proof.Machine
end

