-- ==== Sys2Proof/Machine/Mc.lean ====
section
/-! DEFINITION. The management controller's micro-operations (05 R155, R156). A command carries the word the MC
fetched; the operands that the spec does not give are free values. -/

namespace Sys2Proof.Machine

open Sys2Proof

/-! ## Fields, registers, free operands -/

/-- OP of a micro-operation. -/
def mcOp (w : Word) : Nat := fld w 26 6

/-- RD of a micro-operation. -/
def mcRd (w : Word) : Fin 32 := ⟨fld w 21 5, Nat.mod_lt _ (by decide)⟩

/-- RS of a micro-operation. -/
def mcRs (w : Word) : Fin 32 := ⟨fld w 16 5, Nat.mod_lt _ (by decide)⟩

/-- IMM16 of a micro-operation. -/
def mcImm (w : Word) : BitVec 16 := w.setWidth 16

/-- A register M; M0 reads 0. -/
def State.mcReg (s : State) (i : Fin 32) : Word := if i = 0 then 0 else s.mc.m[i]

/-- A register M written; M0 stays 0. -/
def State.setMc (s : State) (i : Fin 32) (v : Word) : State :=
  if i = 0 then s else { s with mc := { s.mc with m := s.mc.m.set i.val v i.isLt } }

/-- The program counter set. -/
def State.mcGo (s : State) (k : BitVec 16) : State := { s with mc := { s.mc with pc := k } }

/-- The program counter steps. -/
def State.mcNext (s : State) : State := s.mcGo (s.mc.pc + 1)

/-- A family of free words that a micro-operation takes, one per index. -/
def State.mcFree (s : State) (w : Word) : (Nat → Word) × State :=
  let (n, t) := s.draw
  (fun i => Config.mcResult w (s.mcReg (mcRd w)) (s.mcReg (mcRs w)) (65536 * n + i), t)

/-! ## Fetch (R155) -/

/-- Whether the MC executes: its store is loaded (14 R346), it has not stopped, and its domain is clocked. -/
def State.mcExecutes (s : State) : Bool :=
  s.mode != .reset && (s.boot.done || decide (6 ≤ s.boot.stage.toNat)) && s.mcRuns

/-- The MC stops with a fault of kind MC_PARITY, on whose message the collector takes the unit to SAFE (R155, R156, 18 R437). -/
def State.mcStop (s : State) : State :=
  { s with mc := { s.mc with stopped := true } }.raise srcMC kMC_PARITY 0

/-- The stored word at the program counter. -/
def State.mcStored (s : State) : BitVec 36 := tget (mcWord 0) s.mc.store s.mc.pc.toNat

/-- A micro-operation of a class runs. A fetched word that does not agree with the stored parity bits is a parity
error. -/
def State.mcStep (s : State) (w : Word) (lo hi : Nat) (f : State → State) : State :=
  if s.mcExecutes = false then s
  else if s.mcStored.extractLsb' 32 4 ≠ mcParity w then (s.parityError 1 s.mc.pc.toNat).mcStop
  else if lo ≤ mcOp w ∧ mcOp w ≤ hi then f s
  else s

/-! ## The classes (R156) -/

/-- The two operands of an operation: of RD, RS and IMM16, whichever the MC's form of it takes (log entry 32). -/
def State.mcOperands (s : State) (w : Word) : Word × Word :=
  let rd := s.mcReg (mcRd w)
  let rs := s.mcReg (mcRs w)
  let z : Word := (mcImm w).setWidth 32
  let x : Word := (mcImm w).signExtend 32
  [(rd, rs), (rs, rd), (rs, z), (rs, x), (rd, z), (rd, x)].getD (Config.mcForm (mcOp w) 0 % 6) (rd, rs)

/-- The result of OP 0x00 to 0x07, in the order of R156: ADD, SUB, AND, OR, XOR, SHL, SHR, load immediate. -/
def State.mcResult (s : State) (w : Word) : Word :=
  let (x, y) := s.mcOperands w
  let n := if Config.mcForm (mcOp w) 1 % 2 = 0 then y.toNat else y.toNat % 32
  match mcOp w with
  | 0 => x + y
  | 1 => x - y
  | 2 => x &&& y
  | 3 => x ||| y
  | 4 => x ^^^ y
  | 5 => x <<< n
  | 6 => x >>> n
  | _ => [(mcImm w).setWidth 32, (mcImm w).signExtend 32,
      (s.mcReg (mcRd w)).extractLsb' 16 16 ++ mcImm w].getD (Config.mcForm 7 0 % 3) 0

/-- OP 0x00 to 0x07: RD takes the result. -/
def State.mcArith (s : State) (w : Word) : State := (s.setMc (mcRd w) (s.mcResult w)).mcNext

/-- An arithmetic micro-operation. -/
def execMcArith (w : Word) (s : State) : Host.Outcome State Fault Refusal := .next (s.mcStep w 0x00 0x07 fun s => s.mcArith w)

/-- OP 0x08 to 0x0B: a read into RD or a write from RS of the register at IMM16, an indirect space by its data register.
The value that the host last read stays; a read that has to wait holds the MC at its word (19 R478). A read of the mailbox as an
indirect space takes its frame (15 R380, R385). -/
def State.mcRegMap (s : State) (w : Word) : State :=
  let a := (mcImm w).toNat
  if mcOp w = 0x0A ∧ decodeAdr a = some (pMSP, 0x13) then
    let (f, s) := s.mcFree w
    (({ s with msp := { s.msp with mbox := none } }).setMc (mcRd w) (f 0)).mcNext
  else if mcOp w % 2 = 0 then
    if s.readWaits a then s
    else
    let t := s.hostRead a
    let v := t.rf.read
    (({ t with rf := { t.rf with read := s.rf.read } }).setMc (mcRd w) v).mcNext
  else (s.hostWrite a (s.mcReg (mcRs w))).mcNext

/-- A register or indirect-space micro-operation. -/
def execMcRegMap (w : Word) (s : State) : Host.Outcome State Fault Refusal := .next (s.mcStep w 0x08 0x0B fun s => s.mcRegMap w)

/-- OP 0x0C to 0x0F: branch, branch on RS zero, call, return. A return with nothing to return to goes to a free address. -/
def State.mcFlow (s : State) (w : Word) : State :=
  match mcOp w with
  | 0x0C => s.mcGo (mcImm w)
  | 0x0D => if s.mcReg (mcRs w) = 0 then s.mcGo (mcImm w) else s.mcNext
  | 0x0E => ({ s with mc := { s.mc with stack := (s.mc.pc + 1) :: s.mc.stack } }).mcGo (mcImm w)
  | _ =>
    match s.mc.stack with
    | k :: rest => ({ s with mc := { s.mc with stack := rest } }).mcGo k
    | [] =>
      let (f, s) := s.mcFree w
      s.mcGo ((f 0).setWidth 16)

/-- A flow micro-operation. -/
def execMcFlow (w : Word) (s : State) : Host.Outcome State Fault Refusal := .next (s.mcStep w 0x0C 0x0F fun s => s.mcFlow w)

/-- Root cycles that a wait of a number of MC cycles takes: the number is an operand, the MC's cycle is free. -/
def State.mcDelay (s : State) (w : Word) : Nat := (s.mcOperands w).1.toNat * (Config.mcForm 0x12 2 + 1)

/-- Whether what a wait waits for has come since it began: a tick, a flag, a number of MC cycles, in the order of R156; of
0x13, and of the cycles while the root count stands (13 R323), a free flag. -/
def State.mcWaited (s : State) (w : Word) (since : FrameNo × Nat) (flag : Bool) : Bool :=
  match mcOp w with
  | 0x10 => s.esc.frame != since.1
  | 0x12 => if s.rootRuns then decide (since.2 + s.mcDelay w ≤ s.rootNow) else flag
  | _ => flag

/-- OP 0x10 to 0x13: the wait begins, ends, or stands. -/
def State.mcWait (s : State) (w : Word) : State :=
  let (n, s) := s.draw
  let since := s.mc.since.getD (s.esc.frame, s.rootNow)
  if s.mcWaited w since (Config.mcFlag w n) then ({ s with mc := { s.mc with since := none } }).mcNext
  else { s with mc := { s.mc with since := some since } }

/-- A wait. -/
def execMcWait (w : Word) (s : State) : Host.Outcome State Fault Refusal := .next (s.mcStep w 0x10 0x13 fun s => s.mcWait w)

/-- A Kwenlink packet of free contents. -/
def mcPacket (f : Nat → Word) (src : Byte) : KlPacket :=
  mkPacket ((f 0).setWidth 8) src ((f 0).extractLsb' 8 4) (bit (f 0) 12) (bit (f 0) 13) ((f 0).extractLsb' 16 16)
    ((List.range ((f 1).toNat % 257)).map fun i => f (2 * i + 3) ++ f (2 * i + 2))

/-- An MSP reply of free contents. -/
def mcReply (f : Nat → Word) : MspReply :=
  { opAlive := (f 0).setWidth 8, status := 0, payload := (List.range ((f 1).toNat % 256)).map fun i => f (i + 2) }

/-- A reply is queued where none is undelivered: the port holds at most one (15 R373). -/
def State.queueReply (s : State) (r : MspReply) : State :=
  if s.msp.reply.isNone then { s with msp := { s.msp with reply := some r } } else s

/-- The first and the last KIND that a fault source sends; none for a reserved source (18 R433, R434). -/
def sourceKinds (c : Nat) : Option (Nat × Nat) :=
  if c = srcESTOP then some (kESTOP, kESTOP)
  else if c = srcCLK then some (kROOT_LOSS, kNO_REFERENCE)
  else if c = srcMC then some (kMC_PARITY, kMC_PARITY)
  else if c = srcTHM then some (kTHM_WARN, kSENSOR_FAIL)
  else if c = srcMODE then some (kCOMPAT, kCOMPAT)
  else if c = srcSYNC then some (kSYNC_LOST, kFN_MISMATCH)
  else if c = srcKL then some (kKL_DOWN, kKL_DOWN)
  else if c = srcPAIR then some (kPAIR_STUCK, kOWN_CONFLICT)
  else if c = srcMEM then some (kSTORE_CE, kSTORE_UE)
  else if c = srcRING then some (kDESC_PARITY, kDESC_PARITY)
  else if c = srcWEAR then some (kWEAR_SAT, kRELAY_EXHAUSTED)
  else if 0x010 ≤ c ∧ c ≤ 0x013 then some (kHS_UNLOCK, kTILE_LINK)
  else if 0x040 ≤ c ∧ c ≤ 0x07F then some (kCYCLE_GUARD, kQUAD)
  else if 0x080 ≤ c ∧ c ≤ 0x08F then some (kPAT_UNDERRUN, kPAT_UNDERRUN)
  else if 0x0C0 ≤ c ∧ c ≤ 0x0FF then some (kWAV_POISON, kWAV_POISON)
  else none

/-- Whether a fault source is one of those listed and sends a KIND (18 R433). -/
def sourceSends (c kind : Nat) : Bool := (sourceKinds c).any fun k => decide (k.1 ≤ kind) && decide (kind ≤ k.2)

/-- OP 0x14 to 0x17: a packet, an MSP reply, a unit event of the code and parameter of the command that the MC has taken (11
R286), a fault message; what the spec does not give of them is free. A unit that holds 0xFE originates no packet (16 R394); a
message that its source does not send is not sent (18 R433). -/
def State.mcMessage (s : State) (w : Word) : State :=
  let (f, s) := s.mcFree w
  let s := match mcOp w with
    | 0x14 => if s.kl.addr = 0xFE then s else s.originate cHOST (mcPacket f s.kl.addr)
    | 0x15 => s.queueReply (mcReply f)
    | 0x16 =>
      match s.mc.cmd with
      | some c => s.unitEvent ((f 0).toNat % 8) 8 c.code.toNat (c.param.setWidth 32)
      | none => s
    | _ => if sourceSends (fld (f 0) 22 10) (fld (f 0) 16 6) then s.sendMsg (fld (f 0) 22 10) { word := f 0 } else s
  s.mcNext

/-- A message micro-operation. -/
def execMcMessage (w : Word) (s : State) : Host.Outcome State Fault Refusal := .next (s.mcStep w 0x14 0x17 fun s => s.mcMessage w)

/-- A word of a group store, in either region, written whole with free contents. -/
def State.mcStoreWord (s : State) (g : GroupIx) (a : Nat) (f : Nat → Word) : State :=
  (List.range 6).foldl (fun s p => s.setUcPart g a p (f (p + 1))) s

/-- A vendor routine of a group is requested: it is attempted again in this frame (12 R298). -/
def State.requestVendor (s : State) (g : GroupIx) (order : Nat) : State :=
  s.modG g fun gr => { gr with vendorAt := min gr.vendorAt (order - 1) }

/-- OP 0x18 to 0x1B: a group store word in either region, a vendor routine requested, a group stopped. The group, the
address, the routine and the stop's kind are free. -/
def State.mcGroupControl (s : State) (w : Word) : State :=
  let (f, s) := s.mcFree w
  let g := groupOf (16 * (f 0).toNat)
  let s := match mcOp w with
    | 0x18 => s.mcStoreWord g (fld (f 0) 8 12) f
    | 0x19 => s.mcStoreWord g (fld (f 0) 8 12) f
    | 0x1A => s.requestVendor g ((f 0).toNat % 6 + 1)
    | _ => s.groupActions g (fld (f 1) 0 6) (fld (f 1) 16 12)
  s.mcNext

/-- A group-control micro-operation. -/
def execMcGroupControl (w : Word) (s : State) : Host.Outcome State Fault Refusal :=
  .next (s.mcStep w 0x18 0x1B fun s => s.mcGroupControl w)

/-- A mode change of the MC: one of the entries of R352, R353, R22 and R358, where it is due; which one is free. -/
def State.mcChange (s : State) (k : Nat) : State :=
  match k % 3 with
  | 0 => s.configureEntry
  | 1 => s.runEntry
  | _ => s.factoryEntry

/-- OP 0x1C to 0x1F: a mode change; START and STOP go to the escapement; SAFE is entered with a free cause. -/
def State.mcMode (s : State) (w : Word) : State :=
  let s := s.mcNext
  match mcOp w with
  | 0x1C =>
    let (f, s) := s.mcFree w
    s.mcChange (f 0).toNat
  | 0x1D => s.startCmd
  | 0x1E => s.stopCmd
  | 0x1F =>
    let (f, s) := s.mcFree w
    s.enterSafe ((f 0).toNat % 6 + 1)
  | _ => s

/-- A mode micro-operation. -/
def execMcMode (w : Word) (s : State) : Host.Outcome State Fault Refusal := .next (s.mcStep w 0x1C 0x1F fun s => s.mcMode w)

/-- A reserved OP, 0x20 to 0x3F, stops the MC. -/
def execMcReservedOp (w : Word) (s : State) : Host.Outcome State Fault Refusal := .next (s.mcStep w 0x20 0x3F State.mcStop)

end Sys2Proof.Machine
end

