-- ==== Sys2Proof/Machine/Msp.lean ====
section
/-! DEFINITION. The management port (15): frames and their checks, alive counters, pipelined replies, bursts and their
pacing, raw frames. A command is one frame as clocked in. -/

namespace Sys2Proof.Machine

open Sys2Proof

/-! ## Words of a frame (R365) -/

/-- Header word 0. -/
def frameWord0 (f : MspFrame) : Word := f.addr ++ f.op ++ f.alive ++ f.reg

/-- Header word 1. -/
def frameWord1 (f : MspFrame) : Word := f.len ++ f.reserved ++ BitVec.ofBool f.noInc ++ f.low

/-- CRC of a frame's bits before the trailer. -/
def frameCrc (f : MspFrame) : BitVec 16 :=
  f.payload.foldl (fun c w => crc16 c w) (crc16 (crc16 0xFFFF#16 (frameWord0 f)) (frameWord1 f))

/-- Bytes of a frame in the order sent. -/
def frameBytes (f : MspFrame) : List Byte :=
  ((frameWord0 f :: frameWord1 f :: f.payload) ++ [f.crc.setWidth 32]).flatMap wordBytes

/-- 32-bit words of a byte list; a last part is filled with zeros. -/
def wireWord (l : List Byte) (i : Nat) : Word :=
  l.getD (4 * i) 0 ++ l.getD (4 * i + 1) 0 ++ l.getD (4 * i + 2) 0 ++ l.getD (4 * i + 3) 0

/-- A byte string read as a protected frame. -/
def frameOf (bits : Nat) (l : List Byte) : MspFrame :=
  let n := (l.length + 3) / 4
  let w0 := wireWord l 0
  let w1 := wireWord l 1
  { quiet := true, bits := bits, addr := w0.extractLsb' 24 8, op := w0.extractLsb' 20 4, alive := w0.extractLsb' 16 4,
    reg := w0.setWidth 16, len := w1.extractLsb' 24 8, reserved := w1.extractLsb' 17 7, noInc := bit w1 16,
    low := w1.setWidth 16, payload := (List.range (n - 3)).map fun i => wireWord l (i + 2),
    crc := (wireWord l (n - 1)).setWidth 16 }

/-! ## Rejections and replies (R367 to R373) -/

/-- A frame is rejected with a STATUS bit (R368, R380). -/
def State.rejectFrame (s : State) (b : Nat) : State :=
  let s := { s with msp := { s.msp with rejects := s.msp.rejects ||| (1#16 <<< b) } }
  (s.bump (adr pMSP 0x0F)).event pMSP 0

/-- Words of a reply (R367). -/
def State.replyWords (s : State) (r : MspReply) : List Word :=
  let w0 : Word := s.kl.addr ++ r.opAlive ++ (r.status ||| s.msp.rejects)
  let w1 : Word := BitVec.ofNat 32 (r.payload.length <<< 24)
  let crc := r.payload.foldl (fun c w => crc16 c w) (crc16 (crc16 0xFFFF#16 w0) w1)
  (w0 :: w1 :: r.payload) ++ [crc.setWidth 32]

/-- Whether a reply is ready: no word of its burst, no read of its own and no descriptor write of its own waits (R372, R375,
R378, 19 R478). -/
def State.replyReady (s : State) (r : MspReply) : Bool := s.msp.burst.isEmpty && r.todo.isEmpty && !(r.desc && s.descWaits)

/-- What MISO carries while a frame of n bits is clocked: the reply, the busy word, or nothing (R371 to R373). -/
def State.driveMiso (s : State) (n : Nat) : State :=
  if s.msp.drive = false then { s with msp := { s.msp with out := [] } }
  else match s.msp.reply with
    | none => { s with msp := { s.msp with out := [] } }
    | some r =>
      if s.replyReady r then
        let ws := s.replyWords r
        if 32 * ws.length ≤ n then { s with msp := { s.msp with out := ws, reply := none, rejects := 0 } }
        else { s with msp := { s.msp with out := ws.take (n / 32) } }
      else ({ s with msp := { s.msp with out := List.replicate (n / 32) 0xC3C3C3C3#32 } }).bump (adr pMSP 0x11)

/-! ## Bursts (R377, R378) -/

/-- Register address of word i of a burst. -/
def burstAdr (reg : Nat) (noInc : Bool) (i : Nat) : Nat := if noInc then reg else reg / 64 * 64 + (reg % 64 + i) % 64

/-- Whether a burst of k words steps past offset 0x3F. -/
def burstWraps (reg : Nat) (noInc : Bool) (k : Nat) : Bool := !noInc && decide (64 ≤ reg % 64 + k)

/-- The words of a burst are written in order up to one for a posted register whose page is busy: what still waits, and
the state (R378). -/
def State.burstWrite : List (Nat × Word) → State → List (Nat × Word) × State
  | [], s => ([], s)
  | (a, v) :: rest, s =>
    match decodeAdr a with
    | some (p, o) =>
      if isPosted p o && s.busy p then ((a, v) :: rest, s) else State.burstWrite rest (s.writeAt p o v)
    | none => State.burstWrite rest s

/-- The words of the port's burst go on; the reply that the port holds waits for a descriptor write of them that waits (R375). -/
def State.burstGo (l : List (Nat × Word)) (s : State) : State :=
  let waited := s.descWaits
  let (left, s) := State.burstWrite l s
  let mine := s.descWaits && !waited
  { s with msp := { s.msp with burst := left, reply := s.msp.reply.map fun r => { r with desc := r.desc || mine } } }

/-- The words of a Kwenlink request go on; the reply that waits for them leaves after the last (16 R403), and for a descriptor
write of the request that waits (R375). -/
def State.klBurstGo (l : List (Nat × Word)) (s : State) : State :=
  let waited := s.descWaits
  let (left, s) := State.burstWrite l s
  let desc := s.kl.desc || (s.descWaits && !waited)
  match left, s.kl.due with
  | [], some p =>
    if desc && s.descWaits then { s with kl := { s.kl with burst := [], desc := true } }
    else ({ s with kl := { s.kl with burst := [], due := none, desc := false } }).originate cHOST p
  | _, some _ => { s with kl := { s.kl with burst := left, desc := desc } }
  | _, none => { s with kl := { s.kl with burst := left } }

/-- Whether a word is the first of those that wait. -/
def waitsFirst (l : List (Nat × Word)) (a : Nat) (v : Word) : Bool :=
  match l with
  | w :: _ => w.1 == a && w.2 == v
  | [] => false

/-! ## Reads (19 R478, R375) -/

/-- Register addresses of a burst of k words. -/
def burstAdrs (reg : Nat) (noInc : Bool) (k : Nat) : List Nat := (List.range k).map (burstAdr reg noInc)

/-- Registers are read in order up to one that has to wait: the values, the addresses left, and the state. -/
def State.readOn : List Nat → List Word → State → List Word × List Nat × State
  | [], vs, s => (vs, [], s)
  | a :: rest, vs, s =>
    if s.readWaits a then (vs, a :: rest, if s.fits none 2 cHOST 4 then s else s.starved none 2 cHOST 4)
    else
      let t := s.hostRead a
      State.readOn rest (vs ++ [t.rf.read]) t

/-- The reads of the reply that the port holds go on. -/
def State.replyGo (s : State) : State :=
  match s.msp.reply with
  | none => s
  | some r =>
    let (vs, left, s) := State.readOn r.todo r.payload s
    { s with msp := { s.msp with reply := some { r with payload := vs, todo := left } } }

/-! ## Commands by code (05 R157) -/

/-- What a command code runs; `none` for an unknown code. -/
def commandOf (code : Nat) (param : BitVec 24) : Option (State → State) :=
  match code with
  | 0x01 => some State.startCmd
  | 0x02 => some State.stopCmd
  | 0x03 => some State.recoverCmd
  | 0x04 => some fun s => s.calNow param
  | 0x05 => some fun s => if s.mode = .enumerate then s.enumAssign (param.setWidth 32) else s.cmdRefused
  | 0x06 => some fun s => s.armCmd param
  | 0x07 => some fun s => s.resumeCmd param
  | 0x08 => some State.snapAllCmd
  | 0x09 => some State.factoryCmd
  | _ => none

/-- A COMMAND word of a path; an unknown code is refused in the reply that the port holds. -/
def State.commandWord (s : State) (from_ : CommandFrom) (w : Word) : State :=
  match commandOf (fld w 24 8) (w.setWidth 24) with
  | some f => s.command from_ (fld w 24 8) (w.setWidth 24) f
  | none => { s with msp := { s.msp with reply := s.msp.reply.map fun r =>
      if from_ = .msp then { r with status := r.status ||| 0x80#16 } else r } }

/-! ## The checks (R368 to R370) -/

/-- Whether a unit that holds 0xFE takes frames addressed to 0xFE (R368, R369). -/
def State.takesFE (s : State) : Bool :=
  s.kl.addr == 0xFE && (if s.mode = .boot then s.boot.failed else s.mode != .enumerate && s.mode != .reset)

/-- Whether a frame is addressed to this unit alone. -/
def State.unicast (s : State) (f : MspFrame) : Bool :=
  (f.addr == s.kl.addr && f.addr != 0xFE && f.addr != 0xFF) || (f.addr == 0xFE && s.takesFE)

/-- Whether the unit considers a frame (R368, R369). -/
def State.considers (s : State) (f : MspFrame) : Bool :=
  decide (8 ≤ f.bits) && (if s.mode = .boot then s.boot.failed else s.mode != .reset) && (f.addr == 0xFF || s.unicast f)

/-- The alive counter: whether a frame passes, and the values after it (R370). -/
def State.aliveCheck (s : State) (f : MspFrame) : Bool × State :=
  if s.unicast f then
    let ok := !s.msp.ucSync || s.msp.uc == f.alive
    (ok, { s with msp := { s.msp with uc := f.alive + 1, ucSync := ok } })
  else
    let ok := !s.msp.bcSync || s.msp.bc == f.alive
    (ok, { s with msp := { s.msp with bc := f.alive + 1, bcSync := ok } })

/-- Required payload words of an opcode; `none` where it is unknown (R366). -/
def frameNeeds (op : Nat) : Option Nat :=
  match op with
  | 0x1 => some 1
  | 0x2 => some 1
  | 0x4 => some 1
  | 0x5 => some 1
  | 0x8 => some 1
  | 0x9 => some 1
  | 0xF => some 0
  | _ => none

/-- Whether the address and the mode allow an opcode (R366, R369). -/
def State.opAllowed (s : State) (f : MspFrame) : Bool :=
  let bc := f.addr == 0xFF
  match s.mode with
  | .reset => false
  | .boot => !bc && (f.op == 0x2 || f.op == 0x4) && f.reg.toNat / 64 % 512 == pBOOT
  | .enumerate => bc && (f.op == 0x1 || f.op == 0x5 || f.op == 0x8 || f.op == 0x9)
  | .configure | .run | .mirror | .safe | .factory =>
    if bc then f.op == 0x1 || f.op == 0x5 || f.op == 0x8 || f.op == 0x9 else f.op != 0x8

/-- Whether the reserved fields and the counts of a frame are right (R365, R366). -/
def fieldsOk (f : MspFrame) : Bool :=
  let w := f.payload.getD 0 0
  f.reserved == 0 && f.low == 0 && (match f.op.toNat with
    | 0x2 => w == 0
    | 0x4 => decide (1 ≤ w.toNat) && decide (w.toNat ≤ 128)
    | _ => true)

/-- Check 5 of R368. -/
def State.opCheck (s : State) (f : MspFrame) : Bool :=
  (match frameNeeds f.op.toNat with
    | some n => decide (n ≤ f.len.toNat)
    | none => false) && s.opAllowed f && fieldsOk f

/-! ## Effects of an accepted frame (R366, R371, R374) -/

/-- A reply is made for a unicast frame, with the registers to be read for it. -/
def State.setReply (s : State) (f : MspFrame) (wrap : Bool) (todo : List Nat) : State :=
  if s.unicast f then
    let r : MspReply :=
      { opAlive := f.op ++ f.alive, status := if wrap then 0x40 else 0, payload := [], todo := todo }
    ({ s with msp := { s.msp with reply := some r } }).replyGo
  else s

/-- The reply that the port holds waits for a descriptor write that its frame left waiting (R375). -/
def State.holdReply (s : State) (before : State) : State :=
  let mine := s.descWaits && !before.descWaits
  { s with msp := { s.msp with reply := s.msp.reply.map fun r => { r with desc := mine } } }

/-- What an accepted frame does. Words of a burst that still wait go before those of a later one (log entry 70). -/
def State.frameEffect (s : State) (f : MspFrame) : State :=
  let a := f.reg.toNat
  let w := f.payload.getD 0 0
  match f.op.toNat with
  | 0x1 => ((s.hostWrite a w).setReply f false []).holdReply s
  | 0x2 => s.setReply f false [a]
  | 0x4 => s.setReply f (burstWraps a f.noInc w.toNat) (burstAdrs a f.noInc w.toNat)
  | 0x5 =>
    let ws := (List.range f.len.toNat).map fun i => (burstAdr a f.noInc i, f.payload.getD i 0)
    ((State.burstGo (s.msp.burst ++ ws) s).setReply f (burstWraps a f.noInc f.len.toNat) []).holdReply s
  | 0x8 => s.enumAssign w
  | 0x9 => (s.setReply f false []).commandWord .msp w
  | _ => if s.msp.reply.isSome then s else s.setReply f false []

/-- A frame that passes every check. -/
def State.acceptFrame (s : State) (f : MspFrame) : State :=
  let s := s.bump (adr pMSP 0x0E)
  (({ s with msp := { s.msp with drive := s.unicast f } }).frameEffect f)

/-- A protected frame that the unit considers meets the six checks in order (R368). -/
def State.protectedFrame (s : State) (f : MspFrame) : State :=
  let n := f.len.toNat
  if f.bits % s.wordSize ≠ 0 then s.rejectFrame 3
  else if 128 < n ∨ f.bits ≠ 32 * (3 + n) ∨ f.payload.length ≠ n then s.rejectFrame 2
  else if f.crc ≠ frameCrc f then ((s.rejectFrame 0).bump (adr pMSP 0x10)).event pMSP 1
  else
    let (ok, s) := s.aliveCheck f
    if ok = false then s.rejectFrame 1
    else if s.opCheck f = false then s.rejectFrame 4
    else if s.msp.reply.isSome = true ∧ f.op ≠ 0xF then s.rejectFrame 5
    else s.acceptFrame f

/-! ## Raw frames (R379 to R381) -/

/-- A raw frame of a counted run: WORD_ERR, LEN_ERR, RAW_OVF, or the mailbox takes its bits (R379, R380, R385). -/
def State.rawTake (s : State) (bits : Nat) (bytes : List Byte) : State :=
  let s := { s with msp := { s.msp with raw := s.msp.raw - 1 } }
  if bits % s.wordSize ≠ 0 then s.rejectFrame 3
  else if bits ≠ s.regF (adr pMSP 0x0A) 0 14 then s.rejectFrame 2
  else if s.msp.mbox.isSome then (s.rejectFrame 8).event pMSP 2
  else ({ s with msp := { s.msp with mbox := some (bits, bytes) } }).bump (adr pMSP 0x0E)

/-- A frame on the bus, as bytes and as a protected frame would read them. Nothing listens in RESET, with both clocks lost, or
while the unit masters the bus; after an arbitration SEL_n must stay high for 2 µs. After a frame that it ignores the unit
drives nothing (R362, R371, R384, 13 R325). -/
def State.busFrame (s : State) (quiet : Bool) (bytes : List Byte) (f : MspFrame) : State :=
  if s.mode = .reset ∨ s.clk.gated = true ∨ s.msp.mastering = true ∨ (s.msp.quiet || quiet) = false then
    { s with msp := { s.msp with drive := false, out := [] } }
  else
    let s := ({ s with msp := { s.msp with quiet := true } }).driveMiso f.bits
    let s := { s with msp := { s.msp with drive := false } }
    if s.takesImage then s.imageFrame f.bits bytes
    else if s.msp.raw ≠ 0 ∧ s.mode ≠ .boot then s.rawTake f.bits bytes
    else if s.considers f then s.protectedFrame f
    else s

/-- A protected frame. Its opcode field says what it does, whichever row brings it (log entry 71). -/
def State.mspFrame (s : State) (f : MspFrame) : State := s.busFrame f.quiet (frameBytes f) f

/-- A WRITE frame. -/
def execMspWrite (f : MspFrame) (s : State) : Host.Outcome State Fault Refusal := .next (s.mspFrame f)

/-- A READ frame. -/
def execMspRead (f : MspFrame) (s : State) : Host.Outcome State Fault Refusal := .next (s.mspFrame f)

/-- A BURST_READ frame. -/
def execMspBurstRead (f : MspFrame) (s : State) : Host.Outcome State Fault Refusal := .next (s.mspFrame f)

/-- A BURST_WRITE frame. -/
def execMspBurstWrite (f : MspFrame) (s : State) : Host.Outcome State Fault Refusal := .next (s.mspFrame f)

/-- A NOP frame. -/
def execMspNop (f : MspFrame) (s : State) : Host.Outcome State Fault Refusal := .next (s.mspFrame f)

/-- A frame of raw bits: a unit in protected mode reads it as a protected frame (R380). -/
def execRawFrame (x : Selection) (bytes : List Byte) (s : State) : Host.Outcome State Fault Refusal :=
  .next (s.busFrame x.quiet bytes (frameOf x.bits bytes))

/-- A raw frame of the image, for a unit in stage IMAGE with source MSP (R381). -/
def execImageFrame (x : Selection) (bytes : List Byte) (s : State) : Host.Outcome State Fault Refusal :=
  .next (if s.takesImage then s.busFrame x.quiet bytes (frameOf x.bits bytes) else s)

end Sys2Proof.Machine
end

