-- ==== Sys2Proof/Machine/Kwenlink.lean ====
section
/-! DEFINITION. Kwenlink (16): the receiver, the packets at KL_RX and what a taken packet does, result credit and
replay, register requests and their replies. -/

namespace Sys2Proof.Machine

open Sys2Proof

/-! ## The receiver (R388) -/

/-- Both lanes gain block lock. -/
def execKlBlockLock (s : State) : Host.Outcome State Fault Refusal := .next <|
  if s.kl.rx = .down then { s with kl := { s.kl with rx := .locked } } else s

/-- An ALIGN pair is found. -/
def execKlAlignFound (s : State) : Host.Outcome State Fault Refusal := .next <|
  if s.kl.rx = .locked then { s with kl := { s.kl with rx := .aligned } } else s

/-- Four ALIGN pairs have come at their index: an aligned KL_RX reaches UP. -/
def execKlRxUp (s : State) : Host.Outcome State Fault Refusal := .next <|
  if s.kl.rx = .aligned then ({ s with kl := { s.kl with rx := .up } }).event pKL 3 else s

/-- Block lock, or two ALIGN pairs, are lost: every open packet is void. -/
def execKlRxDown (s : State) : Host.Outcome State Fault Refusal := .next <|
  if s.kl.rx = .down then s
  else
    let s := { s with kl := { s.kl with rx := .down, ctx := .idle, susp := [] } }
    ((s.bump (adr pKL 0x14)).event pKL 2).raise srcKL kKL_DOWN 0

/-! ## Result credit and replay (R398, R399) -/

/-- A held packet as it is sent again. -/
def State.heldPacket (s : State) (h : Held) : KlPacket :=
  mkPacket 0xFE s.kl.addr 0x3 false false h.seq (toBlocks h.words)

/-- RSLT packets that wait for their class and are no longer held, or are to be sent again, do not go out. -/
def State.unwait (s : State) (keep : BitVec 16 → Bool) : State :=
  { s with kl := { s.kl with wait := s.kl.wait.filter fun w => w.2.kind != 3 || keep w.2.seq } }

/-- Every held packet is sent again, in order; each counts, and is charged again (R399, R401). -/
def State.resend (s : State) : State :=
  s.kl.replay.foldl (fun s h => ((s.bump (adr pKL 0x10)).event pKL 1).originate cRES (s.heldPacket h))
    (s.unwait fun _ => false)

/-- ACK_SEQ, the next RSLT sequence expected, frees the packets before it (R398, R399). -/
def State.ackResults (s : State) (ack : BitVec 16) : State :=
  match s.kl.replay with
  | [] => s
  | h :: _ =>
    let n := (ack - h.seq).toNat
    if n ≤ s.kl.replay.length then
      let left := s.kl.replay.drop n
      ({ s with kl := { s.kl with replay := left } }).unwait fun q => left.any fun h => h.seq == q
    else s

/-- A RESULT CREDIT (R398, R399). -/
def State.resultCredit (s : State) (ack : BitVec 16) (limit : Word) : State :=
  ({ s with kl := { s.kl with limit := limit } }).ackResults ack

/-- A RESULT CREDIT with NAK: what ACK_SEQ does not free is sent again. -/
def State.resultNak (s : State) (ack : BitVec 16) (limit : Word) : State :=
  (s.resultCredit ack limit).resend

/-- A RESULT CREDIT arrives. -/
def execCreditResult (ackSeq : BitVec 16) (limit : Word) (s : State) : Host.Outcome State Fault Refusal :=
  .next (s.carried fun s => s.resultCredit ackSeq limit)

/-- A RESULT CREDIT with NAK arrives. -/
def execResultNak (ackSeq : BitVec 16) (limit : Word) (s : State) : Host.Outcome State Fault Refusal :=
  .next (s.carried fun s => s.resultNak ackSeq limit)

/-- 64 µs have passed with packets held and no acknowledgment advancing. The time does not run without the root (13 R323). -/
def execReplayTimeout (s : State) : Host.Outcome State Fault Refusal := .next <| if s.rootRuns then s.resend else s

/-! ## Register requests (R403, R404) -/

/-- Status bits of a reply (R367, R404). -/
def stOpErr : Word := 0x10#32
def stWrap : Word := 0x40#32
def stRefused : Word := 0x80#32
def stDup : BitVec 64 := 0x200#64

/-- Whether the fields of a request are right: k, LEN and the reserved fields (R403, R404). -/
def RegRequestOk (write : Bool) (r : RegRequest) : Bool :=
  let k := r.k.toNat
  decide (1 ≤ k) && decide (k ≤ 128) && !r.reserved &&
    (if write then r.len == (k + 2) / 2 && (!r.command || k == 1) else r.len == 1 && !r.command)

/-- Whether the unit takes a request (R369, R394, R404): a broadcast, or a unicast to the address it holds. -/
def State.takesRequest (s : State) (broadcast : Bool) : Bool :=
  !s.clk.gated &&
    (match s.mode with
      | .reset => false
      | .boot => broadcast && s.inStage 3 && s.boot.src == 2
      | .enumerate => broadcast
      | .configure | .run | .mirror | .safe | .factory => broadcast || s.kl.addr != 0xFE)

/-- A reply packet: STATUS and k, then the data, two words to a block. -/
def State.regReply (s : State) (kind : BitVec 4) (seq : BitVec 16) (status : Word) (vs : List Word) : KlPacket :=
  mkPacket 0xFE s.kl.addr kind false true seq (toBlocks ((status ||| BitVec.ofNat 32 (vs.length <<< 24)) :: vs))

/-- A command of a request: whether it is refused, and what it does (R157, R403). ENUM_ASSIGN acts at once (R407). -/
def State.requestCommand (s : State) (w : Word) : Bool × State :=
  let code := fld w 24 8
  if code = 5 then (false, s.enumAssign (w &&& 0xFFFFFF#32))
  else
    let full := !(s.mc.queue.isEmpty && s.mcRuns) && decide (16 ≤ s.mc.queue.length)
    ((commandOf code (w.setWidth 24)).isNone || full, s.commandWord .kwenlink w)

/-- Words of a burst of a request, by register address. -/
def RegRequestWords (r : RegRequest) : List (Nat × Word) :=
  (List.range r.k.toNat).map fun i => (burstAdr r.addr.toNat r.noInc i, r.data.getD i 0)

/-- What an executed REGW does, and the STATUS of its reply. -/
def State.regwRun (s : State) (r : RegRequest) : Word × State :=
  if RegRequestOk true r = false then (stOpErr, s)
  else if r.command then
    let (refused, s) := s.requestCommand (r.data.getD 0 0)
    (if refused then stRefused else 0, s)
  else
    let s := State.klBurstGo (RegRequestWords r) s
    (if burstWraps r.addr.toNat r.noInc r.k.toNat then stWrap else 0, s)

/-- In BOOT only words for BOOT.IMG_DATA are taken (R404). -/
def imgOnly (r : RegRequest) : Bool :=
  !r.command && (RegRequestWords r).all fun w => decodeAdr w.1 == some (pBOOT, 0x0F)

/-- A kept reply as it is sent again. -/
def dupReply (p : KlPacket) : KlPacket :=
  match p.payload with
  | b :: rest => mkPacket p.dest p.src p.kind p.urg p.resp p.seq ((b ||| stDup) :: rest)
  | [] => p

/-- A REGW request. One whose SEQ is among the last sixteen is not executed again (R404); the reply waits for words, and for a
descriptor write, that wait (15 R375). -/
def State.regw (s : State) (r : RegRequest) : State :=
  if s.takesRequest r.broadcast = false ∨ (s.mode = .boot ∧ imgOnly r = false) then s
  else if r.broadcast then (s.regwRun r).2
  else
    match s.kl.cache.find? (fun c => c.1 == r.seq) with
    | some (_, p) => (s.bump (adr pKL 0x13)).originate cHOST (dupReply p)
    | none =>
      let waited := s.descWaits
      let (status, s) := s.regwRun r
      let mine := s.descWaits && !waited
      let p := s.regReply 0x4 r.seq status []
      let s := { s with kl := { s.kl with cache := ((r.seq, p) :: s.kl.cache).take 16 } }
      if s.kl.burst.isEmpty && !mine then s.originate cHOST p
      else { s with kl := { s.kl with due := some p, desc := mine } }

/-- The reads of a REGR request go on; with the last of them its reply leaves. -/
def State.klReadGo (s : State) : State :=
  match s.kl.reads with
  | none => s
  | some x =>
    let (vs, left, s) := State.readOn x.todo x.got s
    if left.isEmpty then
      ({ s with kl := { s.kl with reads := none } }).originate cHOST (s.regReply 0x5 x.seq (if x.wrap then stWrap else 0) vs)
    else { s with kl := { s.kl with reads := some { x with got := vs, todo := left } } }

/-- A REGR request. It is always addressed to one unit (R392); a wrong one is answered with OP_ERR and no data. -/
def State.regr (s : State) (r : RegRequest) : State :=
  if r.broadcast = true ∨ s.takesRequest r.broadcast = false then s
  else if RegRequestOk false r = false then s.originate cHOST (s.regReply 0x5 r.seq stOpErr [])
  else
    let x : KlRead := { seq := r.seq, wrap := burstWraps r.addr.toNat r.noInc r.k.toNat, got := [],
                        todo := burstAdrs r.addr.toNat r.noInc r.k.toNat }
    ({ s with kl := { s.kl with reads := some x } }).klReadGo

/-- Requests of the path are carried out one at a time, in order: one that comes while another waits, waits behind it (19
R467). -/
def State.request (s : State) (write : Bool) (r : RegRequest) : State :=
  if !s.kl.burst.isEmpty || s.kl.due.isSome || s.kl.reads.isSome then { s with kl := { s.kl with reqs := s.kl.reqs ++ [(write, r)] } }
  else if write then s.regw r
  else s.regr r

/-- A REGW request arrives. -/
def execRegw (r : RegRequest) (s : State) : Host.Outcome State Fault Refusal := .next (s.carried fun s => s.request true r)

/-- A REGR request arrives. -/
def execRegr (r : RegRequest) (s : State) : Host.Outcome State Fault Refusal := .next (s.carried fun s => s.request false r)

/-! ## Accesses that waited (R378, 15 R375; 19 R478) -/

/-- The accesses of both paths that waited go on: the rest of a burst, the reads of a reply, the requests behind them. -/
def State.resume (s : State) : State :=
  let s := (State.burstGo s.msp.burst s).replyGo
  let s := (State.klBurstGo s.kl.burst s).klReadGo
  s.kl.reqs.foldl (fun s q => s.request q.1 q.2) { s with kl := { s.kl with reqs := [] } }

/-- A posted write completes; what waits for BUSY goes on. -/
def execPostedWriteComplete (page : Nat) (s : State) : Host.Outcome State Fault Refusal :=
  .next (s.postedDone (page % 512)).resume

/-- An MRAM commit completes; what waits for BUSY goes on. -/
def execNvmCommitDone (s : State) : Host.Outcome State Fault Refusal := .next s.nvmCommitDone.resume

/-- The pending descriptor write's effect; what waits for it goes on (11 R275). -/
def execDescWriteEffect (s : State) : Host.Outcome State Fault Refusal := .next s.descEffect.descRetry.resume

/-- 100 µs pass with BUSY set: the waiting word is written anyway, and dropped (R378). -/
def State.pacingEnd (s : State) (a : Nat) (v : Word) : State :=
  if waitsFirst s.msp.burst a v then (State.burstGo s.msp.burst.tail (s.hostWrite a v)).resume
  else if waitsFirst s.kl.burst a v then (State.klBurstGo s.kl.burst.tail (s.hostWrite a v)).resume
  else s

/-- The pacing wait of a burst ends. -/
def execPacingTimeout (addr : BitVec 16) (v : Word) (s : State) : Host.Outcome State Fault Refusal :=
  .next (s.pacingEnd addr.toNat v)

/-- The frame count expires; accesses that waited for the new frame's shares go on. -/
def execFrameTick (s : State) : Host.Outcome State Fault Refusal := .next s.tick.resume

/-! ## Packets at KL_RX (R389 to R394) -/

/-- A request packet's fields (R403). -/
def requestOf (p : KlPacket) : RegRequest :=
  let b := p.payload.getD 0 0
  let k := b.extractLsb' 24 8
  { broadcast := p.dest == 0xFF, seq := p.seq, addr := b.extractLsb' 0 16, noInc := b.getLsbD 16, command := b.getLsbD 17,
    reserved := b.extractLsb' 18 6 != 0, k := k, len := p.payload.length,
    data := ((p.payload.flatMap blockWords).drop 1).take k.toNat }

/-- Which of the checks of R393 a taken packet fails: 1 its context, TYPE or LEN, 2 its CRC. -/
def packetFails (p : KlPacket) : Nat :=
  if p.context ≠ .whole ∨ p.kind.toNat = 0 ∨ 9 < p.kind.toNat ∨ 512 < p.len.toNat then 1
  else if p.len.toNat ≠ p.payload.length ∨ p.crc ≠ klCrc p then 2
  else 0

/-- A taken CREDIT (R398): kinds 2 to 15 are dropped; a STREAM credit is for the adapter. -/
def State.takeCredit (s : State) (b : BitVec 64) : State :=
  let ack := b.extractLsb' 16 16
  let limit := b.extractLsb' 32 32
  if b.extractLsb' 0 4 = 0 then (if b.getLsbD 8 then s.resultNak ack limit else s.resultCredit ack limit)
  else if b.extractLsb' 0 4 = 1 then s
  else s.bump (adr pKL 0x0F)

/-- A taken STRM packet (07 R211). -/
def State.takeStrm (s : State) (p : KlPacket) (b : BitVec 64) : State :=
  let i : StreamIx := (b.extractLsb' 56 4).toFin
  let data := (p.payload.drop 1).flatMap blockBytes
  let kind := (b.extractLsb' 62 2).toNat
  if kind < 2 then s.strmPacket i p.seq (kind == 1) (b.extractLsb' 0 32) data
  else s.strmTake i p.seq data.length fun s => s.strmDrop i

/-- What a packet that passes its checks does (R392, R405). RSLT packets and replies are for the adapter. In BOOT and ENUMERATE
only register writes act, an ENUM_ASSIGN among them (14 R352; R404). -/
def State.packetEffect (s : State) (p : KlPacket) : State :=
  let b := p.payload.getD 0 0
  let c := p.payload.getD 1 0
  if (s.mode = .boot ∨ s.mode = .enumerate) ∧ p.kind.toNat ≠ 4 then s
  else match p.kind.toNat with
  | 1 => s.tickMark (b.extractLsb' 0 48)
  | 2 => s.takeStrm p b
  | 4 => if p.resp then s else s.request true (requestOf p)
  | 5 => if p.resp then s else s.request false (requestOf p)
  | 6 => s.armPacket (b.extractLsb' 0 48) (c.extractLsb' 0 16) (c.extractLsb' 16 2).toFin (c.getLsbD 18)
  | 7 => s.fireNext (b.extractLsb' 0 4)
  | 8 => if p.urg then s.urgentStop else s.command .kwenlink 2 0 State.stopCmd
  | 9 => s.takeCredit b
  | _ => s

/-- A packet the unit takes meets the checks of R393, then has its effect. A halted BOOT and RESET take none (R350). -/
def State.takePacket (s : State) (p : KlPacket) : State :=
  match packetFails p with
  | 1 => s.bump (adr pKL 0x0F)
  | 2 => (s.bump (adr pKL 0x0E)).event pKL 0
  | _ => if s.mode = .reset ∨ (s.mode = .boot ∧ s.boot.failed = true) then s else s.packetEffect p

/-- DN takes the HOP of a packet of the host adapter (R409). -/
def State.noteHop (s : State) (p : KlPacket) : State :=
  if p.src = 0xFE ∧ p.context = .whole then { s with kl := { s.kl with dn := p.hop, dnValid := true } } else s

/-- Whether a packet of this DEST, SRC and HOP is not forwarded (R394). -/
def State.removes (s : State) (dest src hop : Byte) : Bool :=
  hop == 255 || (s.kl.addr != 0xFE && (src == s.kl.addr || dest == s.kl.addr))

/-- Whether the unit forwards: from BOOT stage CLOCK on, while its root runs (R394). -/
def State.forwards (s : State) : Bool := s.kl.forward && s.rootRuns

/-- A packet that came whole is forwarded whole, with HOP + 1 (R394). -/
def State.forwardPacket (s : State) (p : KlPacket) : State :=
  if s.forwards && !s.removes p.dest p.src p.hop then s.transmit { p with hop := p.hop + 1 } else s

/-- A block error in a packet that the unit does not take counts all the same (R388). -/
def State.blockError (s : State) (p : KlPacket) : State :=
  if p.context = .blockError then s.bump (adr pKL 0x0F) else s

/-- What the first row of R394 that holds does in this unit, the forwarding apart. -/
def State.routePacket (s : State) (p : KlPacket) : State :=
  let own := s.kl.addr != 0xFE
  if p.hop = 255 then (s.bump (adr pKL 0x12)).blockError p
  else if own && p.src == s.kl.addr then (if p.dest = 0xFF then s else s.bump (adr pKL 0x12)).blockError p
  else if own && p.dest == s.kl.addr then s.takePacket p
  else if p.dest = 0xFF then s.takePacket p
  else s.blockError p

/-- A whole packet has come. -/
def State.packetIn (s : State) (p : KlPacket) : State := (s.noteHop p).routePacket p

/-! ## Blocks at KL_RX (R387, R388, R395) -/

/-- A packet whose header block is h (R390), as far as it has come. Its CRC is the trailer's, less what the header's reserved
bits add to it (R391). -/
def packetOf (context : KlContext) (h : BitVec 64) (payload : List (BitVec 64)) (crc : BitVec 32) : KlPacket :=
  let p : KlPacket :=
    { context := context, dest := h.extractLsb' 56 8, src := h.extractLsb' 48 8, kind := h.extractLsb' 44 4
      urg := h.getLsbD 43, resp := h.getLsbD 42, len := h.extractLsb' 32 10, hop := h.extractLsb' 24 8
      seq := h.extractLsb' 0 16, payload := payload, crc := crc }
  { p with crc := crc ^^^ klCrc p ^^^ crc32 (((h &&& ~~~0xFF000000#64) :: payload).flatMap blockWords) }

/-- Whether a packet whose header block is h is not forwarded. -/
def State.removesHeader (s : State) (h : BitVec 64) : Bool :=
  s.removes (h.extractLsb' 56 8) (h.extractLsb' 48 8) (h.extractLsb' 24 8)

/-- Whether the packet of a context is not forwarded, as far as its header has come. -/
def State.ctxRemoved (s : State) (c : KlCtx) : Bool :=
  match c with
  | .filling (h :: _) => s.removesHeader h
  | .voided r => r
  | .filling [] | .idle => false

/-- The START of a packet whose header has not come; it leaves with the header, or before what follows in its place. -/
def KlCtx.start (c : KlCtx) : List KlBlock := if c = .filling [] then [.control 0x33] else []

/-- What leaves at KL_TX for a block: itself; the header with HOP + 1; IDLE in place of a removed packet's START, header, payload
and trailer. PREEMPT and RESUME pass unchanged (R394, R395). ALIGN is for this link alone. DESIGN CHOICE (log entry 116): a block
error passes as it came, and own packets leave whole, never suspended. -/
def State.forwarded (s : State) (b : KlBlock) : List KlBlock :=
  let idle : KlBlock := .control 0x1E
  match b with
  | .data w =>
    (match s.kl.ctx with
      | .filling [] => if s.removesHeader w then [idle, idle] else [.control 0x33, .data (w + 0x1000000)]
      | c => if s.ctxRemoved c then [idle] else [b])
  | .control w =>
    (match (w.extractLsb' 0 8).toNat with
      | 0x33 => s.kl.ctx.start
      | 0x4B => []
      | 0x1E | 0x55 | 0x66 => [b]
      | _ => s.kl.ctx.start ++ [b])
  | .invalid => s.kl.ctx.start ++ [b]

/-- A block is forwarded at once (R395). -/
def State.forwardBlock (s : State) (b : KlBlock) : State :=
  if s.forwards then { s with kl := { s.kl with blocks := s.kl.blocks ++ s.forwarded b } } else s

/-- The packet of the current context is void. It is routed as far as it is known (R388, R393, R394). -/
def State.voidCtx (s : State) (context : KlContext) : State :=
  let was := s.kl.ctx
  let s := { s with kl := { s.kl with ctx := .voided (s.ctxRemoved was) } }
  match was with
  | .filling (h :: l) => s.packetIn (packetOf context h l 0)
  | .filling [] | .idle | .voided _ => if context = .blockError then s.bump (adr pKL 0x0F) else s

/-- A data block: the header, then LEN payload blocks, then the trailer that ends the packet (R389). One outside a packet is no
part of any (log entry 116). -/
def State.dataBlock (s : State) (w : BitVec 64) : State :=
  match s.kl.ctx with
  | .idle | .voided _ => s
  | .filling [] => { s with kl := { s.kl with ctx := .filling [w] } }
  | .filling (h :: l) =>
    if l.length < (h.extractLsb' 32 10).toNat then { s with kl := { s.kl with ctx := .filling (h :: l ++ [w]) } }
    else ({ s with kl := { s.kl with ctx := .idle } }).packetIn (packetOf .whole h l (w.setWidth 32))

/-- A control block by its type (R387). A START within a packet voids it and starts the next (log entry 116). -/
def State.controlBlock (s : State) (w : BitVec 64) : State :=
  match (w.extractLsb' 0 8).toNat with
  | 0x1E | 0x4B => s
  | 0x33 =>
    let s := s.voidCtx .aborted
    { s with kl := { s.kl with ctx := .filling [] } }
  | 0x55 =>
    if s.kl.susp.length < 256 then { s with kl := { s.kl with ctx := .idle, susp := s.kl.ctx :: s.kl.susp } }
    else s.voidCtx .blockError
  | 0x66 =>
    match s.kl.susp with
    | c :: l => { s with kl := { s.kl with ctx := c, susp := l } }
    | [] => s.voidCtx .blockError
  | 0x78 => s.voidCtx .aborted
  | _ => s.voidCtx .blockError

/-- A block at KL_RX. -/
def State.blockIn (s : State) (b : KlBlock) : State :=
  match b with
  | .data w => s.dataBlock w
  | .control w => s.controlBlock w
  | .invalid => s.voidCtx .blockError

/-- What comes at KL_RX. The port receives while it is UP and the root runs (R388, 13 R323). -/
def execKlForward (x : KlArrival) (s : State) : Host.Outcome State Fault Refusal := .next <|
  if s.kl.rx = .up ∧ s.rootRuns = true then
    match x with
    | .packet p => (s.forwardPacket p).packetIn p
    | .block b => (s.forwardBlock b).blockIn b
  else s

end Sys2Proof.Machine
end

