-- ==== Sys2Proof/Machine/Tap.lean ====
section
/-! DEFINITION. The test access port (21 R535). Boundary cells, from bit 0 up: TRIG[3:0], FAULT_n, BOOT_SRC[1:0],
SCLK, MOSI, MISO, SEL_n, ENUM_IN, ENUM_OUT, OWN_OUT, OWN_IN, PAIR_ID, RST_n; the rule counts one cell more. -/

namespace Sys2Proof.Machine

open Sys2Proof

/-! ## Balls of the channels (21 R515 to R517) -/

/-- First row of the balls of a tile (R516). -/
def tileRow (t : Nat) : Nat := [1, 11, 29, 39].getD (t % 4) 0

/-- Row and column of a channel's ball (R517). -/
def channelBall (c : Fin 1024) : Nat × Nat :=
  let k := c.val % 256
  (tileRow (c.val / 256) + k / 32, k % 32 + 1)

/-- Row and column of the ground sense of a quad (R517). -/
def guardBall (q : Fin 256) : Nat × Nat :=
  let m := q.val % 64
  (tileRow (q.val / 64) + m / 8, 33 + m % 8)

/-! ## The test access port (R535) -/

/-- Cell of OWN_OUT, which can only hold its ball low. -/
def ownOutCell : BitVec 18 := 1#18 <<< 13

/-- Cell of RST_n, which only observes. -/
def rstCell : BitVec 18 := 1#18 <<< 16

/-- Whether EXTEST has hold of the balls: no output drives while a supply is out of range (R524). -/
def State.scanDrives (s : State) : Bool := s.tap.drive && s.suppliesIn

/-- A cell at a level. -/
def ballCell (i : Nat) (b : Bool) : BitVec 18 := if b then 1#18 <<< i else 0

/-- Cells of the open-drain outputs, TRIG[3:0], FAULT_n and SEL_n, and of the push-pull ones, SCLK, MOSI, MISO and ENUM_OUT
(R531). -/
def openDrainCells : BitVec 18 := 0x41F
def pushPullCells : BitVec 18 := 0x1380

/-- Cells of the balls that this unit holds low: an open drain pulls its ball low, by its function or by its cell. With a
supply out of range only FAULT_n is driven, once VDD_IO has its level (R524). -/
def State.heldCells (s : State) : BitVec 18 :=
  if s.scanDrives then ~~~ s.tap.cells &&& openDrainCells
  else if s.suppliesIn then
    (below 4).foldl (fun (m : BitVec 18) i => m ||| ballCell i.val (s.lines[i]).low) (ballCell 4 s.faultLow)
  else ballCell 4 (s.boot.supplies[supplyIx .vddIo])

/-- Cells whose level is known, and those levels: OWN_OUT, ENUM_OUT and, under EXTEST, SCLK, MOSI and MISO where the unit drives
them; the qualified levels of ENUM_IN and OWN_IN; RST_n, and the straps as its release sampled them (log entry 117). -/
def State.knownCells (s : State) : BitVec 18 × BitVec 18 :=
  let driven : BitVec 18 × BitVec 18 :=
    if s.scanDrives then (pushPullCells ||| ownOutCell, s.tap.cells &&& pushPullCells)
    else if s.suppliesIn then (ballCell 12 true ||| ownOutCell, ballCell 12 s.kl.enumOut ||| ballCell 13 s.pair.ownOut)
    else (0, 0)
  let straps : BitVec 18 × BitVec 18 :=
    if s.boot.rstRel then (ballCell 5 true ||| ballCell 6 true ||| ballCell 15 true,
      (s.boot.src.setWidth 18 <<< 5) ||| ballCell 15 s.pair.id)
    else (0, 0)
  (driven.1 ||| straps.1 ||| ballCell 11 true ||| ballCell 14 true ||| rstCell,
   driven.2 ||| straps.2 ||| ballCell 11 s.kl.enumIn ||| ballCell 14 s.pair.ownIn ||| ballCell 16 s.boot.rstRel)

/-- What a capture finds: the balls this unit drives and those whose level it holds; free levels on the rest. -/
def State.ballLevels (s : State) : BitVec 18 × State :=
  let (n, s) := s.draw
  ((Config.ballLevels n &&& ~~~ s.knownCells.1 &&& ~~~ s.heldCells) ||| s.knownCells.2, s)

/-- The boundary register captures, and then holds the cells shifted in. -/
def State.boundaryScan (s : State) (code : BitVec 4) (cells : BitVec 18) : State :=
  let (levels, s) := s.ballLevels
  { s with tap := { s.tap with ir := code, cells := cells, out := levels, bypass := false, drive := false } }

/-- EXTEST takes effect in RESET with RST_n asserted; elsewhere it acts as BYPASS. -/
def State.extest (s : State) (cells : BitVec 18) : State :=
  if s.mode = .reset ∧ s.boot.rstRel = false then
    let s := s.boundaryScan 0x0 (cells &&& ~~~ ownOutCell &&& ~~~ rstCell)
    { s with tap := { s.tap with drive := true } }
  else { s with tap := { s.tap with ir := 0x0, bypass := true, drive := false } }

/-- TAP instruction EXTEST, with the cells shifted in. -/
def execExtest (cells : BitVec 18) (s : State) : Host.Outcome State Fault Refusal := .next (s.extest cells)

/-- TAP instruction SAMPLE/PRELOAD: it samples the balls and drives none. -/
def execSamplePreload (cells : BitVec 18) (s : State) : Host.Outcome State Fault Refusal :=
  .next (s.boundaryScan 0x1 (cells &&& ~~~ ownOutCell &&& ~~~ rstCell))

/-- BYPASS and every code that acts as it; the two other codes are their own instructions. -/
def execBypass (code : BitVec 4) (s : State) : Host.Outcome State Fault Refusal := .next <|
  if code = 0x0 then s.extest s.tap.cells
  else if code = 0x1 then s.boundaryScan 0x1 s.tap.cells
  else { s with tap := { s.tap with ir := code, bypass := true, drive := false } }

end Sys2Proof.Machine
end

