-- ==== Sys2Proof/Machine/Dispatch.lean ====
section
/-! DEFINITION. One arm per command, in the order of the opcode table. -/

namespace Sys2Proof.Machine

open Sys2Proof

def exec (i : Instr) (s : State) : Host.Outcome State Fault Refusal :=
  match i with
  | .supplyRise k => Sys2Proof.Machine.execSupplyRise k s
  | .supplyMonitorRelease => Sys2Proof.Machine.execSupplyMonitorRelease s
  | .supplyOutOfRange k => Sys2Proof.Machine.execSupplyOutOfRange k s
  | .rstNAssert => Sys2Proof.Machine.execRstNAssert s
  | .rstNRelease bootSrc pairId => Sys2Proof.Machine.execRstNRelease bootSrc pairId s
  | .bootMram => Sys2Proof.Machine.execBootMram s
  | .bootRefWindow => Sys2Proof.Machine.execBootRefWindow s
  | .noReference => Sys2Proof.Machine.execNoReference s
  | .bootClock => Sys2Proof.Machine.execBootClock s
  | .bootImage flash => Sys2Proof.Machine.execBootImage flash s
  | .bootImageTimeout => Sys2Proof.Machine.execBootImageTimeout s
  | .imageFrame x bytes => Sys2Proof.Machine.execImageFrame x bytes s
  | .bootImgDataWrite v => Sys2Proof.Machine.execBootImgDataWrite v s
  | .bootVerify => Sys2Proof.Machine.execBootVerify s
  | .bootLoad => Sys2Proof.Machine.execBootLoad s
  | .bootCompat => Sys2Proof.Machine.execBootCompat s
  | .bootBist r => Sys2Proof.Machine.execBootBist r s
  | .masterArbitration bus => Sys2Proof.Machine.execMasterArbitration bus s
  | .arbitrationSeen => Sys2Proof.Machine.execArbitrationSeen s
  | .rcoReady => Sys2Proof.Machine.execRcoReady s
  | .xoReady => Sys2Proof.Machine.execXoReady s
  | .refReady => Sys2Proof.Machine.execRefReady s
  | .rootLock => Sys2Proof.Machine.execRootLock s
  | .readyLoss src => Sys2Proof.Machine.execReadyLoss src s
  | .refHoldoverMove => Sys2Proof.Machine.execRefHoldoverMove s
  | .clockMonitorTrip => Sys2Proof.Machine.execClockMonitorTrip s
  | .clockReturn root => Sys2Proof.Machine.execClockReturn root s
  | .domainSwitchDone => Sys2Proof.Machine.execDomainSwitchDone s
  | .forcedSwitch => Sys2Proof.Machine.execForcedSwitch s
  | .regulatorInterval counted => Sys2Proof.Machine.execRegulatorInterval counted s
  | .hsLock t => Sys2Proof.Machine.execHsLock t s
  | .hsUnlock t => Sys2Proof.Machine.execHsUnlock t s
  | .frameTick => Sys2Proof.Machine.execFrameTick s
  | .syncHold => Sys2Proof.Machine.execSyncHold s
  | .admissionCutoff => Sys2Proof.Machine.execAdmissionCutoff s
  | .routineRelease g => Sys2Proof.Machine.execRoutineRelease g s
  | .cycleGuardExpiry g => Sys2Proof.Machine.execCycleGuardExpiry g s
  | .commitLen g => Sys2Proof.Machine.execCommitLen g s
  | .interrupt g => Sys2Proof.Machine.execInterrupt g s
  | .linkXfer g => Sys2Proof.Machine.execLinkXfer g s
  | .tileLink t => Sys2Proof.Machine.execTileLink t s
  | .timerExpire g t => Sys2Proof.Machine.execTimerExpire g t s
  | .resultArrival g l => Sys2Proof.Machine.execResultArrival g l s
  | .next g => Sys2Proof.Machine.execNext g s
  | .branch g cond target m a => Sys2Proof.Machine.execBranch g cond target m a s
  | .call g cond target m a => Sys2Proof.Machine.execCall g cond target m a s
  | .return g cond m a => Sys2Proof.Machine.execReturn g cond m a s
  | .wait g cond m a => Sys2Proof.Machine.execWait g cond m a s
  | .waitTo g cond target m a => Sys2Proof.Machine.execWaitTo g cond target m a s
  | .loop g target => Sys2Proof.Machine.execLoop g target s
  | .endSeq g => Sys2Proof.Machine.execEndSeq g s
  | .commit g => Sys2Proof.Machine.execCommit g s
  | .mov g a b => Sys2Proof.Machine.execMov g a b s
  | .movi g a imm => Sys2Proof.Machine.execMovi g a imm s
  | .moviu g a imm => Sys2Proof.Machine.execMoviu g a imm s
  | .add g a b => Sys2Proof.Machine.execAdd g a b s
  | .addi g a imm => Sys2Proof.Machine.execAddi g a imm s
  | .sub g a b => Sys2Proof.Machine.execSub g a b s
  | .and g a b => Sys2Proof.Machine.execAnd g a b s
  | .or g a b => Sys2Proof.Machine.execOr g a b s
  | .xor g a b => Sys2Proof.Machine.execXor g a b s
  | .shl g a imm => Sys2Proof.Machine.execShl g a imm s
  | .shr g a imm => Sys2Proof.Machine.execShr g a imm s
  | .sar g a imm => Sys2Proof.Machine.execSar g a imm s
  | .cmp g a b => Sys2Proof.Machine.execCmp g a b s
  | .cmpi g a imm => Sys2Proof.Machine.execCmpi g a imm s
  | .ldlc g a => Sys2Proof.Machine.execLdlc g a s
  | .mul g a b => Sys2Proof.Machine.execMul g a b s
  | .mulh g a b => Sys2Proof.Machine.execMulh g a b s
  | .ldcpm g a imm => Sys2Proof.Machine.execLdcpm g a imm s
  | .stcpm g a imm => Sys2Proof.Machine.execStcpm g a imm s
  | .ldres g a imm => Sys2Proof.Machine.execLdres g a imm s
  | .ldtbl g a imm => Sys2Proof.Machine.execLdtbl g a imm s
  | .sttbl g a imm => Sys2Proof.Machine.execSttbl g a imm s
  | .ldfrm g a => Sys2Proof.Machine.execLdfrm g a s
  | .ldpos g a => Sys2Proof.Machine.execLdpos g a s
  | .timerLoadVal g t v => Sys2Proof.Machine.execTimerLoadVal g t v s
  | .timerLoadReg g t b => Sys2Proof.Machine.execTimerLoadReg g t b s
  | .timerStop g t => Sys2Proof.Machine.execTimerStop g t s
  | .forceHiz g m => Sys2Proof.Machine.execForceHiz g m s
  | .forceFv g m src b imm => Sys2Proof.Machine.execForceFv g m src b imm s
  | .forceFi g m src b imm => Sys2Proof.Machine.execForceFi g m src b imm s
  | .forceRange g m => Sys2Proof.Machine.execForceRange g m s
  | .rlyClose g m => Sys2Proof.Machine.execRlyClose g m s
  | .rlyOpen g m => Sys2Proof.Machine.execRlyOpen g m s
  | .forceSafe g m => Sys2Proof.Machine.execForceSafe g m s
  | .levelLoad g m bits => Sys2Proof.Machine.execLevelLoad g m bits s
  | .adcStart g m set dly => Sys2Proof.Machine.execAdcStart g m set dly s
  | .adcUrgent g m set => Sys2Proof.Machine.execAdcUrgent g m set s
  | .adcArmPw g m set => Sys2Proof.Machine.execAdcArmPw g m set s
  | .adcDisarmPw g m => Sys2Proof.Machine.execAdcDisarmPw g m s
  | .adcStop g m => Sys2Proof.Machine.execAdcStop g m s
  | .adcRead g m => Sys2Proof.Machine.execAdcRead g m s
  | .intCapture g m => Sys2Proof.Machine.execIntCapture g m s
  | .intCaptureClear g m => Sys2Proof.Machine.execIntCaptureClear g m s
  | .cmpClear g m sel => Sys2Proof.Machine.execCmpClear g m sel s
  | .cmpOff g m sel => Sys2Proof.Machine.execCmpOff g m sel s
  | .cmpThrSel g m bits => Sys2Proof.Machine.execCmpThrSel g m bits s
  | .patStart g seg => Sys2Proof.Machine.execPatStart g seg s
  | .patStop g => Sys2Proof.Machine.execPatStop g s
  | .jumpReq g seg => Sys2Proof.Machine.execJumpReq g seg s
  | .failRead g a => Sys2Proof.Machine.execFailRead g a s
  | .failClr g => Sys2Proof.Machine.execFailClr g s
  | .tdcOpen g m => Sys2Proof.Machine.execTdcOpen g m s
  | .tdcClose g m => Sys2Proof.Machine.execTdcClose g m s
  | .tdcRead g m => Sys2Proof.Machine.execTdcRead g m s
  | .tdcClear g m => Sys2Proof.Machine.execTdcClear g m s
  | .recWrite g m fmt tag a b imm => Sys2Proof.Machine.execRecWrite g m fmt tag a b imm s
  | .evtWrite g e a => Sys2Proof.Machine.execEvtWrite g e a s
  | .mcArith w => Sys2Proof.Machine.execMcArith w s
  | .mcRegMap w => Sys2Proof.Machine.execMcRegMap w s
  | .mcFlow w => Sys2Proof.Machine.execMcFlow w s
  | .mcWait w => Sys2Proof.Machine.execMcWait w s
  | .mcMessage w => Sys2Proof.Machine.execMcMessage w s
  | .mcGroupControl w => Sys2Proof.Machine.execMcGroupControl w s
  | .mcMode w => Sys2Proof.Machine.execMcMode w s
  | .mcReservedOp w => Sys2Proof.Machine.execMcReservedOp w s
  | .fpCommit g => Sys2Proof.Machine.execFpCommit g s
  | .fpReq g => Sys2Proof.Machine.execFpReq g s
  | .tbMatch g => Sys2Proof.Machine.execTbMatch g s
  | .thrCheck g reading => Sys2Proof.Machine.execThrCheck g reading s
  | .wearFlush g => Sys2Proof.Machine.execWearFlush g s
  | .telGather g => Sys2Proof.Machine.execTelGather g s
  | .scheduledStartEffect g l => Sys2Proof.Machine.execScheduledStartEffect g l s
  | .urgentStartEffect g l => Sys2Proof.Machine.execUrgentStartEffect g l s
  | .pwPulseQualified g l low released width => Sys2Proof.Machine.execPwPulseQualified g l low released width s
  | .pwStartEffect g l => Sys2Proof.Machine.execPwStartEffect g l s
  | .slicePowerUp g l => Sys2Proof.Machine.execSlicePowerUp g l s
  | .conversionComplete g l codes => Sys2Proof.Machine.execConversionComplete g l codes s
  | .tbShadowDone g n live spare lost src => Sys2Proof.Machine.execTbShadowDone g n live spare lost src s
  | .tbHandover g => Sys2Proof.Machine.execTbHandover g s
  | .tbRecalDone g sumG sumS => Sys2Proof.Machine.execTbRecalDone g sumG sumS s
  | .wdacCalDone g sumLo sumHi => Sys2Proof.Machine.execWdacCalDone g sumLo sumHi s
  | .holdBegin g => Sys2Proof.Machine.execHoldBegin g s
  | .fpPointDone g reading slots => Sys2Proof.Machine.execFpPointDone g reading slots s
  | .holdEnd g => Sys2Proof.Machine.execHoldEnd g s
  | .fpTimeout g => Sys2Proof.Machine.execFpTimeout g s
  | .comparatorChange g l low tripped bins => Sys2Proof.Machine.execComparatorChange g l low tripped bins s
  | .tripQualified g l low => Sys2Proof.Machine.execTripQualified g l low s
  | .relaySettled g l => Sys2Proof.Machine.execRelaySettled g l s
  | .limitRestore g l => Sys2Proof.Machine.execLimitRestore g l s
  | .piBoundary g => Sys2Proof.Machine.execPiBoundary g s
  | .holdoffExpiry g j => Sys2Proof.Machine.execHoldoffExpiry g j s
  | .quadTermination g j => Sys2Proof.Machine.execQuadTermination g j s
  | .pulsePeriodEnd g j => Sys2Proof.Machine.execPulsePeriodEnd g j s
  | .quadSatTimeout g j => Sys2Proof.Machine.execQuadSatTimeout g j s
  | .tempLaneTimeout g j => Sys2Proof.Machine.execTempLaneTimeout g j s
  | .quadStepStart g j => Sys2Proof.Machine.execQuadStepStart g j s
  | .periodicRecordDue g j => Sys2Proof.Machine.execPeriodicRecordDue g j s
  | .vectorBoundary n => Sys2Proof.Machine.execVectorBoundary n s
  | .segmentEnd n => Sys2Proof.Machine.execSegmentEnd n s
  | .underrun n => Sys2Proof.Machine.execUnderrun n s
  | .patDone g => Sys2Proof.Machine.execPatDone g s
  | .refill n seq offset data => Sys2Proof.Machine.execRefill n seq offset data s
  | .residentLoad n seq offset data => Sys2Proof.Machine.execResidentLoad n seq offset data s
  | .ingressWrite n => Sys2Proof.Machine.execIngressWrite n s
  | .wavArm g v => Sys2Proof.Machine.execWavArm g v s
  | .wavArmCheck g => Sys2Proof.Machine.execWavArmCheck g s
  | .wavStart g => Sys2Proof.Machine.execWavStart g s
  | .wavStop g v => Sys2Proof.Machine.execWavStop g v s
  | .wavStopEffect g => Sys2Proof.Machine.execWavStopEffect g s
  | .wavEnd g => Sys2Proof.Machine.execWavEnd g s
  | .tdcTimedClose g l => Sys2Proof.Machine.execTdcTimedClose g l s
  | .arm from_ param => Sys2Proof.Machine.execArm from_ param s
  | .armPacket frame auto l disarm => Sys2Proof.Machine.execArmPacket frame auto l disarm s
  | .trgFire v => Sys2Proof.Machine.execTrgFire v s
  | .firePacket mask => Sys2Proof.Machine.execFirePacket mask s
  | .fireIssue l => Sys2Proof.Machine.execFireIssue l s
  | .trigPulseEnd l => Sys2Proof.Machine.execTrigPulseEnd l s
  | .trigEdge l bins => Sys2Proof.Machine.execTrigEdge l bins s
  | .autoTimeout l => Sys2Proof.Machine.execAutoTimeout l s
  | .captureDone g => Sys2Proof.Machine.execCaptureDone g s
  | .drainPacket => Sys2Proof.Machine.execDrainPacket s
  | .replayTimeout => Sys2Proof.Machine.execReplayTimeout s
  | .creditResult ackSeq limit => Sys2Proof.Machine.execCreditResult ackSeq limit s
  | .resultNak ackSeq limit => Sys2Proof.Machine.execResultNak ackSeq limit s
  | .klRxUp => Sys2Proof.Machine.execKlRxUp s
  | .klRxDown => Sys2Proof.Machine.execKlRxDown s
  | .klForward x => Sys2Proof.Machine.execKlForward x s
  | .tickMark n => Sys2Proof.Machine.execTickMark n s
  | .regw r => Sys2Proof.Machine.execRegw r s
  | .regr r => Sys2Proof.Machine.execRegr r s
  | .urgentStop => Sys2Proof.Machine.execUrgentStop s
  | .start from_ param => Sys2Proof.Machine.execStart from_ param s
  | .runEntry => Sys2Proof.Machine.execRunEntry s
  | .stop from_ param => Sys2Proof.Machine.execStop from_ param s
  | .configureEntry => Sys2Proof.Machine.execConfigureEntry s
  | .configureRelayStep => Sys2Proof.Machine.execConfigureRelayStep s
  | .configureValuesStep => Sys2Proof.Machine.execConfigureValuesStep s
  | .powerupValuesApply => Sys2Proof.Machine.execPowerupValuesApply s
  | .recover from_ param => Sys2Proof.Machine.execRecover from_ param s
  | .calNow from_ param => Sys2Proof.Machine.execCalNow from_ param s
  | .enumAssign from_ word => Sys2Proof.Machine.execEnumAssign from_ word s
  | .resume from_ param => Sys2Proof.Machine.execResume from_ param s
  | .snapAll from_ param => Sys2Proof.Machine.execSnapAll from_ param s
  | .factory from_ param => Sys2Proof.Machine.execFactory from_ param s
  | .factoryEntry => Sys2Proof.Machine.execFactoryEntry s
  | .enumInRise => Sys2Proof.Machine.execEnumInRise s
  | .enumInFall => Sys2Proof.Machine.execEnumInFall s
  | .enumOutRaise => Sys2Proof.Machine.execEnumOutRaise s
  | .syncEdge stamp => Sys2Proof.Machine.execSyncEdge stamp s
  | .mspWrite f => Sys2Proof.Machine.execMspWrite f s
  | .mspRead f => Sys2Proof.Machine.execMspRead f s
  | .mspBurstRead f => Sys2Proof.Machine.execMspBurstRead f s
  | .mspBurstWrite f => Sys2Proof.Machine.execMspBurstWrite f s
  | .mspNop f => Sys2Proof.Machine.execMspNop f s
  | .rawFrame x bytes => Sys2Proof.Machine.execRawFrame x bytes s
  | .pacingTimeout addr v => Sys2Proof.Machine.execPacingTimeout addr v s
  | .heartbeatReceive h => Sys2Proof.Machine.execHeartbeatReceive h s
  | .snapshotReceive p => Sys2Proof.Machine.execSnapshotReceive p s
  | .ownInChange high => Sys2Proof.Machine.execOwnInChange high s
  | .takeover => Sys2Proof.Machine.execTakeover s
  | .takeoverComplete => Sys2Proof.Machine.execTakeoverComplete s
  | .ownConflict => Sys2Proof.Machine.execOwnConflict s
  | .release => Sys2Proof.Machine.execRelease s
  | .releaseEffect => Sys2Proof.Machine.execReleaseEffect s
  | .faultMessage => Sys2Proof.Machine.execFaultMessage s
  | .faultPulseEnd => Sys2Proof.Machine.execFaultPulseEnd s
  | .wearMcFlush => Sys2Proof.Machine.execWearMcFlush s
  | .sensorReading n v selfOk => Sys2Proof.Machine.execSensorReading n v selfOk s
  | .graceEnd => Sys2Proof.Machine.execGraceEnd s
  | .stepIntTimer => Sys2Proof.Machine.execStepIntTimer s
  | .telCycle => Sys2Proof.Machine.execTelCycle s
  | .telRecordWrite => Sys2Proof.Machine.execTelRecordWrite s
  | .descWriteEffect => Sys2Proof.Machine.execDescWriteEffect s
  | .postedWriteComplete page => Sys2Proof.Machine.execPostedWriteComplete page s
  | .nvmCommitDone => Sys2Proof.Machine.execNvmCommitDone s
  | .factTestDone fail loc => Sys2Proof.Machine.execFactTestDone fail loc s
  | .frameLenWrite v => Sys2Proof.Machine.execFrameLenWrite v s
  | .shareWrite x c v => Sys2Proof.Machine.execShareWrite x c v s
  | .hostStepWrite v => Sys2Proof.Machine.execHostStepWrite v s
  | .grpArm g v => Sys2Proof.Machine.execGrpArm g v s
  | .armAdmission g => Sys2Proof.Machine.execArmAdmission g s
  | .grpDisarm g v => Sys2Proof.Machine.execGrpDisarm g v s
  | .cpmDataWrite g v => Sys2Proof.Machine.execCpmDataWrite g v s
  | .cpmDataRead g => Sys2Proof.Machine.execCpmDataRead g s
  | .ucDataWrite g v => Sys2Proof.Machine.execUcDataWrite g v s
  | .ucDataRead g => Sys2Proof.Machine.execUcDataRead g s
  | .tblDataWrite g v => Sys2Proof.Machine.execTblDataWrite g v s
  | .tblDataRead g => Sys2Proof.Machine.execTblDataRead g s
  | .cmpClrWrite g v => Sys2Proof.Machine.execCmpClrWrite g v s
  | .gangWrite g k v => Sys2Proof.Machine.execGangWrite g k v s
  | .intSelWrite g v => Sys2Proof.Machine.execIntSelWrite g v s
  | .coefCommitWrite g v => Sys2Proof.Machine.execCoefCommitWrite g v s
  | .geIrqEnWrite g v => Sys2Proof.Machine.execGeIrqEnWrite g v s
  | .gstopClr g v => Sys2Proof.Machine.execGstopClr g v s
  | .descSubmit v => Sys2Proof.Machine.execDescSubmit v s
  | .descLoad => Sys2Proof.Machine.execDescLoad s
  | .descStepRead => Sys2Proof.Machine.execDescStepRead s
  | .fmtDataWrite v => Sys2Proof.Machine.execFmtDataWrite v s
  | .fmtDataRead => Sys2Proof.Machine.execFmtDataRead s
  | .maskDataWrite g v => Sys2Proof.Machine.execMaskDataWrite g v s
  | .maskDataRead g => Sys2Proof.Machine.execMaskDataRead g s
  | .rdRst g v => Sys2Proof.Machine.execRdRst g v s
  | .streamFlush n v => Sys2Proof.Machine.execStreamFlush n v s
  | .tbEnable v => Sys2Proof.Machine.execTbEnable v s
  | .refSelWrite v => Sys2Proof.Machine.execRefSelWrite v s
  | .rcoTrimWrite v => Sys2Proof.Machine.execRcoTrimWrite v s
  | .firstClr v => Sys2Proof.Machine.execFirstClr v s
  | .faultPinAssert v => Sys2Proof.Machine.execFaultPinAssert v s
  | .injMsg v => Sys2Proof.Machine.execInjMsg v s
  | .injMem v => Sys2Proof.Machine.execInjMem v s
  | .sevDataRead => Sys2Proof.Machine.execSevDataRead s
  | .logLoad => Sys2Proof.Machine.execLogLoad s
  | .logStepRead => Sys2Proof.Machine.execLogStepRead s
  | .thmLimitWrite off v => Sys2Proof.Machine.execThmLimitWrite off v s
  | .rawCountWrite v => Sys2Proof.Machine.execRawCountWrite v s
  | .drainRsvWrite v => Sys2Proof.Machine.execDrainRsvWrite v s
  | .pairEnWrite v => Sys2Proof.Machine.execPairEnWrite v s
  | .tokDataRead => Sys2Proof.Machine.execTokDataRead s
  | .nvmDataWrite v => Sys2Proof.Machine.execNvmDataWrite v s
  | .nvmDataRead => Sys2Proof.Machine.execNvmDataRead s
  | .nvmCommit v => Sys2Proof.Machine.execNvmCommit v s
  | .factTestRun v => Sys2Proof.Machine.execFactTestRun v s
  | .evtClr page v => Sys2Proof.Machine.execEvtClr page v s
  | .snapWrite page => Sys2Proof.Machine.execSnapWrite page s
  | .busyFlagClear page v => Sys2Proof.Machine.execBusyFlagClear page v s
  | .registerWrite addr v => Sys2Proof.Machine.execRegisterWrite addr v s
  | .extest cells => Sys2Proof.Machine.execExtest cells s
  | .samplePreload cells => Sys2Proof.Machine.execSamplePreload cells s
  | .bypass code => Sys2Proof.Machine.execBypass code s
  | .groupConversionClockEdge g => Sys2Proof.Machine.execGroupConversionClockEdge g s
  | .klBlockLock => Sys2Proof.Machine.execKlBlockLock s
  | .klAlignFound => Sys2Proof.Machine.execKlAlignFound s
  | .pairLinkUp => Sys2Proof.Machine.execPairLinkUp s
  | .pairLinkDown => Sys2Proof.Machine.execPairLinkDown s
  | .wavOutputSample g => Sys2Proof.Machine.execWavOutputSample g s
  | .enumOutFollow => Sys2Proof.Machine.execEnumOutFollow s

end Sys2Proof.Machine
end

