-- ==== Sys2Proof/Machine/Microword.lean ====
section
/-! DEFINITION. The microword (05 R122 to R138): its fields, the code tables of the fields, and the commands that a word
stands for. A reserved code acts as its field's no-operation code (R123). -/

namespace Sys2Proof.Machine

open Sys2Proof

/-- A microword split into its fields (R122). Bits [6:0] are reserved and drive nothing. -/
structure Micro where
  seq       : BitVec 8
  brCond    : BitVec 6
  brTarget  : BitVec 12
  chmask    : LaneMask
  forceOp   : BitVec 6
  forceSrc  : BitVec 4
  levelLoad : BitVec 8
  adcOp     : BitVec 6
  adcDly    : BitVec 12
  cmpOp     : BitVec 6
  cmpThrSel : BitVec 4
  patOp     : BitVec 6
  tdcOp     : BitVec 4
  ringTag   : Byte
  recFmt    : BitVec 4
  timerOp   : BitVec 8
  timerVal  : BitVec 20
  aluOp     : Byte
  regA      : RegIx
  regB      : RegIx
  imm       : BitVec 24
  evt       : BitVec 4
  commit    : Bool
  deriving DecidableEq, Repr

/-- A register operand of a microword. -/
def microReg (w : BitVec 192) (lo : Nat) : RegIx := ⟨fld w lo 5, Nat.mod_lt _ (by decide)⟩

/-- The fields of a microword (R122). -/
def Micro.ofBits (w : BitVec 192) : Micro where
  seq       := w.extractLsb' 184 8
  brCond    := w.extractLsb' 178 6
  brTarget  := w.extractLsb' 166 12
  chmask    := w.extractLsb' 150 16
  forceOp   := w.extractLsb' 144 6
  forceSrc  := w.extractLsb' 140 4
  levelLoad := w.extractLsb' 132 8
  adcOp     := w.extractLsb' 126 6
  adcDly    := w.extractLsb' 114 12
  cmpOp     := w.extractLsb' 108 6
  cmpThrSel := w.extractLsb' 104 4
  patOp     := w.extractLsb' 98 6
  tdcOp     := w.extractLsb' 94 4
  ringTag   := w.extractLsb' 86 8
  recFmt    := w.extractLsb' 82 4
  timerOp   := w.extractLsb' 74 8
  timerVal  := w.extractLsb' 54 20
  aluOp     := w.extractLsb' 46 8
  regA      := microReg w 41
  regB      := microReg w 36
  imm       := w.extractLsb' 12 24
  evt       := w.extractLsb' 8 4
  commit    := bit w 7

/-- SEQ (R125): 0x08 to 0xFF act as NEXT. -/
def Micro.seqCommand (g : GroupIx) (w : Micro) : Instr :=
  match w.seq.toNat with
  | 0x01 => .branch g w.brCond w.brTarget w.chmask w.regA
  | 0x02 => .call g w.brCond w.brTarget w.chmask w.regA
  | 0x03 => .return g w.brCond w.chmask w.regA
  | 0x04 => .wait g w.brCond w.chmask w.regA
  | 0x05 => .waitTo g w.brCond w.brTarget w.chmask w.regA
  | 0x06 => .loop g w.brTarget
  | 0x07 => .endSeq g
  | _ => .next g

/-- ALU_OP (R131). -/
def Micro.aluCommand (g : GroupIx) (w : Micro) : Option Instr :=
  let a := w.regA
  let b := w.regB
  match w.aluOp.toNat with
  | 0x01 => some (.mov g a b)
  | 0x02 => some (.movi g a w.imm)
  | 0x03 => some (.moviu g a w.imm)
  | 0x04 => some (.add g a b)
  | 0x05 => some (.addi g a w.imm)
  | 0x06 => some (.sub g a b)
  | 0x07 => some (.and g a b)
  | 0x08 => some (.or g a b)
  | 0x09 => some (.xor g a b)
  | 0x0A => some (.shl g a w.imm)
  | 0x0B => some (.shr g a w.imm)
  | 0x0C => some (.sar g a w.imm)
  | 0x0D => some (.cmp g a b)
  | 0x0E => some (.cmpi g a w.imm)
  | 0x0F => some (.ldlc g a)
  | 0x10 => some (.mul g a b)
  | 0x11 => some (.mulh g a b)
  | 0x12 => some (.ldcpm g a w.imm)
  | 0x13 => some (.stcpm g a w.imm)
  | 0x14 => some (.ldres g a w.imm)
  | 0x15 => some (.ldtbl g a w.imm)
  | 0x16 => some (.sttbl g a w.imm)
  | 0x17 => some (.ldfrm g a)
  | 0x18 => some (.ldpos g a)
  | _ => none

/-- TIMER_OP (R130): [5:4] the timer, [7:6] the action. -/
def Micro.timerCommand (g : GroupIx) (w : Micro) : Option Instr :=
  let t : Fin 4 := ⟨fld w.timerOp 4 2, Nat.mod_lt _ (by decide)⟩
  match fld w.timerOp 6 2 with
  | 1 => some (.timerLoadVal g t w.timerVal)
  | 2 => some (.timerLoadReg g t w.regB)
  | 3 => some (.timerStop g t)
  | _ => none

/-- FORCE_OP with FORCE_SRC (R133). -/
def Micro.forceCommand (g : GroupIx) (w : Micro) : Option Instr :=
  match w.forceOp.toNat with
  | 0x01 => some (.forceHiz g w.chmask)
  | 0x02 => some (.forceFv g w.chmask w.forceSrc w.regB w.imm)
  | 0x03 => some (.forceFi g w.chmask w.forceSrc w.regB w.imm)
  | 0x04 => some (.forceRange g w.chmask)
  | 0x05 => some (.rlyClose g w.chmask)
  | 0x06 => some (.rlyOpen g w.chmask)
  | 0x07 => some (.forceSafe g w.chmask)
  | _ => none

/-- LEVEL_LOAD (R134): a mask of loads; bits [7:5] are reserved. -/
def Micro.levelCommand (g : GroupIx) (w : Micro) : Option Instr :=
  if fld w.levelLoad 0 5 = 0 then none else some (.levelLoad g w.chmask w.levelLoad)

/-- ADC_OP (R135): bit [5] the measurement set, [4:0] the operation. -/
def Micro.adcCommand (g : GroupIx) (w : Micro) : Option Instr :=
  let set := bit w.adcOp 5
  match fld w.adcOp 0 5 with
  | 0x01 => some (.adcStart g w.chmask set w.adcDly)
  | 0x02 => some (.adcUrgent g w.chmask set)
  | 0x03 => some (.adcArmPw g w.chmask set)
  | 0x04 => some (.adcDisarmPw g w.chmask)
  | 0x05 => some (.adcStop g w.chmask)
  | 0x06 => some (.adcRead g w.chmask)
  | 0x07 => some (.intCapture g w.chmask)
  | 0x08 => some (.intCaptureClear g w.chmask)
  | _ => none

/-- CMP_OP (R136): [5:4] the comparators, [3:0] the operation. -/
def Micro.cmpCommand (g : GroupIx) (w : Micro) : Option Instr :=
  let sel : BitVec 2 := w.cmpOp.extractLsb' 4 2
  match fld w.cmpOp 0 4 with
  | 1 => some (.cmpClear g w.chmask sel)
  | 2 => some (.cmpOff g w.chmask sel)
  | _ => none

/-- CMP_THR_SEL (R136): bit [3] loads the high comparator, bit [1] the low one. -/
def Micro.thrCommand (g : GroupIx) (w : Micro) : Option Instr :=
  if bit w.cmpThrSel 3 || bit w.cmpThrSel 1 then some (.cmpThrSel g w.chmask w.cmpThrSel) else none

/-- PAT_OP (R137): the segment is IMM[15:0]. -/
def Micro.patCommand (g : GroupIx) (w : Micro) : Option Instr :=
  match w.patOp.toNat with
  | 0x01 => some (.patStart g (w.imm.setWidth 16))
  | 0x02 => some (.patStop g)
  | 0x03 => some (.jumpReq g (w.imm.setWidth 16))
  | 0x04 => some (.failRead g w.regA)
  | 0x05 => some (.failClr g)
  | _ => none

/-- TDC_OP (R137). -/
def Micro.tdcCommand (g : GroupIx) (w : Micro) : Option Instr :=
  match w.tdcOp.toNat with
  | 0x1 => some (.tdcOpen g w.chmask)
  | 0x2 => some (.tdcClose g w.chmask)
  | 0x3 => some (.tdcRead g w.chmask)
  | 0x4 => some (.tdcClear g w.chmask)
  | _ => none

/-- REC_FMT with RING_TAG (R138); 0 writes nothing. -/
def Micro.recCommand (g : GroupIx) (w : Micro) : Option Instr :=
  if w.recFmt = 0 then none else some (.recWrite g w.chmask w.recFmt w.ringTag w.regA w.regB w.imm)

/-- EVT (R138); 0 writes nothing. -/
def Micro.evtCommand (g : GroupIx) (w : Micro) : Option Instr :=
  if w.evt = 0 then none else some (.evtWrite g w.evt w.regA)

/-- The commands of a word on group g, in the order in which they act within its SEQ cycle: the commit is at the start of the
cycle (R143); the stage words reach the tile before the FORCE_OP (R134); a threshold load comes before a latch clear or OFF
(R123; log entry 86); the SEQ command ends the cycle. All of them read the state at its start (R123). DESIGN CHOICE (log
entry 107): where ALU_OP and PAT_OP FAIL_READ write the same X[REG_A] the one later in this order, FAIL_READ, stands (R137);
of two stop conditions in one word the first in this order is reported, and what comes after it is not issued (R149). -/
def Micro.commands (g : GroupIx) (w : Micro) : List Instr :=
  (if w.commit then [.commit g] else []) ++
    ([w.timerCommand g, w.aluCommand g, w.levelCommand g, w.forceCommand g, w.thrCommand g, w.cmpCommand g, w.tdcCommand g,
      w.recCommand g, w.evtCommand g, w.patCommand g, w.adcCommand g].filterMap id) ++ [w.seqCommand g]

end Sys2Proof.Machine
end

