-- ==== Sys2Proof/Machine/Cycle.lean ====
section
/-! DEFINITION. One SEQ cycle with no command waiting (log entry 6): what the frame's own timing makes due in it, then the
next cycle, or the tick that begins the next frame (02 R21 to R27, R36; 05 R122, R123, R142; 09 R244; 10 R256). -/

namespace Sys2Proof.Machine

open Sys2Proof

/-- A command runs; it has no effect where it has no meaning. -/
def State.obey (s : State) (c : Instr) : State :=
  match exec c s with
  | .next t => t
  | .fault _ => s
  | .refused _ => s

/-- Commands run one after another. -/
def State.obeyAll (s : State) (cs : List Instr) : State := cs.foldl State.obey s

/-- The microword a group's engine stands at, from its store (05 R119, R122). -/
def State.wordAt (s : State) (g : GroupIx) : Micro := Micro.ofBits (ucBits (s.uc g (s.grp g).eng.pc.toNat))

/-- The engine executes the word it stands at (05 R122, R123). -/
def State.runWord (s : State) (g : GroupIx) : State :=
  if (s.grp g).eng.ready then s.obeyAll ((s.wordAt g).commands g) else s

/-- A routine due in this cycle is released (02 R36). -/
def State.releaseDue (s : State) (g : GroupIx) : State :=
  if !(s.grp g).due.isEmpty && (s.grp g).nextAt == s.esc.pos.toNat then s.obey (.routineRelease g) else s

/-- Windows whose LEN ends in this cycle close (09 R244). -/
def State.closeDue (s : State) (g : GroupIx) : State :=
  (below 16).foldl (fun s l =>
    let t := (s.chan g l).td
    match t.lenEnd with
    | some e => if t.opened && decide (e < s.rootNow + 16) then s.obey (.tdcTimedClose g l) else s
    | none => s) s

/-- Messages that wait reach the collector, one CORE cycle after another: a SEQ cycle has four (18 R438). -/
def State.collectDue : Nat → State → State
  | 0, s => s
  | n + 1, s => if s.flt.queues.isEmpty && s.flt.injected.isEmpty then s else State.collectDue n (s.obey .faultMessage)

/-- What is due in this cycle besides the engines' words: fires and waveform starts in cycle 64, handovers in cycle 17 (04
R109), the quads' periodic records and the admission cut-off at its own. -/
def State.dueCommands (s : State) : List Instr :=
  (if s.esc.pos.toNat = 64 then (below 4).map .fireIssue ++ (below 64).map .wavStart else []) ++
    (if s.esc.pos.toNat = handoverCycle then (below 64).map .tbHandover else []) ++
    (if s.esc.pos.toNat = s.cutAt then
      ((below 64).flatMap fun g => (below 4).map fun j => .periodicRecordDue g j) ++ [.admissionCutoff] else [])

/-- What a tick brings besides: changes of mode in the order of R357, the pair's release, SYNC's holdover, telemetry, the
descriptor write (11 R275; 12 R308; 13 R334; 14 R352, R357; 17 R423 to R430). -/
def tickCommands : List Instr :=
  [.frameTick, .takeoverComplete, .takeover, .configureEntry, .runEntry, .factoryEntry, .releaseEffect, .syncHold, .telCycle,
   .descWriteEffect] ++ (below 4).map .autoTimeout

/-- What the lock window of a group's frame brings: the end of a force-path hold and the beginning of the next, the
stop of its waveform source (04 R105; 08 R231; 12 R300, R302). -/
def lockCommands (g : GroupIx) : List Instr := [.fpTimeout g, .holdEnd g, .holdBegin g, .wavStopEffect g]

/-- One SEQ cycle: releases and the words of all engines, what is due, the collector, then the next cycle or the tick. While the
root runs with the domains gated only its count moves; while it is lost no cycle passes, and the collector takes what waits
(09 R236, 13 R323, R325). -/
def State.seqCycle (s : State) : State :=
  if s.clk.lock = false then State.collectDue 4 s
  else if s.clk.gated then { s with esc := { s.esc with root := s.esc.root + 16 } }
  else
    let s := s.eachG fun s g => ((s.releaseDue g).runWord g).closeDue g
    let s := State.collectDue 4 (s.obeyAll s.dueCommands)
    if s.esc.pos.toNat + 1 < s.frameCycles then s.advance 1
    else (s.obeyAll tickCommands).obeyAll ((below 64).flatMap lockCommands)

end Sys2Proof.Machine
end

