-- ==== Sys2Proof/Safety.lean ====
section
/-! DEFINITION. What claims are stated in: a safe step, a command that completes, and which part of the state a command
leaves as it was. -/

namespace Sys2Proof.Machine

open Sys2Proof

/-- A step is safe when it goes on: it neither faults nor is refused. -/
def SafeStep (s : State) : Prop := ∃ t, step s = .next t

/-- The command answers a next state, of which `P` holds. -/
def Completes (c : Instr) (s : State) (P : State → Prop) : Prop := ∃ t, exec c s = .next t ∧ P t

/-- Group g's engine runs a routine and stands at a word that it has not executed in this SEQ cycle. -/
def Runs (s : State) (g : GroupIx) : Prop := (s.grp g).eng.ready = true

/-- Nothing but group g differs. -/
def OnlyGroup (g : GroupIx) (s t : State) : Prop :=
  t = { s with groups := t.groups } ∧ ∀ h, h ≠ g → t.grp h = s.grp h

/-- Nothing but the engine of group g differs. -/
def OnlyEngine (g : GroupIx) (s t : State) : Prop :=
  OnlyGroup g s t ∧ t.grp g = { s.grp g with eng := (t.grp g).eng }

/-- Nothing but group g's engine and channels differs, and of its channels only those of the lanes in `m`. -/
def OnlyLanes (g : GroupIx) (m : LaneMask) (s t : State) : Prop :=
  OnlyGroup g s t ∧ t.grp g = { s.grp g with eng := (t.grp g).eng, chans := (t.grp g).chans } ∧
    ∀ l, lane m l = false → t.chan g l = s.chan g l

/-- A clear of the latch bits of two masks is on its way to the tile, four SEQ cycles away, and nothing else of the group but
its engine differs (03 R71). -/
def ClearIssued (g : GroupIx) (hi lo : LaneMask) (s t : State) : Prop :=
  OnlyGroup g s t ∧ t.grp g = { s.grp g with
    eng := (t.grp g).eng, clears := (s.grp g).clears ++ [⟨s.rootNow / 16 + 4, hi, lo⟩] }

/-- Between `s` and the later `t` the clears of group g that arrive by then empty their latch bits, and no other clears; in
CONFIGURE a channel that LIMIT then holds no longer is marked for its restore (03 R71, R73). -/
def ClearsAct (g : GroupIx) (s t : State) : Prop :=
  let due := (s.grp g).clears.filter fun c => decide (c.arrives ≤ t.rootNow / 16)
  (t.grp g).clears = (s.grp g).clears.filter (fun c => decide (t.rootNow / 16 < c.arrives)) ∧ ∀ l,
    let a := (s.chan g l).fe
    let b := (t.chan g l).fe
    b.hi.latch = (a.hi.latch && !due.any fun c => lane c.hi l) ∧
    b.lo.latch = (a.lo.latch && !due.any fun c => lane c.lo l) ∧
    b.stage = a.stage ∧ b.relay = a.relay ∧
    (s.modes.mode = .configure → a.limitHeld = true → b.limitHeld = false → b.restore = true)

/-- An operation for each lane of a mask is on its way to the tile, 64 root cycles away, behind those already on their way; where
the word clears FRESH those lanes' bits are clear, and nothing else of the group but its engine differs (01 R6, 05 R132). -/
def OpSent (g : GroupIx) (m : LaneMask) (op : LaneIx → TileOp) (clears : Bool) (s t : State) : Prop :=
  OnlyGroup g s t ∧ t.grp g = { s.grp g with
    eng := (t.grp g).eng, chans := (t.grp g).chans,
    sends := (s.grp g).sends ++ (lanesOf m).map fun l => ⟨s.rootNow + 64, l, op l⟩ } ∧
  ∀ l, t.chan g l = { s.chan g l with ms := { (s.chan g l).ms with fresh := (s.chan g l).ms.fresh && !(clears && lane m l) } }

/-- One operation alone is on its way to the tile in group g, and reaches lane l there n SEQ cycles from now (01 R6). -/
def OnItsWay (s : State) (g : GroupIx) (l : LaneIx) (op : TileOp) (n : Nat) : Prop :=
  (s.grp g).sends = [⟨s.rootNow + 16 * n, l, op⟩] ∧ (s.grp g).clears = [] ∧ 0 < n ∧ s.rootNow + 16 * n < 2 ^ 64

/-- A register of the engine written at the end of a field, X0 never, and the flags set (05 R131). -/
def State.aluDone (s : State) (g : GroupIx) (a : RegIx) (v : Word) (f : Flags → Flags) : State :=
  s.modE g fun e => { e with
    regs := { e.regs with x := if a = 0 then e.regs.x else e.regs.x.set a.val v a.isLt, flags := f e.regs.flags } }

/-- The four flags of the sum of three numbers, as R539 defines them. -/
def sumFlags (a b : Word) (c : Nat) : Flags :=
  let r : Word := a + b + BitVec.ofNat 32 c
  { z := decide (r = 0), n := r.getLsbD 31, c := decide (2 ^ 32 ≤ a.toNat + b.toNat + c),
    v := decide (a.toInt + b.toInt + c < -(2 ^ 31) ∨ 2 ^ 31 ≤ a.toInt + b.toInt + c) }

/-- Z and N of a result; C and V cleared (05 R131). -/
def clearFlags (r : Word) : Flags := { z := decide (r = 0), n := r.getLsbD 31, c := false, v := false }

/-- Z and N of a result; C and V kept (05 R131). -/
def keepFlags (r : Word) (f : Flags) : Flags := { z := decide (r = 0), n := r.getLsbD 31, c := f.c, v := f.v }

/-- What an engine word reads of group g's registers: X0 reads 0 (05 R131). -/
def State.xRead (s : State) (g : GroupIx) (r : RegIx) : Word := if r = 0 then 0 else (s.grp g).eng.view.regs.x[r]

/-- The word at address n lies in the extent of group g's routine and its parity is right (05 R120, R129). -/
def Fetchable (s : State) (g : GroupIx) (n : Nat) : Prop :=
  let e := (s.grp g).eng
  e.entry.toNat ≤ n ∧ n < e.entry.toNat + e.len.toNat ∧ n < 4096 ∧ s.ucBad g n = false

/-- A word's cycle ends and the engine goes to address n with these registers and this return stack; of the rest of the
state only its engine, and the count of free values taken, may differ. -/
def GoesTo (g : GroupIx) (n : Nat) (regs : Regs) (stack : List (BitVec 12)) (s t : State) : Prop :=
  let e := (s.grp g).eng
  let f := (t.grp g).eng
  f.running = true ∧ f.spent = true ∧ f.pc.toNat = n ∧ f.lastPc = e.pc ∧ f.cycles = e.cycles ∧ f.regs = regs ∧ f.stack = stack ∧
    f.timers = e.timers ∧ OnlyEngine g { s with draws := t.draws } t

/-- No limit of a routine and no abandonment falls in the next n SEQ cycles, and no corrected word waits to be written back in
them (02 R38, 05 R146, R148, 11 R292). -/
def Undisturbed (s : State) (n : Nat) : Prop :=
  s.sram.back = [] ∧ ∀ g, (s.grp g).eng.running = true → (s.grp g).eng.abDue = false ∧ n < (s.grp g).eng.toGuard ∧
    ((s.grp g).eng.committed = true → n < (s.grp g).eng.toCommitLen)

/-- Group g has been stopped: no routine runs, its slots are empty, and it stays so until the host clears it (02 R38). -/
def Stopped (t : State) (g : GroupIx) : Prop :=
  (t.grp g).gstop = true ∧ (t.grp g).eng.running = false ∧ ∀ i : Fin 8, (t.grp g).slots[i] = {}

/-- Group g has been stopped for this kind at this word: GE_STOP and the fault message name both (02 R38, 05 R149). -/
def StoppedWith (g : GroupIx) (kind : Nat) (addr : BitVec 12) (t : State) : Prop :=
  Stopped t g ∧ t.reg (adr (pGRP g) 0x33) = BitVec.ofNat 32 (kind * 65536 + addr.toNat)

/-- The number of the first check of a list that does not hold; 0 where all hold. -/
def firstFailing (checks : List (Nat × Bool)) : Nat := ((checks.find? fun c => !c.2).map Prod.fst).getD 0

/-- No quad of group g runs or ends a step. -/
def QuadsQuiet (s : State) (g : GroupIx) : Prop := ∀ j, (s.quad g j).st ≠ .running ∧ (s.quad g j).st ≠ .ending

/-- Operations of a word reach lane l alone: it belongs to no gang, is not held by a LIMIT trip or a force-path hold,
the unit drives and is not in MIRROR, no quad of the group runs, and the group's CPM is sound (03 R60, R73, R111,
17 R414, R422). -/
def LaneFree (s : State) (g : GroupIx) (l : LaneIx) : Prop :=
  s.gang g l = 1#16 <<< l.val ∧ (s.chan g l).fe.limitHeld = false ∧ lane (s.grp g).hold l = false ∧ s.drives = true ∧
    s.modes.mode ≠ .mirror ∧ QuadsQuiet s g ∧ ∀ k : Fin 1024, s.cpmBad g k = false

/-- The main-SRAM word at a byte address is v, and its check symbols are right (11 R290). -/
def Reads (s : State) (a : Nat) (v : Word) : Prop :=
  (s.sram.symbols a).1 = v ∧ (s.sram.symbols a).2 = rsCheck v

/-- The MC executes the word w: it runs, and w with its parity bits is what its store holds at its program counter
(05 R155, R156). -/
def McFetches (s : State) (w : Word) : Prop := s.mcExecutes = true ∧ s.mcStored = mcWord w

/-- The vendor routine at place `order` of the frame's list, of header p, goes ahead in group g: the engine is free, the place
has not been passed, its class c has not stopped, the cycles and slots it declares fit, the parity of its first word is right,
and the cycle after the last routine's END has come (12 R298, R299, 02 R43, 05 R120, R153). -/
def VendorGoes (s : State) (g : GroupIx) (order : Nat) (c : ClassIx) (p : Slot) : Prop :=
  s.vendorHeader g order = some p ∧ s.vendorFree g = true ∧ (s.grp g).vendorAt < order ∧ c ∉ (s.grp g).vendorStop ∧
    s.vendorFits g c p = true ∧ s.ucBad g (p.entry.toNat + 1) = false ∧
    (s.grp g).nextAt ≤ s.esc.pos.toNat

/-- The vendor routine of header p runs on group g's engine, for class c, from its first word (05 R142, R153). -/
def VendorRuns (g : GroupIx) (c : ClassIx) (p : Slot) (t : State) : Prop :=
  let e := (t.grp g).eng
  e.running = true ∧ e.vendor = true ∧ e.cls = c ∧ e.entry = p.entry ∧ e.len = p.len ∧ e.pc = p.entry + 1 ∧ e.w = p.w ∧
    e.rst = p.rst ∧ e.cycles = 0

/-- Of the registers' file nothing differs but the injection register, which disarms as it acts (18 R443). -/
def OnlyInjection (s t : State) : Prop :=
  t.rf = { s.rf with live := t.rf.live } ∧ ∀ b, b ≠ adr pFLT 0x22 → t.reg b = s.reg b

/-- Entry k of group g's staging buffer is a record of which `P` holds (05 R144). -/
def StagedRecord (t : State) (g : GroupIx) (k : Nat) (P : Entry → Prop) : Prop :=
  ∃ e, (t.grp g).staging[k]? = some (.record e) ∧ P e

/-- A ring or queue that takes n more slots with nothing dropped before and no watermark to meet (11 R272, R282 to R285, R294). -/
def TakesSlots (s : State) (sel n : Nat) : Prop :=
  let d := s.desc sel
  d.failed = false ∧ d.bad = false ∧ d.size ≠ 0 ∧ d.pend = 0 ∧ d.wmark = 0 ∧ d.fill + n ≤ d.cap

/-- An entry of n slots has been written to a ring or queue, and no other (11 R287, R288). -/
def Entered (s : State) (sel n : Nat) (t : State) : Prop :=
  ∃ u, t.rings.unsent = s.rings.unsent ++ [u] ∧ u.sel = sel ∧ u.slots = n ∧ u.slot = (s.desc sel).wr

/-- A queue of event entries takes one more with nothing in its way: no entry waits there in this frame, and no injection is
armed (11 R281, R285; 18 R443). -/
def TakesEvent (s : State) (sel : Nat) : Prop :=
  TakesSlots s sel 1 ∧ (∀ u ∈ s.rings.unsent, u.sel ≠ sel) ∧ (s.reg (adr pFLT 0x22)).getLsbD 0 = false

/-- The one entry that an event queue takes holds this SOURCE, REASON and VALUE (11 R285, R286). -/
def EventWritten (sel : Nat) (src reason : Byte) (value : Word) (s t : State) : Prop :=
  let a := (s.desc sel).slotAdr (s.desc sel).wr
  Entered s sel 1 t ∧ t.sram.word (a + 8) = (0#16 ++ reason ++ src) ∧ t.sram.word (a + 12) = value

/-- A source whose queue has room puts a message of this kind and address behind those that wait there (18 R432). -/
def Queues (src kind addr : Nat) (s t : State) : Prop :=
  let q := tget [] s.flt.queues src
  let r := tget [] t.flt.queues src
  q.length < 8 → r.take q.length = q ∧
    (r[q.length]?).map Msg.word = some (BitVec.ofNat 10 src ++ BitVec.ofNat 6 kind ++ BitVec.ofNat 16 addr)

/-- No access of the port or of Kwenlink waits for its pacing, its share or the one before it. -/
def NothingPaced (s : State) : Prop :=
  s.msp.burst = [] ∧ s.kl.burst = [] ∧ s.kl.due = none ∧ s.kl.reads = none ∧ s.kl.reqs = [] ∧ s.rings.waits = [] ∧
    ∀ r, s.msp.reply = some r → r.todo = []

/-- One register takes a value; nothing else differs. -/
def SetsReg (a : Nat) (v : Word) (s t : State) : Prop :=
  t = { s with rf := { s.rf with live := t.rf.live } } ∧ t.reg a = v ∧ ∀ b, b ≠ a → t.reg b = s.reg b

/-- The header of one page differs, and it is as `f` makes it; nothing else differs. -/
def SetsHdr (p : Nat) (f : PageHdr → PageHdr) (s t : State) : Prop :=
  t = { s with rf := { s.rf with hdr := t.rf.hdr } } ∧ t.hdr p = f (s.hdr p) ∧ ∀ q, q ≠ p → t.hdr q = s.hdr q

/-- A write is refused: ERR of its page, and nothing else (19 R461). -/
def RefusedAt (p : Nat) (s t : State) : Prop := SetsHdr p (fun h => { h with err := true }) s t

/-- A posted write meets BUSY and is dropped: LOST of its page, and nothing else (19 R477). -/
def DroppedAt (p : Nat) (s t : State) : Prop := SetsHdr p (fun h => { h with lost := true }) s t

/-- Event bit i of page p is set. -/
def HasEvent (p i : Nat) (t : State) : Prop := (t.hdr p).evt.getLsbD i = true

/-- Between a and b the driver has stopped driving: off, or VT where it has the node and TERM_EN is set (03 R66). -/
def DriverStopped (a b : FrontEnd) : Prop :=
  b.driver.st = if a.outSel = true ∧ a.driver.termEn = true then .term else .off

/-- The MC takes this command now: it executes, and the command is the oldest that waits, or none waits and it comes by the
port, or by Kwenlink while the root runs (05 R157, 13 R323). -/
def TakesNow (s : State) (from_ : CommandFrom) (code : Nat) (p : BitVec 24) : Prop :=
  s.mcRuns = true ∧ (from_ = .mcQueue → s.mc.queue.head? = some ⟨BitVec.ofNat 8 code, p⟩) ∧
    (from_ ≠ .mcQueue → s.mc.queue = []) ∧ (from_ = .kwenlink → s.rootRuns = true)

/-- The MC has taken a command from its path or its queue, and executes it (05 R157, 11 R286). -/
def State.taking (s : State) (code : Nat) (p : BitVec 24) : State :=
  { s with mc := { s.mc with queue := s.mc.queue.tail, cmd := some ⟨BitVec.ofNat 8 code, p⟩ } }

end Sys2Proof.Machine
end

