-- ==== Sys2Proof/Certificates/Slice0/Obligations.lean ====
section
/-! DEFINITION. The statements for the provers, family by family of the opcode table. -/

open Sys2Proof Sys2Proof.Machine

/-! ## The queue and the step -/

/-- With command c at the front of its queue the block executes c with the queue's rest. -/
def Obligations.StepExecutesFront : Prop :=
  ∀ (s : State) (c : Instr) (rest : List Instr),
    step { s with pending := c :: rest } = exec c { s with pending := rest }

/-- Every command takes the block to a next state, with the waiting commands as they stood: none stops it. The model's choice:
a row that has no meaning in the present state answers it unchanged (log entry 8). -/
def Obligations.EveryCommandCompletes : Prop :=
  ∀ (s : State) (c : Instr), Completes c s fun t => t.pending = s.pending

/-- The main SRAM at reset is in canonical form. -/
def Obligations.ResetSramCanonical : Prop := State.reset.sram.wf = true

/-- Every step keeps the main SRAM in canonical form: addresses strictly rising, no byte listed that reads as an
unlisted one. -/
def Obligations.StepsKeepSramCanonical : Prop :=
  ∀ s t : State, s.sram.wf = true → step s = .next t → t.sram.wf = true

/-- Every step keeps the bounds of the queues the spec sizes: no engine's return stack grows past 8 entries (05 R128), and
no more than 16 commands wait at the MC (05 R157). -/
def Obligations.StepsKeepQueueBounds : Prop :=
  let bounded (s : State) : Prop := (∀ g, (s.grp g).eng.stack.length ≤ 8) ∧ s.mc.queue.length ≤ 16
  ∀ s t : State, bounded s → step s = .next t → bounded t

/-- An engine executes one word in each SEQ cycle (05 R123): where its word of this cycle has been executed, the commands of
the next word act as they do when one more cycle of the frame has passed; a group whose engine runs no routine ignores them.
The model's choices: that the rows of a word pass the cycle they wait for (log entry 7), and that a group without a routine
ignores them (log entry 8). -/
def Obligations.WordsWaitForTheirCycle : Prop :=
  ∀ (s : State) (g : GroupIx) (w : Micro) (c : Instr), c ∈ w.commands g →
    let e := (s.grp g).eng
    (e.running = true → e.spent = true → e.restoring = false → e.abDue = false → s.esc.pos.toNat + 1 < s.frameCycles →
      exec c s = exec c (s.advance 1)) ∧
    (e.running = false → exec c s = .next s)

/-- A microword is read back into the fields of which it is put together, each at the bits the table gives it (05 R122),
with every value of each. -/
def Obligations.MicrowordFields : Prop :=
  ∀ w : Micro,
    let bits : BitVec 192 := w.seq ++ w.brCond ++ w.brTarget ++ w.chmask ++ w.forceOp ++ w.forceSrc ++ w.levelLoad ++ w.adcOp ++
      w.adcDly ++ w.cmpOp ++ w.cmpThrSel ++ w.patOp ++ w.tdcOp ++ w.ringTag ++ w.recFmt ++ w.timerOp ++ w.timerVal ++ w.aluOp ++
      (BitVec.ofFin w.regA : BitVec 5) ++ (BitVec.ofFin w.regB : BitVec 5) ++ w.imm ++ w.evt ++ BitVec.ofBool w.commit ++ (0 : BitVec 7)
    Micro.ofBits bits = w

/-! ## Group engine: arithmetic (05 R123, R131, R539) -/

/-- MOV, MOVI, MOVIU, LDFRM and LDPOS write A and touch no flag; X0 ignores the write. Nothing else changes. AND, OR,
XOR and the shifts by IMM[4:0] set Z and N and clear C and V; MUL and MULH write the low and the high word of the
signed product, set Z and N and keep C and V. Nothing else changes. -/
def Obligations.EngineArithmetic : Prop :=
  (∀ (s : State) (g : GroupIx) (a b : RegIx) (imm : BitVec 24), Runs s g →
     exec (.mov g a b) s = .next (s.aluDone g a (s.xRead g b) id) ∧
     exec (.movi g a imm) s = .next (s.aluDone g a (imm.signExtend 32) id) ∧
     exec (.moviu g a imm) s = .next (s.aluDone g a (imm.zeroExtend 32) id) ∧
     exec (.ldfrm g a) s = .next (s.aluDone g a (s.esc.frame.extractLsb' 0 32) id) ∧
     exec (.ldpos g a) s = .next (s.aluDone g a (s.esc.pos.zeroExtend 32) id)) ∧
  (∀ (s : State) (g : GroupIx) (a b : RegIx) (imm : BitVec 24), Runs s g →
     let x := s.xRead g a
     let y := s.xRead g b
     let n := (imm.extractLsb' 0 5).toNat
     let p : BitVec 64 := x.signExtend 64 * y.signExtend 64
     let logic (r : Word) : Host.Outcome State Fault Refusal := .next (s.aluDone g a r fun _ => clearFlags r)
     let product (r : Word) : Host.Outcome State Fault Refusal :=
       .next (s.aluDone g a r fun _ => keepFlags r (s.grp g).eng.view.regs.flags)
     exec (.and g a b) s = logic (x &&& y) ∧ exec (.or g a b) s = logic (x ||| y) ∧
     exec (.xor g a b) s = logic (x ^^^ y) ∧ exec (.shl g a imm) s = logic (x <<< n) ∧
     exec (.shr g a imm) s = logic (x >>> n) ∧ exec (.sar g a imm) s = logic (x.sshiftRight n) ∧
     exec (.mul g a b) s = product (p.extractLsb' 0 32) ∧ exec (.mulh g a b) s = product (p.extractLsb' 32 32))

/-- ADD, ADDI, SUB, CMP and CMPI (05 R539) take Z, N, C and V from one 32-bit addition; SUB and CMP add NOT B and 1, CMPI
adds NOT IMM and 1, so that C then says A is at or above the second operand; the compares write no register. Nothing else
changes. -/
def Obligations.EngineSumFlags : Prop :=
  ∀ (s : State) (g : GroupIx) (a b : RegIx) (imm : BitVec 24), Runs s g →
    let x := s.xRead g a
    let y := s.xRead g b
    let i : Word := imm.signExtend 32
    exec (.add g a b) s = .next (s.aluDone g a (x + y) fun _ => sumFlags x y 0) ∧
    exec (.addi g a imm) s = .next (s.aluDone g a (x + i) fun _ => sumFlags x i 0) ∧
    exec (.sub g a b) s = .next (s.aluDone g a (x - y) fun _ => sumFlags x (~~~y) 1) ∧
    exec (.cmp g a b) s = .next (s.aluDone g 0 0 fun _ => sumFlags x (~~~y) 1) ∧
    exec (.cmpi g a imm) s = .next (s.aluDone g 0 0 fun _ => sumFlags x (~~~i) 1) ∧
    ((sumFlags x (~~~y) 1).c = true ↔ y.toNat ≤ x.toNat) ∧ ((sumFlags x (~~~i) 1).c = true ↔ i.toNat ≤ x.toNat)

/-- LDLC loads LC from A. LDRES reads word IMM[4] of the result latch of lane IMM[3:0], LDCPM the CPM word IMM[9:0] and LDTBL
the step-table word IMM[11:0], as the cycle's start had them, into A; nothing else changes. A CPM word of wrong parity is not
used: it is counted, and the engine's registers stay; a step-table word of wrong parity is used, and counted. STCPM writes CPM
word IMM[9:0], STTBL a step-table word IMM[11:0] that takes writes: the word then holds A with its reserved bits 0, every other
word of both stores holds what it held, and what this cycle reads of them stays. Beside the group's store an injection may
disarm, and a QCTL write may leave a quad's clear of RUN pending. STTBL to another word does nothing. -/
def Obligations.EngineLoadsAndStores : Prop :=
  (∀ (s : State) (g : GroupIx) (a : RegIx) (imm : BitVec 24), Runs s g →
     let k := (imm.extractLsb' 0 10).toNat
     let j := (imm.extractLsb' 0 12).toNat
     let l : LaneIx := (imm.extractLsb' 0 4).toFin
     let ms := ((s.grp g).eng.view.chans[l]).ms
     let counted (loc : Nat) (t : State) : Prop := t.reg (adr pMEM 0x0A) = s.reg (adr pMEM 0x0A) + 1 ∧
       t.reg (adr pMEM 0x0D) = BitVec.ofNat 32 loc ∧ HasEvent pMEM 2 t
     exec (.ldlc g a) s = .next (s.modE g fun e => { e with
       lcLoaded := true, regs := { e.regs with lc := s.xRead g a } }) ∧
     exec (.ldres g a imm) s = .next (s.aluDone g a (if imm.getLsbD 4 then ms.l1 else ms.l0) id) ∧
     (s.cpmBad g k = false → exec (.ldcpm g a imm) s = .next (s.aluDone g a (s.cpm g k) id)) ∧
     (s.cpmBad g k = true → Completes (.ldcpm g a imm) s fun t => counted (2 * 2 ^ 24 + k) t ∧
       (t.grp g).eng.regs = (s.grp g).eng.regs) ∧
     (s.tblBad g j = false → exec (.ldtbl g a imm) s = .next (s.aluDone g a (s.tblRead g j) id)) ∧
     (s.tblBad g j = true → Completes (.ldtbl g a imm) s fun t => counted (4 * 2 ^ 24 + j) t ∧
       t.groups = (s.aluDone g a (s.tblRead g j) id).groups)) ∧
  (∀ (s : State) (g : GroupIx) (a : RegIx) (imm : BitVec 24), Runs s g →
     let k := (imm.extractLsb' 0 10).toNat
     let j := (imm.extractLsb' 0 12).toNat
     let x := s.xRead g a
     let still (t : State) : Prop := OnlyInjection s t ∧ ∀ h,
       (∀ n, t.cpm h n = s.cpm h n ∧ t.tbl h n = s.tbl h n) ∧ (h ≠ g → t.stores[h] = s.stores[h])
     Completes (.stcpm g a imm) s (fun t => still t ∧ t.cpmNow g k = x &&& cpmFields (k % 64) ∧
       (∀ n, n ≠ k → t.cpmNow g n = s.cpmNow g n) ∧ t = { s with stores := t.stores, rf := t.rf } ∧
       t.stores[g] = { s.stores[g] with
         cpm := t.stores[g].cpm, cpmBad := t.stores[g].cpmBad, cpmWas := t.stores[g].cpmWas }) ∧
     (tblWritable j = true → Completes (.sttbl g a imm) s fun t => still t ∧
       t.tblNow g j = x &&& tblFields (j % 1024) ∧ (∀ n, n ≠ j → t.tblNow g n = s.tblNow g n) ∧
       t = { s with groups := t.groups, stores := t.stores, rf := t.rf } ∧
       t.stores[g] = { s.stores[g] with
         tbl := t.stores[g].tbl, tblBad := t.stores[g].tblBad, tblWas := t.stores[g].tblWas } ∧
       (∀ h, h ≠ g → t.grp h = s.grp h) ∧ t.grp g = { s.grp g with quads := (t.grp g).quads } ∧
       ∀ i, t.quad g i = { s.quad g i with runClear := (t.quad g i).runClear }) ∧
     (tblWritable j = false → exec (.sttbl g a imm) s = .next s))

/-- TIMER_OP loads a timer with TIMER_VAL or X[REG_B], a load of 0 expired at once, or stops it; nothing else changes. A timer
that counts V reads expired V cycles later: the row passes them where no limit of a routine falls in them and the frame has
them; a timer that does not count does nothing. The model's choices: the row passes the cycles (log entry 46), and does
nothing for a timer that does not count (log entry 8). -/
def Obligations.EngineTimers : Prop :=
  ∀ (s : State) (g : GroupIx) (k : Fin 4) (b : RegIx) (v : BitVec 20) (n : Word),
    let e := (s.grp g).eng
    let load (w : Word) : Timer := if w = 0 then .expired else .running w
    let set (x : Timer) : Host.Outcome State Fault Refusal := .next (s.modE g fun e => { e with timers := e.timers.set k x })
    (Runs s g → exec (.timerLoadVal g k v) s = set (load (v.zeroExtend 32)) ∧
      exec (.timerLoadReg g k b) s = set (load (s.xRead g b)) ∧ exec (.timerStop g k) s = set .stopped) ∧
    (e.running = true → e.timers[k] = .running n → n ≠ 0 → Undisturbed s n.toNat →
      s.esc.pos.toNat + n.toNat < s.frameCycles → s.frameCycles ≤ 2 ^ 28 →
      Completes (.timerExpire g k) s fun t => t = s.flow n.toNat ∧ (t.grp g).eng.timers[k] = .expired ∧
        t.esc.pos.toNat = s.esc.pos.toNat + n.toNat) ∧
    ((∀ n, e.timers[k] ≠ .running n) → exec (.timerExpire g k) s = .next s)

/-! ## Group engine: sequencing (05 R125 to R129, R142 to R149) -/

/-- What each branch condition tests, on the state at the start of the word's cycle; CLAMP_ANY tests a free value on the
lanes whose stage is not in HIZ (log entry 4). -/
def Obligations.BranchConditions : Prop :=
  ∀ (s : State) (g : GroupIx) (m : LaneMask) (a : RegIx),
    let v := (s.grp g).eng.view
    let holds (code : BitVec 6) : Prop := (s.cond g code m a).1 = true
    let all (p : LaneMask) : Prop := ∀ l, lane m l = true → lane p l = true
    let some (p : LaneMask) : Prop := ∃ l, lane m l = true ∧ lane p l = true
    holds 0x00 ∧ ¬ holds 0x01 ∧ ¬ holds 0x06 ∧ ¬ holds 0x07 ∧
    (holds 0x02 ↔ v.regs.flags.z = true) ∧ (holds 0x03 ↔ v.regs.flags.n = true) ∧
    (holds 0x04 ↔ v.regs.flags.c = true) ∧ (holds 0x05 ↔ v.regs.flags.v = true) ∧
    (∀ k : Fin 4, holds (0x08 + BitVec.ofNat 6 k) ↔ v.timers[k] = .expired) ∧
    (holds 0x0C ↔ all v.fresh) ∧ (holds 0x0D ↔ some v.hiL ∨ some v.loL) ∧ (holds 0x0E ↔ some v.hiL) ∧
    (holds 0x0F ↔ some v.loL) ∧ (holds 0x10 ↔ v.patDone = true) ∧ (holds 0x11 ↔ some v.fails) ∧
    (holds 0x12 ↔ all v.stamps) ∧ (holds 0x13 ↔ all v.settled) ∧ (holds 0x14 ↔ v.irq = true) ∧
    ((∀ l : LaneIx, lane m l = true → v.chans[l].fe.stage.st = .hiz) → ¬ holds 0x15) ∧
    (holds 0x16 ↔ some v.hold) ∧ (holds 0x17 ↔ s.modes.mode = .mirror) ∧
    (∀ code : BitVec 6, 0x18 ≤ code.toNat → code.toNat < 0x20 → ¬ holds code) ∧
    (∀ n : Fin 32, holds (0x20 + BitVec.ofNat 6 n) ↔ (s.xRead g a).getLsbD n = true)

/-- NEXT, BRANCH, WAIT, WAIT_TO and LOOP go where R125 sends them, within the extent and to a word of right parity; LOOP
tests LC as at the start of the cycle, and loses its decrement to an LDLC of the same word. -/
def Obligations.SequencingGoesOn : Prop :=
  ∀ (s : State) (g : GroupIx) (code : BitVec 6) (target : BitVec 12) (m : LaneMask) (a : RegIx),
    Runs s g → (s.grp g).eng.abDue = false →
    let e := (s.grp g).eng
    let c := (s.cond g code m a).1
    let on : Nat := e.pc.toNat + 1
    let goes (i : Instr) (n : Nat) (r : Regs) : Prop := Fetchable s g n → Completes i s (GoesTo g n r e.stack s)
    goes (.next g) on e.regs ∧
    goes (.branch g code target m a) (if c then target.toNat else on) e.regs ∧
    goes (.wait g code m a) (if c then on else e.pc.toNat) e.regs ∧
    goes (.waitTo g code target m a)
      (if c then on else if e.view.timers[3] = .expired then target.toNat else e.pc.toNat) e.regs ∧
    goes (.loop g target) (if e.view.regs.lc = 0 then on else target.toNat)
      (if e.view.regs.lc = 0 ∨ e.lcLoaded = true then e.regs else { e.regs with lc := e.view.regs.lc - 1 })

/-- The return stack holds 8 entries (05 R128): CALL pushes PC + 1 and RETURN pops; a CALL with 8 entries on the stack, or
a RETURN with none, stops the group with fault kind STACK; a release and a restart leave it empty; END discards it. -/
def Obligations.ReturnStack : Prop :=
  ∀ (s : State) (g : GroupIx) (code : BitVec 6) (target : BitVec 12) (m : LaneMask) (a : RegIx),
    let e := (s.grp g).eng
    let c := (s.cond g code m a).1
    let on : Nat := e.pc.toNat + 1
    let stack (t : State) := (t.grp g).eng.stack
    let stops (t : State) : Prop := Stopped t g ∧
      t.reg (adr (pGRP g) 0x33) = BitVec.ofNat 32 (kSTACK * 65536 + e.pc.toNat)
    let restarts (t : State) : Prop := (t.grp g).eng.restarts ≠ e.restarts → stack t = []
    (Runs s g → e.abDue = false →
      (c = true → e.stack.length < 8 → Fetchable s g target.toNat →
        Completes (.call g code target m a) s (GoesTo g target.toNat e.regs ((e.pc + 1) :: e.stack) s)) ∧
      (c = false → Fetchable s g on → Completes (.call g code target m a) s (GoesTo g on e.regs e.stack s)) ∧
      (∀ r rest, c = true → e.stack = r :: rest → Fetchable s g r.toNat →
        Completes (.return g code m a) s (GoesTo g r.toNat e.regs rest s)) ∧
      (c = false → Fetchable s g on → Completes (.return g code m a) s (GoesTo g on e.regs e.stack s)) ∧
      (c = true → 8 ≤ e.stack.length → Completes (.call g code target m a) s stops) ∧
      (c = true → e.stack = [] → Completes (.return g code m a) s stops)) ∧
    (e.running = false → Completes (.routineRelease g) s fun t => (t.grp g).eng.running = true → stack t = []) ∧
    Completes (.interrupt g) s restarts ∧ Completes (.linkXfer g) s restarts ∧ Completes (.next g) s restarts ∧
    (Runs s g → Completes (.endSeq g) s fun t => (t.grp g).eng.running = false ∧ stack t = [] ∧
      (e.postLoss = false → (t.grp g).gstop = (s.grp g).gstop))

/-- A word that would fetch outside the extent stops the group. The guard stops it at the end of the W-th cycle of a routine
that still runs, and the cycle after 64 cycles past the COMMIT word stops a committed one: the rows pass the cycles to that
instant, where no other limit comes first and the frame has them. GE_STOP holds the kind. Where no routine runs they do
nothing. The model's choices: the guard comes first where both limits fall in one cycle, and the commit limit at the start of
the 65th (log entry 89); a word that leaves the extent stops the group even where an event is due in its cycle (log entry
100); the rows do nothing where no routine runs (log entry 8). -/
def Obligations.EngineGroupStops : Prop :=
  ∀ (s : State) (g : GroupIx),
    let e := (s.grp g).eng
    let on : Nat := e.pc.toNat + 1
    let stops (kind : Nat) (t : State) : Prop := Stopped t g ∧
      ((t.reg (adr (pGRP g) 0x33)).extractLsb' 16 16).toNat = kind
    let due (n : Nat) : Prop := 0 < n ∧ Undisturbed s (n - 1) ∧ s.esc.pos.toNat + n < s.frameCycles
    (Runs s g → on < e.entry.toNat ∨ e.entry.toNat + e.len.toNat ≤ on → Completes (.next g) s (stops kEXTENT)) ∧
    (e.running = true → due e.toGuard → Completes (.cycleGuardExpiry g) s (stops kCYCLE_GUARD)) ∧
    (e.running = true → e.committed = true → due e.toCommitLen → e.toCommitLen < e.toGuard →
      Completes (.commitLen g) s (stops kCOMMIT_LEN)) ∧
    (e.running = false → exec (.cycleGuardExpiry g) s = .next s ∧ exec (.commitLen g) s = .next s)

/-- A release takes the first due program in its cycle, 64 or the one after its predecessor's end, inside the body of the
frame: a copy of the registers, timers stopped, an empty stack, the word after the header, no restart yet. It needs an idle
engine, no group stop, and RUN or MIRROR; elsewhere nothing is released. COMMIT marks the routine and empties its staging
buffer; END commits and ends it: the registers are shown, and a loss after the commit stops the group. Both need a routine
that runs. The model's choices: a release elsewhere does nothing (log entry 8) and passes the cycles to its instant (log entry
46); an END of a routine that has not committed commits it though an event is due (log entry 99). -/
def Obligations.ReleaseCommitEnd : Prop :=
  (∀ (s : State) (g : GroupIx) (i : Fin 8) (sl : Slot) (rest : List (Fin 8 × Slot)),
     let gr := s.grp g
     let e := gr.eng
     let n := gr.nextAt - s.esc.pos.toNat
     let may : Prop := e.running = false ∧ gr.gstop = false ∧ (s.modes.mode = .run ∨ s.modes.mode = .mirror) ∧
       64 ≤ gr.nextAt ∧ s.esc.pos.toNat ≤ gr.nextAt ∧ gr.nextAt < s.frameCycles - 128
     (gr.due = (i, sl) :: rest → may → Undisturbed s n → s.ucBad g (sl.entry + 1).toNat = false →
       Completes (.routineRelease g) s fun t =>
         let f := (t.grp g).eng
         f.running = true ∧ f.spent = false ∧ f.committed = false ∧ f.pc = sl.entry + 1 ∧ f.entry = sl.entry ∧
         f.len = sl.len ∧ f.slot = i ∧ f.regs = e.regs ∧ f.rel = e.regs ∧ f.stack = [] ∧ f.w = sl.w ∧ f.cycles = 0 ∧
         (∀ k : Fin 4, f.timers[k] = .stopped) ∧ f.restarts = 0 ∧ (t.grp g).due = rest ∧ OnlyGroup g (s.flow n) t) ∧
     (gr.due = [] ∨ ¬ may → exec (.routineRelease g) s = .next s)) ∧
  (∀ (s : State) (g : GroupIx), Runs s g →
     let e := (s.grp g).eng
     Completes (.commit g) s (fun t => (t.grp g).eng.committed = true ∧ (t.grp g).eng.running = true ∧
       (t.grp g).eng.regs = e.regs ∧ (e.committed = false → (t.grp g).staging = []) ∧ (∀ h, h ≠ g → t.grp h = s.grp h)) ∧
     Completes (.endSeq g) s (fun t => (t.grp g).eng.running = false ∧ (t.grp g).eng.shown = e.regs.x ∧
       (t.grp g).eng.regs = e.regs ∧ (t.grp g).eng.stack = [] ∧ (t.grp g).nextAt = s.esc.pos.toNat + 1 ∧
         ((t.grp g).gstop = true ↔ (s.grp g).gstop = true ∨
         (e.postLoss = true)) ∧ (∀ h, h ≠ g → t.grp h = s.grp h)))

/-- An interrupt or a lost transfer that reaches an uncommitted routine acts at the end of its word's cycle: before the SEQ
field it marks the routine, and the SEQ field, or the event itself where the word has been executed, abandons it while restarts
are left: the registers of the release come back and the word after the header is next; a wrong parity of that word stops the
group with GE_PARITY, and with no restart left RESTART_LIMIT does. Every lost transfer queues LINK_XFER of the group and counts
on the tile's page. A committed routine goes on: an interrupt leaves it as it is, and a lost transfer has its END stop the group
with POST_COMMIT_LOSS. -/
def Obligations.AbandonedRoutineRestarts : Prop :=
  ∀ (s : State) (g : GroupIx),
    let e := (s.grp g).eng
    let on : Nat := e.pc.toNat + 1
    let back (t : State) : Prop :=
      let f := (t.grp g).eng
      f.running = true ∧ f.regs = e.rel ∧ f.pc = e.entry + 1 ∧ f.stack = [] ∧ (∀ k : Fin 4, f.timers[k] = .stopped) ∧
      f.restarts = e.restarts + 1 ∧ (t.grp g).staging = [] ∧ (∀ h, h ≠ g → t.grp h = s.grp h)
    let marked (t : State) : Prop := (t.grp g).eng.abDue = true ∧ (t.grp g).eng.regs = e.regs ∧ (t.grp g).eng.pc = e.pc ∧
      (∀ h, h ≠ g → t.grp h = s.grp h)
    let lost (t : State) : Prop := Queues (srcGRP g) kLINK_XFER 0 s t ∧
      t.reg (adr (pTILE (tileOf g)) 0x0A) = s.reg (adr (pTILE (tileOf g)) 0x0A) + 1 ∧ HasEvent (pTILE (tileOf g)) 1 t
    let stops (kind : Nat) (addr : BitVec 12) (t : State) : Prop := StoppedWith g kind addr t ∧
      Queues (srcGRP g) kind addr.toNat s t
    let rises : Prop := s.irqPend g &&& ~~~ (s.grp g).irqSeen ≠ 0
    (e.running = true → e.committed = false → e.restoring = false → e.vendor = false →
      (e.spent = false → rises → Completes (.interrupt g) s marked) ∧
      (e.spent = false → Completes (.linkXfer g) s fun t => marked t ∧ lost t) ∧
      (e.restarts.toNat < e.rst.toNat → s.ucBad g (e.entry + 1).toNat = false →
        (e.spent = true → rises → Completes (.interrupt g) s back) ∧
        (e.spent = true → Completes (.linkXfer g) s fun t => back t ∧ lost t) ∧
        (e.spent = false → e.abDue = true → e.entry.toNat ≤ on → on < e.entry.toNat + e.len.toNat →
          Completes (.next g) s back)) ∧
      (e.restarts.toNat < e.rst.toNat → s.ucBad g (e.entry + 1).toNat = true → e.spent = true → rises →
        Completes (.interrupt g) s (stops kGE_PARITY (e.entry + 1))) ∧
      (e.rst.toNat ≤ e.restarts.toNat →
        (e.spent = true → rises → Completes (.interrupt g) s (stops kRESTART_LIMIT e.lastPc)) ∧
        (e.spent = true → Completes (.linkXfer g) s fun t => StoppedWith g kRESTART_LIMIT e.lastPc t ∧ lost t) ∧
        (e.spent = false → e.abDue = true → e.entry.toNat ≤ on → on < e.entry.toNat + e.len.toNat →
          Completes (.next g) s (stops kRESTART_LIMIT e.pc)))) ∧
    (Runs s g → e.abDue = false → e.entry.toNat ≤ on → on < e.entry.toNat + e.len.toNat → s.ucBad g on = true →
      Completes (.next g) s (stops kGE_PARITY (e.pc + 1))) ∧
    (e.running = true → e.committed = true → e.restoring = false → e.vendor = false →
      (rises → Completes (.interrupt g) s fun t => (t.grp g).eng = e ∧ t = { s with groups := t.groups } ∧
        ∀ h, h ≠ g → t.grp h = s.grp h) ∧
      (Completes (.linkXfer g) s fun t => lost t ∧ (t.grp g).eng = { e with postLoss := true } ∧ ∀ h, h ≠ g → t.grp h = s.grp h) ∧
      (e.spent = false → e.postLoss = true → Completes (.endSeq g) s fun t => StoppedWith g kPOST_COMMIT_LOSS e.pc t))

/-- A die-to-die link error counts on its tile's page and queues TILE_LINK of that tile, which no other source does; with that
queue full the message is lost and counted. A value that arrives is written to L0, a READ's to L1 too, and sets FRESH. -/
def Obligations.TileLinkAndArrivals : Prop :=
  ∀ (s : State) (k : TileIx) (g : GroupIx) (l : LaneIx) (a : Arrival) (rest : List Arrival),
    Completes (.tileLink k) s (fun t =>
      t.reg (adr (pTILE k) 0x0B) = s.reg (adr (pTILE k) 0x0B) + 1 ∧ (t.hdr (pTILE k)).evt.getLsbD 0 = true ∧
      Queues (srcTILE k) kTILE_LINK 0 s t ∧ (∀ c, c ≠ srcTILE k → tget [] t.flt.queues c = tget [] s.flt.queues c) ∧
      (8 ≤ (tget [] s.flt.queues (srcTILE k)).length → t.flt.queues = s.flt.queues ∧
        t.reg (adr pFLT 0x14) = s.reg (adr pFLT 0x14) + 1 ∧ HasEvent pFLT 2 t) ∧
      t = { s with flt := t.flt, rf := t.rf }) ∧
    ((s.chan g l).ms.arrivals = a :: rest →
      exec (.resultArrival g l) s = .next (s.modMs g l fun m => { m with
        arrivals := rest, l0 := a.l0, l1 := a.l1.getD m.l1, fresh := true, resOvr := a.ovr }))

/-! ## Channel operations (05 R133 to R136, 03) -/

/-- FV and FI load state, setpoint or link, range and clamps of every lane named, and no other lane: the setpoint
comes from the CPM, the register, IMM, the waveform source (FV) or the regulator (FV on lane 4q). HIZ turns the stages
of the lanes off, RANGE loads their range alone, notes a change under drive, and ends a link at the code forced, SAFE
applies their safe records with the relays unchanged. -/
def Obligations.ForceStage : Prop :=
  (∀ (s : State) (g : GroupIx) (m : LaneMask) (src : BitVec 4) (b : RegIx) (imm : BitVec 24), Runs s g →
     (∀ l, lane m l = true → LaneFree s g l ∧ (s.chan g l).fe.outSel = false) →
     let word (l : LaneIx) (w : Nat) : BitVec 18 × ForceLink := ((s.cpmL g l w).setWidth 18, .none)
     let source (fi : Bool) (l : LaneIx) : BitVec 18 × ForceLink :=
       let base := if fi then 2 else 0
       if src = 1 then word l (base + 1)
       else if src = 2 then ((s.xRead g b).setWidth 18, .none)
       else if src = 3 then (imm.setWidth 18, .none)
       else if src = 4 ∧ fi = false then ((s.chan g l).fe.stage.code, .wave)
       else if src = 5 ∧ fi = false ∧ l.val % 4 = 0 then ((s.chan g l).fe.stage.code, .pi)
       else word l base
     let forced (fi : Bool) (t : State) : Prop := OnlyLanes g m s t ∧ ∀ l, lane m l = true →
       (t.chan g l).fe.stage = ({
         st := if fi then .fi else .fv, code := (source fi l).1, link := (source fi l).2,
         range := rangeCode ((s.cpmL g l 6).setWidth 3), mag := magCode ((s.cpmL g l 5).setWidth 16),
         vclamp := s.cpmL g l 4, was := (t.chan g l).fe.stage.was, moved := (t.chan g l).fe.stage.moved } : Stage) ∧
       (t.chan g l).fe.driver = (s.chan g l).fe.driver ∧ (t.chan g l).fe.relay = (s.chan g l).fe.relay ∧
       (t.chan g l).ms = (s.chan g l).ms
     Completes (.forceFv g m src b imm) s (forced false) ∧ Completes (.forceFi g m src b imm) s (forced true)) ∧
  (∀ (s : State) (g : GroupIx) (m : LaneMask), Runs s g → (∀ l, lane m l = true → LaneFree s g l) →
     let each (t : State) (p : LaneIx → FrontEnd → FrontEnd → Prop) : Prop :=
       OnlyLanes g m s t ∧ ∀ l, lane m l = true → p l (s.chan g l).fe (t.chan g l).fe ∧
         (t.chan g l).fe.relay = (s.chan g l).fe.relay ∧ (t.chan g l).ms = (s.chan g l).ms
     ((∀ l, lane m l = true → (s.chan g l).fe.outSel = false) →
       Completes (.forceHiz g m) s (fun t => each t fun _ a b =>
         b.stage = { a.stage with st := .hiz, link := .none, moved := b.stage.moved } ∧ b.driver = a.driver) ∧
       Completes (.forceRange g m) s (fun t => each t fun l a b =>
         b.stage = { a.stage with range := rangeCode ((s.cpmL g l 6).setWidth 3), code := s.stageCode g l, link := .none,
                                  was := b.stage.was, moved := b.stage.moved } ∧
         (a.stage.st ≠ .hiz → b.stage.range ≠ a.stage.range → b.stage.was = a.stage.range ∧ b.stage.moved = some s.rootNow) ∧
         b.driver = a.driver)) ∧
     Completes (.forceSafe g m) s (fun t => each t fun _ a b =>
       let r := a.safeRec
       let drv := (r.extractLsb' 5 2).toNat
       let driven := drv = 1 ∨ drv = 2
       (b.outSel = true ↔ driven) ∧ (b.stage.st = .fv ↔ r.getLsbD 0 = true ∧ ¬ driven) ∧ b.stage.st ≠ .fi ∧
       b.stage.code = r.extractLsb' 7 18 ∧ b.stage.range = rangeCode (r.extractLsb' 1 3) ∧ b.action = .none))

/-- A close of an open idle relay starts on a live beam whose pending count steps; an open of a closed idle relay starts;
a relay already there is left alone. One that must not move stays, its refusal counted and written to the group's event queue:
HOT before the idle time is over, with RELAY_HOT raised; BUSY in motion; RETIRED, before HOT (the model's choice, log entry 16),
where both beams are. Force operations on a lane that a tripped LIMIT or a hold keeps, on a gang member that does not lead, or
on a node that the driver owns, are ignored and counted, and so is a close on a tripped LIMIT channel. -/
def Obligations.RelayCommands : Prop :=
  (∀ (s : State) (g : GroupIx) (l : LaneIx), Runs s g → LaneFree s g l →
     let r := (s.chan g l).fe.relay
     let one : LaneMask := 1#16 <<< l.val
     let after (t : State) : Relay := (t.chan g l).fe.relay
     let ready := (s.chan g l).fe.cold s.rootNow
     let refused (reason : Byte) (t : State) : Prop := after t = r ∧
       t.reg (adr (pGRP g) 0x17) = s.reg (adr (pGRP g) 0x17) + 1 ∧
       (TakesEvent s (selGroup g) → EventWritten (selGroup g) 3 reason (BitVec.ofNat 32 l.val) s t)
     let hot (t : State) : Prop := refused 1 t ∧ Queues (srcGRP g) kRELAY_HOT 0 s t
     (∀ b, r.st = .opened → ready = true → s.nextBeam g l = some b → (if b then r.pendB else r.pendA) < 0xFFFFFFFE →
       Completes (.rlyClose g one) s fun t => OnlyLanes g one s t ∧ (after t).st = .closing ∧ (after t).beamB = b ∧
         (if b then (after t).pendB = r.pendB + 1 else (after t).pendA = r.pendA + 1)) ∧
     (r.st = .closed → ready = true → Completes (.rlyOpen g one) s fun t =>
       OnlyLanes g one s t ∧ after t = { r with st := .opening }) ∧
     (r.st = .closed → Completes (.rlyClose g one) s fun t => OnlyEngine g s t) ∧
     (r.st = .opened → Completes (.rlyOpen g one) s fun t => OnlyEngine g s t) ∧
     (r.st = .closed → ready = false → Completes (.rlyOpen g one) s hot) ∧
     (r.st = .opened → ready = false → s.nextBeam g l ≠ none → Completes (.rlyClose g one) s hot) ∧
     (r.st = .closing ∨ r.st = .opening → Completes (.rlyClose g one) s (fun t => refused 2 t ∧ t.flt = s.flt) ∧
       Completes (.rlyOpen g one) s (fun t => refused 2 t ∧ t.flt = s.flt)) ∧
     (r.st = .opened → s.nextBeam g l = none → Completes (.rlyClose g one) s fun t => refused 3 t ∧ t.flt = s.flt)) ∧
  (∀ (s : State) (g : GroupIx) (l : LaneIx), exec (.relaySettled g l) s = .next (s.modFe g l fun fe =>
     let x : RelayState := if fe.relay.st = .closing then .closed else if fe.relay.st = .opening then .opened else fe.relay.st
     { fe with relay := { fe.relay with st := x } })) ∧
  (∀ (s : State) (g : GroupIx) (l : LaneIx) (src : BitVec 4) (b : RegIx) (imm : BitVec 24), Runs s g → s.modes.mode ≠ .mirror →
     let one : LaneMask := 1#16 <<< l.val
     let counted (i : Instr) (o : Nat) : Prop := Completes i s (SetsReg (adr (pGRP g) o) (s.reg (adr (pGRP g) o) + 1) s)
     let kept := s.leader g l ≠ l ∨ s.limitHeld g l = true ∨ lane (s.grp g).hold l = true
     (kept ∨ (s.chan g l).fe.outSel = true → counted (.forceHiz g one) 0x1D ∧ counted (.forceRange g one) 0x1D ∧
       counted (.forceFv g one src b imm) 0x1D ∧ counted (.forceFi g one src b imm) 0x1D) ∧
     (kept → counted (.forceSafe g one) 0x1D) ∧
     (s.gang g l = one → (s.chan g l).fe.limitHeld = true → (s.chan g l).fe.relay.st ≠ .closed → counted (.rlyClose g one) 0x17))

/-- LEVEL_LOAD: VIH and VIL from CPM word 7 unless the waveform source holds them, VT from word 8; with bit 4 the node owner
from word 6, where 0 to 1 puts the stage in HIZ and 1 to 0 turns the driver off, TERM_EN and RLY_IDLE; a driver that is off
and owns the node terminates it where TERM_EN is set; with bit 3 both clamps, the setpoint kept. CMP_OP clear issues a clear
of the latches chosen, which reaches the tile and empties them four SEQ cycles later, before a trip qualified in that cycle;
off leaves a comparator untripped and unqualified with its latch kept, and CMP_THR_SEL loads threshold, hysteresis, mode,
LATCH and SRC from the CPM word of the set, the latch kept and its blanking restarted, by the code loaded with it (the model's
choice, log entry 96). -/
def Obligations.LevelsAndComparators : Prop :=
  (∀ (s : State) (g : GroupIx) (m : LaneMask) (bits : BitVec 8), Runs s g → (∀ l, lane m l = true → LaneFree s g l) →
     Completes (.levelLoad g m bits) s fun t => OnlyLanes g m s t ∧ ∀ l, lane m l = true →
       let a := (s.chan g l).fe
       let b := (t.chan g l).fe
       let mask := s.reg (adr (pWAV g) 0x11)
       let w6 := s.cpmL g l 6
       let owner : Bool := if bits.getLsbD 4 then w6.getLsbD 3 else a.outSel
       b.driver.vih = (if bits.getLsbD 0 ∧ mask.getLsbD l.val = false then
         levelCode ((s.cpmL g l 7).extractLsb' 16 16) else a.driver.vih) ∧
       b.driver.vil = (if bits.getLsbD 1 ∧ mask.getLsbD (16 + l.val) = false then
         levelCode ((s.cpmL g l 7).extractLsb' 0 16) else a.driver.vil) ∧
       b.driver.vt = (if bits.getLsbD 2 then levelCode ((s.cpmL g l 8).extractLsb' 0 16) else a.driver.vt) ∧
       b.outSel = owner ∧ (owner = true → a.outSel = false → b.stage.st = .hiz) ∧
       (owner = false → a.outSel = true → b.driver.st = .off) ∧ b.relay = a.relay ∧ (t.chan g l).ms = (s.chan g l).ms ∧
       b.stage.mag = (if bits.getLsbD 3 then magCode ((s.cpmL g l 5).extractLsb' 0 16) else a.stage.mag) ∧
       b.stage.vclamp = (if bits.getLsbD 3 then s.cpmL g l 4 else a.stage.vclamp) ∧ b.stage.code = a.stage.code ∧
       b.driver.termEn = (if bits.getLsbD 4 then w6.getLsbD 4 else a.driver.termEn) ∧
       b.rlyIdle = (if bits.getLsbD 4 then w6.extractLsb' 16 16 else a.rlyIdle) ∧
       (bits.getLsbD 4 = true → owner = true → a.driver.st = .off ∨ a.driver.st = .term →
         b.driver.st = if w6.getLsbD 4 then .term else .off)) ∧
  (∀ (s : State) (g : GroupIx) (m : LaneMask) (sel : BitVec 2) (bits : BitVec 4), Runs s g →
     let each (t : State) (p : LaneIx → FrontEnd → FrontEnd → Prop) : Prop := ∀ l, lane m l = true →
       p l (s.chan g l).fe (t.chan g l).fe
     let loaded (w : Word) (blank : Nat) (a b : Comparator) : Prop := b.thr = w.extractLsb' 0 16 ∧ b.hyst = w.extractLsb' 16 7 ∧
       b.mode = w.extractLsb' 24 3 ∧ b.swClear = w.getLsbD 27 ∧ b.fromI = w.getLsbD 28 ∧ b.latch = a.latch ∧ b.limit = a.limit ∧
       if b.mode = 0 ∨ 4 < b.mode.toNat then b.tripped = false ∧ b.qualified = false
       else b.tripped = a.tripped ∧ b.qualified = a.qualified ∧ b.blanking = (a.tripped && a.qualified) ∧
         b.blankTo = s.rootNow + 16 * min blank 2048
     Completes (.cmpClear g m sel) s (fun t =>
       ClearIssued g (if sel.getLsbD 0 then m else 0) (if sel.getLsbD 1 then m else 0) s t ∧
       (s.rootNow + 64 < 2 ^ 64 → ClearsAct g t (t.flow 4))) ∧
     Completes (.cmpOff g m sel) s (fun t => OnlyLanes g m s t ∧ each t fun _ a b =>
       (if sel.getLsbD 0 then b.hi.mode = 0 ∧ b.hi.tripped = false ∧ b.hi.qualified = false else b.hi = a.hi) ∧
       (if sel.getLsbD 1 then b.lo.mode = 0 ∧ b.lo.tripped = false ∧ b.lo.qualified = false else b.lo = a.lo) ∧
       b.hi.latch = a.hi.latch ∧ b.lo.latch = a.lo.latch ∧ b.stage = a.stage ∧ b.relay = a.relay) ∧
     ((∀ k : Fin 1024, s.cpmBad g k = false) → Completes (.cmpThrSel g m bits) s fun t => OnlyLanes g m s t ∧ each t fun l a b =>
       let blank (k : Nat) : Nat := fld (s.cpmL g l 0x0D) k 12
       (if bits.getLsbD 3 then loaded (s.cpmL g l (if bits.getLsbD 2 then 0x0A else 0x09)) (blank 0) a.hi b.hi else b.hi = a.hi) ∧
       (if bits.getLsbD 1 then loaded (s.cpmL g l (if bits.getLsbD 0 then 0x0C else 0x0B)) (blank 16) a.lo b.lo else b.lo = a.lo) ∧
       b.stage = a.stage ∧ b.relay = a.relay))

/-- A trip takes effect when its blanking has ended, the row passing the cycles to that, or at once while the root is lost: it
sets its latch and enters the group's event queue; in LIMIT it disconnects the channel with its gang, relays on the way open;
in CUTOFF on channels 4q+1 to 4q+3 it drives channel 4q to its safe record, the relay unchanged. In MIRROR, LIMIT and CUTOFF
act as MONITOR. PATTERN and OFF latch nothing. A comparator without a trip under way does nothing. A comparator that acts
takes the new raw output, qualified from its first change on and blanking while tripped; no other part of the front end
changes. The restore of a channel applies its record or moves its relay. A write of CMP_CLR issues a clear of the bits
written, which acts four SEQ cycles later and marks what it frees in CONFIGURE. GANG takes an admissible mask, whose members
are then in range 4, a change of range under drive noted, else ERR. The model's choices: a restore takes the leader's record
for a gang member, and applies values with the relay open where both beams are retired (log entry 77); a row with no trip
under way does nothing (log entry 8). -/
def Obligations.TripsAndComparatorEvents : Prop :=
  (∀ (s : State) (g : GroupIx) (l : LaneIx) (low : Bool),
     let c := (s.chan g l).fe.cmp low
     let n := if s.rootRuns then s.cyclesTo c.blankTo else 0
     let inTime : Prop := s.rootRuns = true → Undisturbed s n ∧ s.esc.pos.toNat + n < s.frameCycles ∧
       s.rootNow + 16 * n < 2 ^ 64 ∧ (s.grp g).sends = [] ∧ (s.grp g).clears = []
     let latched (t : State) : Prop := ((t.chan g l).fe.cmp low).latch = true ∧ (∀ h, h ≠ g → t.grp h = (s.flow n).grp h) ∧
       (TakesEvent s (selGroup g) → EventWritten (selGroup g) 3 5 (BitVec.ofNat 32 (l.val + if low then 16 else 0)) s t)
     let kept (t : State) (k : LaneIx) : Prop := let a := (s.chan g k).fe; let b := (t.chan g k).fe
       b.stage = a.stage ∧ b.relay = a.relay ∧ b.action = a.action
     let stage : LaneIx := quadLane (quadOf l) 0
     let rests := (s.quad g (quadOf l)).st = .idle ∨ (s.quad g (quadOf l)).st = .done ∨ (s.quad g (quadOf l)).st = .refused
     let cuts := c.mode = 4 ∧ s.modes.mode ≠ .mirror ∧ l.val % 4 ≠ 0 ∧ rests
     (QuadsQuiet s g → (s.grp g).failed = false → s.gang g l &&& (s.grp g).hold = 0 → inTime →
       c.tripped = true → c.blanking = true → c.qualified = true →
       (c.mode = 3 → s.modes.mode ≠ .mirror → Completes (.tripQualified g l low) s fun t => latched t ∧
         (t.chan g l).fe.limitHeld = true ∧ ∀ k, lane (s.gang g l) k = true → let b := (t.chan g k).fe
           b.stage.st = .hiz ∧ DriverStopped (s.chan g k).fe b ∧ b.action = .disconnect ∧
           (b.relay.st = .opening ∨ b.relay.st = .opened)) ∧
       (c.mode = 2 ∨ (c.mode = 3 ∧ s.modes.mode = .mirror) ∨ (c.mode = 4 ∧ (s.modes.mode = .mirror ∨ l.val % 4 = 0)) →
         Completes (.tripQualified g l low) s fun t => latched t ∧ kept t l) ∧
       (cuts → s.gang g stage = 1#16 <<< stage.val → (s.chan g stage).fe.action = .none → s.drives = true →
         Completes (.tripQualified g l low) s fun t => latched t ∧ kept t l ∧
           let b := (t.chan g stage).fe
           let r := (s.chan g stage).fe.safeRec
           let driven := (r.extractLsb' 5 2).toNat = 1 ∨ (r.extractLsb' 5 2).toNat = 2
           b.action = .cutoff ∧ b.relay = (s.chan g stage).fe.relay ∧ b.stage.code = r.extractLsb' 7 18 ∧
           (b.stage.st = .fv ↔ r.getLsbD 0 = true ∧ ¬ driven) ∧ b.stage.st ≠ .fi ∧ (b.outSel = true ↔ driven))) ∧
     (c.mode = 0 ∨ c.mode = 1 ∨ 4 < c.mode.toNat → exec (.tripQualified g l low) s = .next s) ∧
     (c.blankTo ≤ s.rootNow → c.tripped = false → exec (.tripQualified g l low) s = .next s)) ∧
  (∀ (s : State) (g : GroupIx) (l : LaneIx) (low tripped : Bool) (bins : BitVec 7) (v : Word) (k : Fin 4),
     let fe := (s.chan g l).fe
     let c := fe.cmp low
     let want := recRelay fe.puRec
     let m : LaneMask := v.setWidth 16
     let gang (i : Fin 4) : LaneMask := (s.reg (adr (pGRP g) (0x18 + i.val))).setWidth 16
     let admissible := s.modes.mode = .configure ∧ countLanes m ≠ 1 ∧ ∀ i, i ≠ k → gang i &&& m = 0
     (c.acting ≠ 0 → c.tripped ≠ tripped → Completes (.comparatorChange g l low tripped bins) s fun t =>
       (t.chan g l).fe = fe.modCmp low (fun c => { c with
         tripped := tripped, blanking := tripped, qualified := true,
         blankTo := s.rootAt bins + c.blank }) ∧
       (∀ h n, h ≠ g ∨ n ≠ l → t.chan h n = s.chan h n)) ∧
     (s.modes.mode = .configure → fe.restore = true → s.limitHeld g l = false → fe.relay.st.moving = false →
       (s.grp g).failed = false → (s.grp g).clears = [] → Completes (.limitRestore g l) s fun t =>
       ((fe.relay.st = .closed ↔ want = true) ∨ (want = true ∧ s.nextBeam g l = none) → OnlyLanes g (1#16 <<< l.val) s t ∧
         (t.chan g l).fe.restore = false ∧ (s.drives = false → (t.chan g l).fe = { fe with restore := false }) ∧
         (s.drives = true → (t.chan g l).fe = { (fe.applyRecord s.rootNow true (s.ganged g l)
           (s.chan g (s.leader g l)).fe.puRec) with restore := false })) ∧
       (fe.relay.st = .closed → want = false → (t.chan g l).fe.relay = { fe.relay with st := .opening } ∧
         (t.chan g l).fe.restore = true)) ∧
     Completes (.cmpClrWrite g v) s (fun t => ClearIssued g (v.extractLsb' 0 16) (v.extractLsb' 16 16) s t ∧
       (s.rootNow + 64 < 2 ^ 64 → ClearsAct g t (t.flow 4))) ∧
     (admissible → Completes (.gangWrite g k v) s fun t =>
       SetsReg (adr (pGRP g) (0x18 + k.val)) (m.setWidth 32) { s with groups := t.groups } t ∧ ∀ h n, t.chan h n =
         let st := (s.chan h n).fe.stage
         if h = g ∧ lane m n = true then { s.chan h n with fe := { (s.chan h n).fe with
           stage := if st.st ≠ .hiz ∧ st.range ≠ 4 then { st with range := 4, was := st.range, moved := some s.rootNow }
                    else { st with range := 4 } } }
         else s.chan h n) ∧
     (¬ admissible → Completes (.gangWrite g k v) s fun t =>
       t.reg (adr (pGRP g) (0x18 + k.val)) = s.reg (adr (pGRP g) (0x18 + k.val)) ∧ (t.hdr (pGRP g)).err = true))

/-! ## Conversions (05 R135, 04) -/

/-- START, URGENT and READ clear FRESH and put their request or their operation on its way; INT_CAPTURE acts on every lane
named. START waits DLY cycles. READ, DISARM_PW and ARM_PW reach the tile 20 ns after their word and act there: READ sends the
block, its count and its overrange mark back as the slice then holds them, DISARM_PW empties the arm, ARM_PW copies PW_EVT and
PW_WIDTH. ARM_PW and INT_CAPTURE_CLEAR are issued in a committed routine and stop the group with ORDER before the commit; STOP
frees the slice of a CONTINUOUS conversion with no start waiting. The model's choice: the set is copied at issue (log entry
43). -/
def Obligations.ConverterOperations : Prop :=
  (∀ (s : State) (g : GroupIx) (m : LaneMask) (set : Bool) (dly : BitVec 12), Runs s g → (∀ k : Fin 1024, s.cpmBad g k = false) →
     let e := (s.grp g).eng
     let each (t : State) (p : LaneIx → Measure → Measure → Prop) : Prop := OnlyLanes g m s t ∧
       ∀ l, lane m l = true → p l (s.chan g l).ms (t.chan g l).ms ∧ (t.chan g l).fe = (s.chan g l).fe
     let copy (l : LaneIx) (kind : StartKind) (due : Nat) : Job :=
       let w := s.cpmL g l (if set then 0x11 else 0x10)
       let mode : BitVec 2 := if w.extractLsb' 9 2 = 1 then 1 else if w.extractLsb' 9 2 = 2 ∧ kind = .scheduled then 2 else 0
       { kind := kind, src := w.extractLsb' 0 3, mode := mode, k := if mode = 0 then 0 else min (fld w 4 5) 16,
         prog := e.entry, cls := e.cls, pass := e.pass, due := due }
     let stops (t : State) : Prop := StoppedWith g kORDER e.pc t ∧ Queues (srcGRP g) kORDER e.pc.toNat s t
     Completes (.adcStart g m set dly) s (fun t => each t fun l a b => b.fresh = false ∧
       copy l .scheduled (s.rootNow + 16 * dly.toNat) ∈ b.waitS ∧
       b.waitS.length = a.waitS.length + 1 ∧ ∀ k ∈ a.waitS, k ∈ b.waitS) ∧
     Completes (.adcUrgent g m set) s (fun t => each t fun l a b => b.fresh = false ∧ b.waitU = a.waitU ++ [copy l .urgent 0]) ∧
     Completes (.adcRead g m) s (OpSent g m (fun _ => .adcRead) true s) ∧
     Completes (.adcDisarmPw g m) s (OpSent g m (fun _ => .disarmPw) false s) ∧
     Completes (.intCapture g m) s (fun t => each t fun _ a b =>
       b.capPend ≠ .none ∧ (a.capPend = .captureClear → b.capPend = .captureClear) ∧ b.integ = a.integ) ∧
     (e.committed = true → Completes (.adcArmPw g m set) s (OpSent g m (fun l => .armPw (copy l .pulse 0)) false s)) ∧
     (e.committed = true → Completes (.intCaptureClear g m) s fun t => OnlyLanes g m s t ∧ ∀ i, lane m i = true →
       (t.chan g i).ms = { (s.chan g i).ms with capPend := .captureClear }) ∧
     (e.committed = false → Completes (.adcArmPw g m set) s stops ∧ Completes (.intCaptureClear g m) s stops)) ∧
  (∀ (s : State) (g : GroupIx) (l : LaneIx), Runs s g →
     ∀ j, ((s.grp g).slice l).job = some j → j.mode = 2 → j.kind = .scheduled → ((s.grp g).slice l).next = none →
       Completes (.adcStop g (1#16 <<< l.val)) s fun t => OnlyGroup g s t ∧ ((t.grp g).slice l).job = none ∧
         (t.grp g).chans = (s.grp g).chans) ∧
  (∀ (s : State) (g : GroupIx) (l : LaneIx) (n : Nat) (j : Job),
     let a := s.chan g l
     let b := (s.flow n).chan g l
     let acts (op : TileOp) (ms : Measure) : Prop := OnItsWay s g l op n → b = { a with ms := ms } ∧ ((s.flow n).grp g).sends = []
     acts .adcRead { a.ms with arrivals := a.ms.arrivals ++
       [{ l0 := a.ms.block, l1 := some (a.ms.blockCnt.zeroExtend 32), ovr := a.ms.blockOvr, started := false }] } ∧
     acts .disarmPw { a.ms with pw := none } ∧
     ((∀ k : Fin 1024, (s.flow n).cpmBad g k = false) → acts (.armPw j) { a.ms with
       pw := some { evt := s.cpmNow g (64 * l.val + 0x12), width := s.cpmNow g (64 * l.val + 0x13), job := j } }))

/-- A start that reaches a free slice begins there; a scheduled one that finds a scheduled conversion waits behind it, one behind
that or on a CONTINUOUS conversion is discarded with ADC_OVERRUN, and one takes the slice of an urgent or pulse-width conversion,
which counts as dropped; an urgent or pulse-width request that finds the slice busy, or a scheduled start waiting for it, is
dropped and counted. The start-up ends; a pulse within the armed width and polarity fires its arm once. A SINGLE or INTERVAL
conversion adds its corrected samples until it has 2^k, whose mean is the result word on its way to the lane, and its slice is
free; a CONTINUOUS one takes a sample at each edge of the group conversion clock and makes of every 2^k the latest block, with its
count. A sample of IMON or DIFF adds to Q and S; its product with the partner's sample of the same edge, whichever comes first,
adds to E, and a sample without one counts as missed. At an edge the edge count steps, a capture takes the integrators as they
stand, and a clear empties them; with no conversion running, nothing else in the lane changes them. The model's choice: a
lane in a force-path hold repeats its last result (log entry 53). -/
def Obligations.ConversionsAtTheSlice : Prop :=
  (∀ (s : State) (g : GroupIx) (l : LaneIx) (j : Job) (rest : List Job),
     let a := (s.chan g l).ms
     let sl := (s.grp g).slice l
     let free := sl.job = none ∧ sl.next = none ∧ sl.warming = false ∧ lane (s.grp g).hold l = false
     let holds (t : State) : Prop := ∃ k, ((t.grp g).slice l).job = some k ∧ k.kind = j.kind ∧ k.src = j.src ∧ k.k = j.k ∧
       k.pass = j.pass
     let began (t : State) : Prop := holds t ∧ ((t.grp g).slice l).powered = true ∧
       ((t.grp g).slice l).warming = !sl.powered
     let counted (t : State) : Prop := t.reg (adr (pGRP g) 0x20) = s.reg (adr (pGRP g) 0x20) + 1
     let dropped (t : State) : Prop := ((t.grp g).slice l).job = sl.job ∧ counted t
     (a.waitS = j :: rest → free → Completes (.scheduledStartEffect g l) s fun t => began t ∧ (t.chan g l).ms.waitS = rest) ∧
     (∀ x, a.waitS = j :: rest → sl.job = some x → x.kind = .scheduled → x.mode ≠ 2 → sl.next = none →
       Completes (.scheduledStartEffect g l) s fun t => ((t.grp g).slice l).job = some x ∧
         ((t.grp g).slice l).next = some j ∧ (t.chan g l).ms.waitS = rest) ∧
     (∀ x, a.waitS = j :: rest → sl.job = some x → x.kind = .scheduled → x.mode = 2 ∨ sl.next.isSome = true →
       Completes (.scheduledStartEffect g l) s fun t => (t.grp g).slice l = sl ∧ (t.chan g l).ms.waitS = rest ∧
         Queues (srcGRP g) kADC_OVERRUN 0 s t) ∧
     (∀ x, a.waitS = j :: rest → sl.job = some x → x.kind ≠ .scheduled →
       Completes (.scheduledStartEffect g l) s fun t => holds t ∧ counted t ∧ (t.chan g l).ms.waitS = rest) ∧
     (a.waitU = j :: rest → free → a.waitS = [] →
       Completes (.urgentStartEffect g l) s fun t => began t ∧ (t.chan g l).ms.waitU = rest) ∧
     (a.waitU = j :: rest → sl.job.isSome = true ∨ a.waitS ≠ [] →
       Completes (.urgentStartEffect g l) s fun t => dropped t ∧ (t.chan g l).ms.waitU = rest) ∧
     (a.waitP = j :: rest → free → a.waitS = [] →
       Completes (.pwStartEffect g l) s fun t => began t ∧ (t.chan g l).ms.waitP = rest) ∧
     (a.waitP = j :: rest → sl.job.isSome = true ∨ a.waitS ≠ [] →
       Completes (.pwStartEffect g l) s fun t => dropped t ∧ (t.chan g l).ms.waitP = rest) ∧
     (sl.warming = true → Completes (.slicePowerUp g l) s fun t => ((t.grp g).slice l).warming = false ∧ OnlyGroup g s t) ∧
     (∀ (w : PwArm) (low released : Bool) (width : Nat), a.pw = some w → 0 < ((s.chan g l).fe.cmp low).mode.toNat →
       ((s.chan g l).fe.cmp low).mode.toNat ≤ 4 →
       w.evt.getLsbD 12 = low → w.evt.getLsbD 13 = released → (w.width.extractLsb' 0 16).toNat ≤ width →
       ((w.width.extractLsb' 16 16).toNat = 0 ∨ width ≤ (w.width.extractLsb' 16 16).toNat) →
       exec (.pwPulseQualified g l low released width) s =
         .next (s.modMs g l fun x => { x with pw := none, waitP := x.waitP ++ [w.job] }))) ∧
  (∀ (s : State) (g : GroupIx) (l : LaneIx) (raw spare : BitVec 20) (j : Job) (k : Sampling),
     let sl := (s.grp g).slice l
     let a := (s.chan g l).ms
     let y := k.correct raw
     let ovr : Bool := j.ovr || raw == 0 || raw == 1048575
     let word : Word := BitVec.ofNat 4 (j.k / 2) ++ BitVec.ofNat 28 (roundUp ((j.sum + y) * 2 ^ (j.k / 2)) (16 * 2 ^ j.k)).toNat
     let sends (w : Word) (o : Bool) (t : State) : Prop := ((t.grp g).slice l).job = none ∧
       (t.chan g l).ms.arrivals = a.arrivals ++ [{ l0 := w, l1 := none, ovr := o, pass := j.pass }]
     let goesOn (n : Nat) (sum : Int) (o : Bool) (t : State) : Prop := (t.chan g l).ms.arrivals = a.arrivals ∧
       ((t.grp g).slice l).job.map (fun x => { x with take := none }) = some { j with sum := sum, n := n, ovr := o, take := none }
     sl.job = some j → sl.warming = false →
     (j.mode ≠ 2 → sl.next = none → lane (s.grp g).hold l = false → j.take = some k →
       (j.n + 1 < 2 ^ j.k → Completes (.conversionComplete g l (raw, spare)) s (goesOn (j.n + 1) (j.sum + y) ovr)) ∧
       (2 ^ j.k ≤ j.n + 1 → Completes (.conversionComplete g l (raw, spare)) s fun t => sends word ovr t ∧
         (t.chan g l).ms.lastRes = some (word, ovr))) ∧
     (j.mode = 2 → j.kind = .scheduled → j.take = some k →
       (j.n + 1 < 2 ^ j.k → Completes (.conversionComplete g l (raw, spare)) s fun t => goesOn (j.n + 1) (j.sum + y) ovr t ∧
         (t.chan g l).ms.block = a.block ∧ (t.chan g l).ms.blockCnt = a.blockCnt) ∧
       (2 ^ j.k ≤ j.n + 1 → Completes (.conversionComplete g l (raw, spare)) s fun t => goesOn 0 0 false t ∧
         (t.chan g l).ms.block = word ∧ (t.chan g l).ms.blockCnt = a.blockCnt + 1 ∧ (t.chan g l).ms.blockOvr = ovr)) ∧
     (∀ r, lane (s.grp g).hold l = true → j.mode = 0 → j.k = 0 → sl.next = none → j.take = none → a.lastRes = some r →
       Completes (.conversionComplete g l (raw, spare)) s fun t => sends r.1 r.2 t ∧ (t.chan g l).ms.integ = a.integ)) ∧
  (∀ (s : State) (g : GroupIx) (l n : LaneIx) (raw spare : BitVec 20) (j : Job) (k : Sampling) (b : Nat) (v : Int),
     let sl := (s.grp g).slice l
     let a := (s.chan g l).ms.integ
     let y := roundUp (k.correct raw) 16
     let x := y - 524288
     let w := s.cpmL g l 0x14
     let p := laneOf (fld w 4 4)
     let after (m : LaneIx) (q : Integ → Prop) : Prop :=
       Completes (.conversionComplete g l (raw, spare)) s fun t => q (t.chan g m).ms.integ
     let energy (i : Integ) (product : Int) (o : Integ) : Prop :=
       let sum := i.e.toInt * 65536 + i.rem.toNat + product
       o = { i with e := BitVec.ofInt 64 (sum / 65536), rem := BitVec.ofInt 16 (sum % 65536) }
     let counted : Integ := { a with q := a.q + BitVec.ofInt 64 x, s := a.s + 1 }
     sl.job = some j → sl.warming = false → j.take = some k → s.cpmBad g (64 * l.val + 0x14) = false →
     (k.src = 1 ∨ k.src = 2 →
       (w.getLsbD 0 = false → after l fun o => o = counted) ∧
       (w.getLsbD 0 = true → k.edge = none → after l fun o => o = { counted with miss := a.miss + 1 }) ∧
       (w.getLsbD 0 = true → k.edge = some b → (s.chan g p).ms.vAt = some (b, v) → after l (energy counted (x * v)))) ∧
     (k.src = 3 ∨ k.src = 4 → after l fun o => o = a) ∧
     (k.src = 0 → k.edge = some b → (s.chan g n).ms.ePend = some (b, v, l) →
       after n (energy (s.chan g n).ms.integ (v * (y - 262144))))) ∧
  (∀ (s : State) (g : GroupIx) (l : LaneIx),
     s.modes.mode ≠ .reset → s.modes.mode ≠ .boot → s.clk.gated = false →
     let a := (s.chan g l).ms
     let sl := (s.grp g).slice l
     let taken : Integ := if a.ePend.isSome then { a.integ with miss := a.integ.miss + 1 } else a.integ
     let cleared : Prop := a.capPend = .captureClear ∨ ∃ r, a.clrPend = some r ∧ r ≤ s.rootNow
     ((∀ i : Fin 17, (s.grp g).slices[i].job = none) → Completes (.groupConversionClockEdge g) s fun t =>
       let b := (t.chan g l).ms
       (t.grp g).edges = (s.grp g).edges + 1 ∧ b.capPend = .none ∧
       (a.capPend ≠ .none → b.capImg = ⟨taken.q, taken.e, taken.s, taken.miss, taken.stale⟩) ∧
       (cleared → b.integ = { taken with q := 0, e := 0, s := 0, miss := 0, stale := 0 }) ∧
       (¬ cleared → b.integ = taken) ∧
       b.edgeImg = ⟨b.integ.q, b.integ.e, b.integ.s, b.integ.miss, b.integ.stale⟩ ∧ b.prevImg = a.edgeImg ∧ ∀ h, h ≠ g →
         t.grp h = s.grp h) ∧
     (∀ j, sl.job = some j → j.mode = 2 → j.kind = .scheduled → j.take = none → sl.powered = true → sl.warming = false →
       lane (s.grp g).hold l = false → Completes (.groupConversionClockEdge g) s fun t =>
         ∃ x, ((t.grp g).slice l).job = some x ∧ x = { j with take := x.take } ∧
           ∃ k, x.take = some k ∧ k.edge = some ((s.grp g).edges + 1) ∧
             k.src = if 5 ≤ j.src.toNat ∨ (j.src = 2 ∧ l = 15) then 0 else j.src.toNat))

/-! ## Tourbillon and force-path holds (04 R105 to R112, 12 R300 to R304) -/

/-- The rotation: EN going to 1 starts or restarts it at SHADOW in every group, a HALTED one too, and EN = 0 stops it; a
paired conversion of the vendor routine on an idle lane adds a pair, for its slots of the CAL share; SHADOW with its pairs
goes to MATCH; an accepted match hands the lane to the spare once SEQ cycle 16 of the lock window has passed; RECAL stages
coefficients, or halts out of range; the waveform DAC's readings stage its CAL word. The model's choices: EN = 0 leaves a
HALTED rotation HALTED (log entry 19), the source of a paired conversion on an idle lane (log entry 80), and the limits of
RECAL on the measured span (log entry 83). -/
def Obligations.TourbillonRotation : Prop :=
  ∀ (s : State) (g : GroupIx) (v : Word) (live spare : BitVec 20) (src : BitVec 3) (sumG sumS lo hi : Nat),
    let tb := (s.grp g).tb
    let sl := (s.grp g).slice tb.lane
    let span : Int := (sumS : Int) - sumG - 524288 * 16384
    let base : Int := (sumG : Int) - 262144 * 16384
    let inRange := span.natAbs * 100 ≤ 524288 * 16384 ∧ base.natAbs ≤ 10486 * 16384
    let slots := if sl.powered then 1 else 2
    let n := 17 - s.esc.pos.toNat
    Completes (.tbEnable v) s (fun t => t.reg (adr pCAL 0x08) = v &&& 0x1F01 ∧
      (v.getLsbD 0 = true → (s.reg (adr pCAL 0x08)).getLsbD 0 = false → tb.st = .off ∨ tb.st = .halted →
        (t.grp g).tb.st = .shadow ∧ (t.grp g).tb.pairs = {}) ∧
      (tb.st = .halted → v.getLsbD 0 = false → (t.grp g).tb = tb) ∧
      (v.getLsbD 0 = false → tb.st ≠ .halted → (t.grp g).tb.st = .off) ∧ t = { s with groups := t.groups, rf := t.rf }) ∧
    (tb.st = .shadow → s.tbPairs ≤ tb.pairs.n → exec (.tbShadowDone g 0 [] [] [] src) s = .next (s.modG g fun gr =>
      { gr with tb := { gr.tb with st := .match } })) ∧
    (tb.st = .shadow → tb.pairs.n < s.tbPairs → lane (s.grp g).hold tb.lane = false → sl.job = none → sl.next = none →
      (s.chan g tb.lane).ms.startWaits = false → s.calFits g slots = true → tb.pairs.key.isSome = true →
      tb.pairs.key = some (srcActing src tb.lane, (s.chan g tb.lane).fe.stage.range) →
      Completes (.tbShadowDone g 1 [live] [spare] [] src) s fun t => (t.grp g).tb.pairs.n = tb.pairs.n + 1 ∧
        ((t.grp g).tb.st = .match ↔ s.tbPairs ≤ tb.pairs.n + 1) ∧ t.used (some g) 1 3 = s.used (some g) 1 3 + slots) ∧
    (tb.st = .handover → s.esc.pos.toNat < 64 → Undisturbed s n → s.esc.pos.toNat + n < s.frameCycles →
      Completes (.tbHandover g) s fun t => OnlyGroup g (s.flow n) t ∧ 17 ≤ t.esc.pos.toNat ∧
      (t.grp g).tb.st = .recal ∧ (t.grp g).tb.serve[tb.lane] = tb.spare ∧ (t.grp g).tb.freed = tb.serve[tb.lane] ∧
      (t.grp g).chans = ((s.flow n).grp g).chans) ∧
    (tb.st = .recal → tb.newCoef = none → inRange → Completes (.tbRecalDone g sumG sumS) s fun t => OnlyGroup g s t ∧
      (t.grp g).tb.st = .recal ∧ (t.grp g).tb.newCoef = some (Config.recalGain sumG sumS, Config.recalOffset sumG sumS)) ∧
    (tb.st = .recal → tb.newCoef = none → ¬ inRange → Completes (.tbRecalDone g sumG sumS) s fun t =>
      (t.grp g).tb.st = .halted ∧ (t.hdr pCAL).evt.getLsbD 1 = true) ∧
    (tb.st = .recal → tb.wdac = true → ((hi : Int) - lo - 786432 * 256).natAbs * 100 ≤ 786432 * 256 →
      Completes (.wdacCalDone g lo hi) s fun t => OnlyGroup g s t ∧ (t.grp g).tb.wdac = false ∧
        (t.grp g).tb.newCal = some (Config.wdacCal lo hi))

/-- A requested hold begins in the lock window of RUN where the quads leave the lane free, and keeps the output the stage, the
driver and the waveform source give; a point with slots enough, one for each µs since its frame's SEQ cycle 64 or tick,
records its reading and takes its slots from CAL; an ending due in the lock window frees the lane with its result, and a hold
that has lasted FP_MAXF frames with no ending due times out. An urgent STOP, and a stop of the group, end a hold with ABORT
and discard its results, the coefficients staged for the lane too. -/
def Obligations.ForcePathHolds : Prop :=
  ∀ (s : State) (g : GroupIx) (l : LaneIx) (r : BitVec 2) (reading : BitVec 20) (slots : Nat),
    let gr := s.grp g
    let held := lanesOf gr.hold = [l]
    let window := s.esc.pos.toNat < 64
    let need := fpPointSlots gr.holdPts.length - gr.holdSlots
    let passed := s.esc.pos.toNat - (if gr.holdFrames = 0 then 64 else 0)
    let fe := (s.chan g l).fe
    let freed (t : State) (result : Nat) : Prop := lane (t.grp g).hold l = false ∧ (t.grp g).holdEnd = none ∧
      t.reg (adr pCAL 0x15) = BitVec.ofNat 32 (16 * g.val + l.val + result * 4096)
    let aborted (t : State) : Prop := freed t 3 ∧ HasEvent pCAL 3 t ∧ (t.grp g).holdPts = [] ∧ (t.grp g).holdRes = none ∧
      (gr.holdEnd = some 0 → (t.reg (adr (pGRP g) 0x2B)).getLsbD l.val = false)
    (gr.holdReq = some l → window → s.modes.mode = .run → gr.hold = 0 → s.fpQuadFree g l = true →
      Completes (.holdBegin g) s fun t => OnlyGroup g s t ∧ (t.grp g).hold = 1#16 <<< l.val ∧ (t.grp g).holdReq = none ∧
      (t.grp g).holdOut = {
        stage := fe.stage, code := s.stageCode g l, driver := if fe.outSel then some fe.driver else none, wav := gr.wav.out } ∧
      (t.grp g).chans = gr.chans) ∧
    (gr.holdReq = some l → window → s.modes.mode = .run → gr.hold = 0 → s.fpQuadFree g l = false →
      exec (.holdBegin g) s = .next (s.modG g fun gr => { gr with holdReq := none })) ∧
    (gr.hold ≠ 0 → gr.holdPts.length < 16 → need ≤ slots → need ≤ passed / 200 - gr.holdUsed → need ≤ s.calBudget g →
      Completes (.fpPointDone g reading slots) s fun t => (t.grp g).holdPts = gr.holdPts ++ [reading] ∧
        (t.grp g).holdUsed = gr.holdUsed + need ∧ t.used (some g) 1 3 = s.used (some g) 1 3 + need) ∧
    (held → gr.holdEnd = some r → window → Completes (.holdEnd g) s fun t => freed t r.toNat) ∧
    (held → (s.modes.mode = .run ∨ s.modes.mode = .configure) → s.modes.entryAt ≠ some s.rootNow → s.rootRuns = true →
      (∀ h, h ≠ g → (s.grp h).hold = 0) → QuadsQuiet s g → Completes .urgentStop s aborted) ∧
    (held → Runs s g → gr.eng.postLoss = true → QuadsQuiet s g → Completes (.endSeq g) s aborted) ∧
    (held → window → gr.holdEnd = none → max ((s.reg (adr pCAL 0x12)).extractLsb' 0 16).toNat 1 ≤ gr.holdFrames →
      Completes (.fpTimeout g) s fun t => freed t 2)

/-! ## Time stamping, records and events (05 R137, R138, 09) -/

/-- OPEN, CLOSE, READ and CLEAR go to the tile and act there 20 ns after their word, READ clearing FRESH as it is issued: OPEN
copies TDC_CFG and the window's length as the CPM then holds them and starts its counts; CLOSE ends a window, which takes stops
to the end of that root cycle, and leaves one that has opened in that root cycle; READ takes the oldest stamp (or the empty one)
to the result latch; CLEAR empties the buffer but for stamps accepted from that root cycle on. The timed close passes the cycles
to the end of LEN and ends the window in that root cycle. -/
def Obligations.TdcOperations : Prop :=
  (∀ (s : State) (g : GroupIx) (m : LaneMask), Runs s g →
     Completes (.tdcOpen g m) s (OpSent g m (fun _ => .tdcOpen (s.grp g).eng.pass) false s) ∧
     Completes (.tdcClose g m) s (OpSent g m (fun _ => .tdcClose) false s) ∧
     Completes (.tdcRead g m) s (OpSent g m (fun _ => .tdcRead) true s) ∧
     Completes (.tdcClear g m) s (OpSent g m (fun _ => .tdcClear) false s)) ∧
  (∀ (s : State) (g : GroupIx) (l : LaneIx) (n pass : Nat),
     let a := s.chan g l
     let b := (s.flow n).chan g l
     let now := s.rootNow + 16 * n
     let acts (op : TileOp) (p : Prop) : Prop := OnItsWay s g l op n → p ∧ ((s.flow n).grp g).sends = [] ∧ b.fe = a.fe
     ((∀ k : Fin 1024, (s.flow n).cpmBad g k = false) → acts (.tdcOpen pass) (b.ms = a.ms ∧ b.td = { a.td with
       opened := true, pass := pass, cfg := s.cpmNow g (64 * l.val + 0x30),
       len := (s.cpmNow g (64 * l.val + 0x31)).extractLsb' 0 24, presc := 0, count := 0, acc := 0, openAt := now, shutAt := none })) ∧
     acts .tdcClose (b.ms = a.ms ∧ b.td.fifo = a.td.fifo ∧ (a.td.openAt = now → b.td = a.td) ∧ (a.td.openAt ≠ now →
       b.td.opened = false ∧ (a.td.opened = true → a.td.len = 0 → b.td.shutAt = some now))) ∧
     acts .tdcRead (b.td = { a.td with fifo := a.td.fifo.tail } ∧ ∃ x, b.ms.arrivals = a.ms.arrivals ++ [x] ∧
       b.ms = { a.ms with arrivals := b.ms.arrivals } ∧ x.l1.isSome = true ∧
         let st : BitVec 64 := x.l1.getD 0 ++ x.l0
         (∀ y r, a.td.fifo = y :: r → st = y.word) ∧
         (a.td.fifo = [] → st.getLsbD 46 = true ∧ (st.extractLsb' 60 4).toNat = l.val)) ∧
     acts .tdcClear (b.ms = a.ms ∧ b.td = { a.td with
       fifo := a.td.fifo.filter (fun y => decide (8 * now ≤ y.at_)), lost := false })) ∧
  (∀ (s : State) (g : GroupIx) (l : LaneIx),
     let x := (s.chan g l).td
     let n := s.cyclesTo (x.openAt + 16 * x.len.toNat)
     (x.len ≠ 0 → x.opened = true → (s.grp g).sends = [] → Undisturbed s n → s.esc.pos.toNat + n < s.frameCycles →
       s.rootNow + 16 * n < 2 ^ 64 → exec (.tdcTimedClose g l) s = .next ((s.flow n).modTd g l fun y =>
         { y with opened := false, shutAt := some (x.openAt + 16 * x.len.toNat) })) ∧
     (x.len = 0 → exec (.tdcTimedClose g l) s = .next s))

/-- REC_FMT f from 1 to 15 writes one record for each lane of CHMASK, ascending, and EVT e from 1 to 15 one event with the value
of A; code 0 writes nothing. Before the commit they are staged behind what is staged; where the records would not fit 1 KiB, or
the event would be the seventeenth, the group stops with STAGE_FULL. After the commit the record of a lane goes to the ring of
its tag and the event to the group's queue, where these take it. A record has the frame number, its channel, tag and format in
its header, is 16 words long where its format says so and else 8, and where its format is GENERIC its payload holds the items. -/
def Obligations.RecordsAndEventsAreStaged : Prop :=
  ∀ (s : State) (g : GroupIx) (fmt ev : BitVec 4) (tag : Byte) (a b : RegIx) (imm : BitVec 24) (m : LaneMask) (l : LaneIx),
    Runs s g →
    let old := (s.grp g).staging
    let f := fmt.toNat
    let plain := s.fmtKind f = 0
    let n : Nat := if plain ∧ s.fmtSize64 f = false then 8 else 16
    let lanes := lanesOf m
    let fits := stagedBytes old + 4 * n * lanes.length ≤ 1024
    let full (t : State) : Prop := Stopped t g ∧
      t.reg (adr (pGRP g) 0x33) = BitVec.ofNat 32 (kSTAGE_FULL * 65536 + (s.grp g).eng.pc.toNat)
    let record (i : LaneIx) (e : Entry) : Prop :=
      let h := e.words.getD 1 0
      e.chan = BitVec.ofNat 10 (16 * g.val + i.val) ∧ e.tag = tag ∧ e.words.length = n ∧
      e.words.getD 0 0 = s.esc.frame.extractLsb' 0 32 ∧ h.extractLsb' 0 10 = e.chan ∧ h.extractLsb' 10 8 = tag ∧
      h.extractLsb' 18 4 = fmt ∧ (h.getLsbD 30 = true ↔ n = 16) ∧ h.getLsbD 31 = false ∧
      (plain → ∀ k, k < n - 2 → e.words.getD (k + 2) 0 =
        s.item (s.geItems g i (s.xRead g a) (s.xRead g b) (imm.zeroExtend 32)) (s.itemCode f k))
    let keeps (t : State) : Prop := (t.grp g).staging.take old.length = old
    ((s.grp g).eng.committed = false →
      (fmt ≠ 0 → fits → Completes (.recWrite g m fmt tag a b imm) s fun t => keeps t ∧
        (t.grp g).staging.length = old.length + lanes.length ∧
        ∀ k, k < lanes.length → StagedRecord t g (old.length + k) (record (lanes.getD k 0))) ∧
      (fmt ≠ 0 → m ≠ 0 → ¬ fits → Completes (.recWrite g m fmt tag a b imm) s full) ∧
      (ev ≠ 0 → stagedEvents old < 16 → exec (.evtWrite g ev a) s = .next (s.modG g fun gr => { gr with
        staging := old ++ [.event ev (s.xRead g a) s.esc.pos s.esc.frame] })) ∧
      (ev ≠ 0 → 16 ≤ stagedEvents old → Completes (.evtWrite g ev a) s full)) ∧
    ((s.grp g).eng.committed = true →
      (fmt ≠ 0 → TakesSlots s ((16 * g.val + l.val) * 256 + tag.toNat) (n / 8) →
        Completes (.recWrite g (1#16 <<< l.val) fmt tag a b imm) s fun t => (t.grp g).staging = old ∧
          Entered s ((16 * g.val + l.val) * 256 + tag.toNat) (n / 8) t) ∧
      (ev ≠ 0 → TakesEvent s (selGroup g) → Completes (.evtWrite g ev a) s fun t => (t.grp g).staging = old ∧
        EventWritten (selGroup g) 0 (ev.zeroExtend 8) (s.xRead g a) s t)) ∧
    exec (.recWrite g m 0 tag a b imm) s = .next s ∧ exec (.evtWrite g 0 a) s = .next s

/-! ## Pattern streams (05 R137, 07) -/

/-- START: the owner's starts the stream on its segment, unless the stream is busy; a follower's waits for the burst.
STOP ends the owner's burst at the next vector, or takes the follower out; FAIL_READ and FAIL_CLR read and clear the
fails; PAT_DONE follows a group that has left. -/
def Obligations.PatternOperations : Prop :=
  ∀ (s : State) (g : GroupIx) (i : StreamIx) (seg : BitVec 16) (a : RegIx) (ws : Fin 4 → Word),
    let p := (s.grp g).pat
    let v := (s.grp g).eng.view.pat
    let named := (∀ k : Fin 4, Reads s (0x00600000 + 16 * g.val + 4 * k.val) (ws k)) ∧ (ws 0).getLsbD 4 = true ∧
      ((ws 0).extractLsb' 0 4).toNat = i.val
    let owner := s.ownerOf i = g
    let clear (t : State) : Prop := ∀ h, h ≠ g → t.grp h = s.grp h
    (Runs s g → named → owner → (s.streams[i]).st = .idle → s.modes.mode ≠ .mirror → Completes (.patStart g seg) s fun t =>
      (t.streams[i]).owner = g ∧ (t.streams[i]).startSeg = seg ∧
      ((t.streams[i]).st = .running ∨ (t.streams[i]).st = .halted)) ∧
    (Runs s g → named → owner → (s.streams[i]).st ≠ .idle → Completes (.patStart g seg) s fun t =>
      t.streams = s.streams ∧ (t.hdr (pSTRM i)).evt.getLsbD 5 = true ∧ (t.grp g).pat = p) ∧
    (Runs s g → named → ¬ owner → (s.streams[i]).st = .idle → Completes (.patStart g seg) s fun t =>
      (t.grp g).pat.att = .pending seg ∧ (t.grp g).pat.stream = i ∧ (t.grp g).pat.done = false ∧ OnlyGroup g s t) ∧
    (Runs s g → p.att = .attached → (s.streams[p.stream]).owner = g → Completes (.patStop g) s fun t =>
      (t.streams[p.stream]).stop = true ∧ (t.grp g).pat = p ∧ clear t) ∧
    (Runs s g → p.att = .attached → (s.streams[p.stream]).owner ≠ g → Completes (.patStop g) s fun t =>
      (t.grp g).pat = { p with detach := true } ∧ OnlyGroup g s t) ∧
    (Runs s g → (s.grp g).eng.committed = true → s.ownedStream g = some i → (s.streams[i]).st = .running →
      Completes (.jumpReq g seg) s fun t => (t.streams[i]).jump = some seg ∧ clear t) ∧
    (Runs s g → (s.grp g).eng.committed = true → s.ownedStream g = some i → (s.streams[i]).st ≠ .running →
      Completes (.jumpReq g seg) s fun t => t.streams = s.streams ∧ t.reg (adr (pSTRM i) 0x26) = s.reg (adr (pSTRM i) 0x26) + 1) ∧
    (Runs s g → (s.grp g).eng.committed = false → Completes (.jumpReq g seg) s fun t => Stopped t g) ∧
    (Runs s g → exec (.failRead g a) s = .next (s.aluDone g a (BitVec.ofNat 32 (v.fails.toNat +
      (if v.att = .attached ∧ (s.streams[v.stream]).st = .running then 65536 else 0) +
      (if v.underrun then 131072 else 0))) id)) ∧
    (Runs s g → Completes (.failClr g) s fun t => (t.grp g).pat = { p with fails := 0, underrun := false } ∧ OnlyGroup g s t) ∧
    (p.att = .idle → exec (.patDone g) s = .next (s.modG g fun gr => { gr with pat := { gr.pat with done := true } }))

/-- A vector boundary of a stopped burst ends it and its stream is IDLE; a resident vector is output, counted, and passed. A
segment's END ends the burst; a vector that is not there in time is an under-run. STRM packets: one in sequence with room is
taken, and a REFILL at RCVD within CREDIT advances RCVD; one out of sequence moves nothing but the gap's NAK; with the root
lost none comes. Waiting data goes to the SRAM; FLUSH starts an idle window again in CONFIGURE. -/
def Obligations.StreamBoundariesAndData : Prop :=
  (∀ (s : State) (i : StreamIx) (w0 w1 : Word),
     let x := s.streams[i]
     let p := pSTRM i
     let running := x.st = .running
     let ended (t : State) : Prop := (t.streams[i]).st = .idle ∧ (t.streams[i]).stack = [] ∧
       (t.hdr p).evt.getLsbD 1 = true ∧ ∀ h : GroupIx, (s.grp h).pat.att = .attached → (s.grp h).pat.stream = i →
         (t.grp h).pat.att ≠ .attached
     (running → x.stop = true → Completes (.vectorBoundary i) s ended) ∧
     (¬ running → exec (.vectorBoundary i) s = .next s) ∧
     (running → x.stop = false → x.poison = false → x.ready = true → x.src = 0 → x.vec + 1 < s.passLen i →
       (∀ g ∈ s.attachedGroups i, (s.grp g).pat.detach = false) →
       Reads s (x.vecAdr i) w0 → Reads s (x.vecAdr i + 4) w1 →
       Completes (.vectorBoundary i) s fun t => (t.streams[i]).vec = x.vec + 1 ∧ (t.streams[i]).st = .running ∧
         (t.streams[i]).rdPos = x.rdPos ∧ t.reg (adr p 0x24) = s.reg (adr p 0x24) + 1) ∧
     (running → x.stop = false → x.jump = none → x.pass = 0 → s.passLen i ≤ x.vec → (x.desc.getD 4 0).getLsbD 16 = true →
       (x.desc.getD 5 0).getLsbD 7 = false → Completes (.segmentEnd i) s ended) ∧
     (running → (x.pass ≠ 0 ∨ x.vec < s.passLen i) → (x.ready = false ∨ x.poison = true) → Completes (.underrun i) s fun t =>
       (t.streams[i]).st = .underrun ∧ (t.streams[i]).cause = (if x.poison then 2 else 1) ∧
       t.reg (adr p 0x0B) = s.reg (adr p 0x0B) + 1 ∧ (t.hdr p).evt.getLsbD 0 = true)) ∧
  (∀ (s : State) (i : StreamIx) (seq : BitVec 16) (offset : Word) (data : List Byte) (e : Ingress) (rest : List Ingress) (v : Word)
     (b0 b1 b2 b3 : Byte),
     let x := s.streams[i]
     let taken := s.rootRuns = true ∧ seq = s.kl.strmSeq ∧ s.ingressRoom data.length = true
     let first := s.rootRuns = true ∧ seq = s.kl.strmSeq ∧ s.ingressRoom 0 = true
     (s.rootRuns = false → exec (.refill i seq offset data) s = .next s ∧ exec (.residentLoad i seq offset data) s = .next s) ∧
     (taken → offset = x.rcvd → data.length ≤ (x.credit - x.rcvd).toNat → Completes (.refill i seq offset data) s fun t =>
       (t.streams[i]).rcvd = x.rcvd + BitVec.ofNat 32 data.length ∧ t.kl.strmSeq = s.kl.strmSeq + 1) ∧
     (s.rootRuns = true → seq ≠ s.kl.strmSeq → Completes (.refill i seq offset data) s fun t => (t.streams[i]).rcvd = x.rcvd ∧
       (t.streams[i]).ingress = x.ingress ∧ t.kl.strmSeq = s.kl.strmSeq ∧ t.kl.gap = true ∧ t.sram = s.sram) ∧
     (first → x.st = .idle → Completes (.residentLoad i seq offset data) s fun t =>
       (t.streams[i]).rcvd = x.rcvd ∧ (t.streams[i]).ingress = x.ingress ∧ t.kl.strmSeq = s.kl.strmSeq + 1 ∧
       (∀ b ∈ data.head?, data.length % 4 = 0 → offset.toNat % 8 = 0 → 0x00400000 ≤ offset.toNat →
         offset.toNat + data.length ≤ 0x02000000 → (s.reg (adr pFLT 0x22)).getLsbD 0 = false →
         cellAt t.sram.cells offset.toNat = b)) ∧
     (x.ingress = e :: rest → e.data = [b0, b1, b2, b3] → 1 ≤ s.rmtLeft → (s.reg (adr pFLT 0x22)).getLsbD 0 = false →
       Completes (.ingressWrite i) s fun t => (t.streams[i]).ingress = rest ∧
         t.sram.word (e.target i 0) = b3 ++ b2 ++ b1 ++ b0) ∧
     (x.st = .idle → s.modes.mode = .configure → v.getLsbD 7 = true → Completes (.streamFlush i v) s fun t =>
       (t.streams[i]).rcvd = 0 ∧ (t.streams[i]).rdPos = 0 ∧ t.reg (adr (pSTRM i) 0x08) = v &&& 0x3FFFFF3F) ∧
     (x.st ≠ .idle → Completes (.streamFlush i v) s fun t => (t.hdr (pSTRM i)).err = true ∧ t = { s with rf := t.rf } ∧
       t.rf.live = s.rf.live))

/-! ## Management controller (05 R155, R156) -/

/-- A fetched word of its class runs: arithmetic writes RD with what R156 names, of the operands its form takes (log entry
32); a register operation, and one on an indirect space, reads or writes the register map at IMM16, a read that has to wait
(19 R478) holding the MC at its word, and a read of the port's mailbox empties it; flow goes where it says; a wait goes on
once what it waits for has come since it began, and else stands; M0 reads 0 and the other registers stand. -/
def Obligations.McOperations : Prop :=
  ∀ (s : State) (w : Word), McFetches s w →
    let rd := mcRd w
    let rs := mcRs w
    let x := (s.mcOperands w).1
    let y := (s.mcOperands w).2
    let imm : BitVec 16 := w.extractLsb' 0 16
    let op := (w.extractLsb' 26 6).toNat
    let on : BitVec 16 := s.mc.pc + 1
    let began := s.mc.since.getD (s.esc.frame, s.rootNow)
    let m (s : State) (i : Fin 32) : Word := if i = 0 then 0 else s.mc.m[i]
    let others (t : State) : Prop := ∀ i, i ≠ rd → m t i = m s i
    let waits (come : Prop) (t : State) : Prop := t = { s with mc := t.mc, draws := t.draws } ∧
      (come → t.mc = { s.mc with pc := on, since := none }) ∧ (¬ come → t.mc = { s.mc with since := some began })
    (op ≤ 7 → Completes (.mcArith w) s fun t => t = { s with mc := t.mc } ∧ t.mc.pc = on ∧ others t ∧
      (rd ≠ 0 → (op = 0 → m t rd = x + y) ∧ (op = 1 → m t rd = x - y) ∧ (op = 2 → m t rd = x &&& y) ∧
        (op = 3 → m t rd = x ||| y) ∧ (op = 4 → m t rd = x ^^^ y) ∧
        (op = 5 → m t rd = x <<< y.toNat ∨ m t rd = x <<< (y.toNat % 32)) ∧
        (op = 6 → m t rd = x >>> y.toNat ∨ m t rd = x >>> (y.toNat % 32)) ∧ (op = 7 → (m t rd).extractLsb' 0 16 = imm))) ∧
    (op = 8 ∨ (op = 0x0A ∧ decodeAdr imm.toNat ≠ some (pMSP, 0x13)) →
      (s.readWaits imm.toNat = false → Completes (.mcRegMap w) s fun t => t.mc.pc = on ∧ others t ∧ t.rf.read = s.rf.read ∧
        (rd ≠ 0 → m t rd = (s.hostRead imm.toNat).rf.read)) ∧
      (s.readWaits imm.toNat = true → exec (.mcRegMap w) s = .next s)) ∧
    (op = 0x0A → decodeAdr imm.toNat = some (pMSP, 0x13) → Completes (.mcRegMap w) s fun t => t.mc.pc = on ∧ others t ∧
      t = { s with mc := t.mc, draws := t.draws, msp := { s.msp with mbox := none } }) ∧
    (op = 9 ∨ op = 0x0B → Completes (.mcRegMap w) s fun t => t = { s.hostWrite imm.toNat (m s rs) with mc := { s.mc with pc := on } }) ∧
    (op = 0x0C → exec (.mcFlow w) s = .next { s with mc := { s.mc with pc := imm } }) ∧
    (op = 0x0D → exec (.mcFlow w) s = .next { s with mc := { s.mc with pc := if m s rs = 0 then imm else on } }) ∧
    (op = 0x0E → exec (.mcFlow w) s = .next { s with mc := { s.mc with pc := imm, stack := on :: s.mc.stack } }) ∧
    (∀ k r, op = 0x0F → s.mc.stack = k :: r → exec (.mcFlow w) s = .next { s with mc := { s.mc with pc := k, stack := r } }) ∧
    (op = 0x10 → Completes (.mcWait w) s (waits (s.esc.frame ≠ began.1))) ∧
    (op = 0x12 → s.rootRuns = true → Completes (.mcWait w) s (waits (began.2 + s.mcDelay w ≤ s.rootNow))) ∧
    (op = 0x11 ∨ op = 0x13 → Completes (.mcWait w) s fun t => waits True t ∨ waits False t)

/-- A fetched word of its class runs and the MC goes to the next one. OP 0x14 sends a Kwenlink packet of a unit that has an
address; 0x15 makes a reply where the port holds none; 0x16 writes to a unit event queue the code and parameter of the command
that the MC executes; 0x17 puts a fault message of a kind that its source sends at the end of that source's queue, and sends no
other. 0x18 and 0x19 write at most one word of one group's store, 0x1A moves one group's place in the vendor order back, 0x1B
stops a group. 0x1C makes one of the mode changes that are due at a tick, 0x1D and 0x1E give START and STOP to the escapement,
0x1F takes a unit in service to SAFE. A reserved code stops the MC and sends MC_PARITY. The model's choice (log entry 32): what a
message holds, and which group, word, queue or change is meant, are the free words `f` that the MC draws. -/
def Obligations.McMessagesAndModes : Prop :=
  ∀ (s : State) (w : Word), McFetches s w →
    let op := (w.extractLsb' 26 6).toNat
    let serves := s.modes.mode = .configure ∨ s.modes.mode = .run ∨ s.modes.mode = .mirror
    let mc : Mc := { s.mc with pc := s.mc.pc + 1 }
    let on : State := { s with mc := mc }
    let own := s.kl.addr
    let u : State := { on with draws := s.draws + 1 }
    let f := (s.mcFree w).1
    let g := groupOf (16 * (f 0).toNat)
    let n := fld (f 0) 8 12
    let p := mcPacket f own
    let c := fld (f 0) 22 10
    let q := selUnit ((f 0).toNat % 8)
    let oneWord (t : State) : Prop := t = { u with stores := t.stores, rf := t.rf } ∧ OnlyInjection s t ∧
      (∀ h, h ≠ g → t.stores[h] = s.stores[h]) ∧ ∀ k : Fin 4096, k.val ≠ n → t.uc g k = s.uc g k
    (op = 0x14 → own ≠ 0xFE → Completes (.mcMessage w) s fun t => t = { u with kl := t.kl, fus := t.fus, rf := t.rf } ∧
      p.src = own ∧ (t.kl.tx = s.kl.tx ++ [p] ∨ t.kl.wait = s.kl.wait ++ [(cHOST, p)])) ∧
    (op = 0x14 → own = 0xFE → exec (.mcMessage w) s = .next u) ∧
    (op = 0x15 → Completes (.mcMessage w) s fun t => t.msp.reply.isSome = true ∧
      (s.msp.reply.isSome = true → t.msp = s.msp) ∧ t = { u with msp := t.msp }) ∧
    (∀ x, op = 0x16 → s.mc.cmd = some x → (∀ k : Fin 8, TakesEvent s (selUnit k.val)) → Completes (.mcMessage w) s fun t =>
      t.mc = mc ∧ t.draws = s.draws + 1 ∧ EventWritten q 8 x.code (x.param.zeroExtend 32) s t) ∧
    (op = 0x16 → s.mc.cmd = none → exec (.mcMessage w) s = .next u) ∧
    (op = 0x17 → (tget [] s.flt.queues c).length < 8 → exec (.mcMessage w) s = .next (if sourceSends c (fld (f 0) 16 6) then
      { u with flt := { s.flt with queues := tset [] s.flt.queues c (tget [] s.flt.queues c ++ [{ word := f 0 }]) } } else u)) ∧
    (op = 0x18 ∨ op = 0x19 → Completes (.mcGroupControl w) s oneWord) ∧
    (op = 0x1A → exec (.mcGroupControl w) s = .next (u.modG g fun gr =>
      { gr with vendorAt := min gr.vendorAt ((f 0).toNat % 6) })) ∧
    (op = 0x1B → Completes (.mcGroupControl w) s fun t => t.mc = mc ∧ Stopped t g) ∧
    (op = 0x1C → s.rootRuns = true → exec (.mcMode w) s =
      exec (if (f 0).toNat % 3 = 0 then .configureEntry else if (f 0).toNat % 3 = 1 then .runEntry else .factoryEntry) u) ∧
    (op = 0x1D → exec (.mcMode w) s = .next on.startCmd) ∧
    (op = 0x1E → exec (.mcMode w) s = .next on.stopCmd) ∧
    (op = 0x1F → serves → s.modes.entryAt ≠ some s.rootNow → Completes (.mcMode w) s fun t => t.mc = mc ∧
      t.modes.mode = .safe ∧ t.modes.prev = s.modes.mode ∧
      t.modes.pend = s.modes.pend ||| (1#6 <<< ((f 0).toNat % 6))) ∧
    (0x20 ≤ op → Completes (.mcReservedOp w) s fun t => t = { s with mc := t.mc, flt := t.flt, rf := t.rf } ∧
      t.mc = { s.mc with stopped := true } ∧
      ((tget [] s.flt.queues 2).length < 8 → t.flt.queues =
        tset [] s.flt.queues 2 (tget [] s.flt.queues 2 ++ [{ word := 0x00A90000 }])))

/-! ## Vendor routines, wear, telemetry (12) -/

/-- A completed hold is committed or ends with RANGE, the next lane is requested, and a match is judged, each by its routine,
which starts on the group's engine. FP_COMMIT with every gain within 1 % and every offset within 0.5 % stages the sixteen
coefficient words, writes TDC_DLY and sets COEF_COMMIT; out of range it changes no store and queues FP_RANGE. FP_REQ requests
the lane picked. TB_MATCH empties the pairs and goes on to HANDOVER where it accepts, else to SHADOW. The model's choices: a
routine's work is done at its release (log entry 14); full scale is taken per path as log entry 102 lists it. -/
def Obligations.CalibrationRoutines : Prop :=
  ∀ (s : State) (g : GroupIx) (l : LaneIx) (pts : List (BitVec 20)) (p : Slot),
    let gr := s.grp g
    let gain (w : Nat) : Prop := 100 * (Config.fpCoef pts w).toInt.natAbs ≤ 2 ^ 26
    let offset (w scale : Nat) : Prop := 200 * (Config.fpCoef pts w).toInt.natAbs ≤ 16 * scale
    let good : Prop := gain 0 ∧ offset 1 131072 ∧ ∀ k : Fin 7, gain (2 * k + 2) ∧ offset (2 * k + 3) 524288
    (VendorGoes s g 1 3 p → gr.holdRes = some (l, pts) → Completes (.fpCommit g) s fun t => VendorRuns g 3 p t ∧
      (t.grp g).holdRes = none ∧ (∀ h, h ≠ g → t.stores[h] = s.stores[h]) ∧
      (good → (t.grp g).holdEnd = some 0 ∧
        t.reg (adr (pGRP g) 0x2B) = s.reg (adr (pGRP g) 0x2B) ||| (1#32 <<< l.val) ∧
        (∀ w : Fin 16, t.cpmNow g (64 * l.val + 0x20 + w) = (Config.fpCoef pts w).setWidth 32) ∧
        t.cpmNow g (64 * l.val + 0x32) = (Config.fpDelay s.draws (chanNo g l)).setWidth 32 ∧
        ∀ w, (w < 64 * l.val + 0x20 ∨ 64 * l.val + 0x2F < w) → w ≠ 64 * l.val + 0x32 → t.cpmNow g w = s.cpmNow g w) ∧
      (¬ good → (t.grp g).holdEnd = some 1 ∧ t.stores = s.stores ∧ t.reg (adr (pGRP g) 0x2B) = s.reg (adr (pGRP g) 0x2B) ∧
        ((tget [] s.flt.queues (srcGRP g)).length < 8 → ∃ x, tget [] t.flt.queues (srcGRP g) =
          tget [] s.flt.queues (srcGRP g) ++ [x] ∧ x.word.extractLsb' 16 6 = BitVec.ofNat 6 kFP_RANGE))) ∧
    (VendorGoes s g 2 3 p → (s.reg (adr pCAL 0x10)).getLsbD 0 = true → s.modes.mode = .run → gr.holdReq = none →
      gr.hold = 0 ∨ gr.holdEnd.isSome = true → ({ s with draws := s.draws + 1 }).fpPick g s.draws = some l →
      Completes (.fpReq g) s fun t => VendorRuns g 3 p t ∧ (t.grp g).holdReq = some l ∧ t.stores = s.stores) ∧
    (VendorGoes s g 3 3 p → gr.tb.st = .match → Completes (.tbMatch g) s fun t => VendorRuns g 3 p t ∧ (t.grp g).tb.pairs = {} ∧
      (t.grp g).tb.st = (if (s.tbJudge gr.tb.pairs).2.2.2 then .handover else .shadow))

/-- The routines of wear, thresholds and telemetry start on the group's engine with their work: THR_CHECK judges the next
comparator in turn; WEAR_FLUSH adds a lane's pending closes to its MRAM counts; TEL_GATHER copies the group's counts; the MC's
flush leaves no count pending. A telemetry cycle that is due lists its records, or is skipped and counted while records wait;
a record that its Kwenlink budget covers leaves the list for 66 bytes of TEL. The model's choices: a routine's work is done at
its release (log entry 14), one channel of WEAR_FLUSH at a time (log entry 69). -/
def Obligations.HousekeepingAndTelemetry : Prop :=
  (∀ (s : State) (g : GroupIx) (l : LaneIx) (n : Nat) (reading : BitVec 20) (p : Slot),
     let r := (s.chan g l).fe.relay
     let k := 0x2000 + 4 * (16 * g.val + l.val)
     (VendorGoes s g 4 3 p → s.thrPick g = some n → Completes (.thrCheck g reading) s fun t => VendorRuns g 3 p t ∧
       (t.grp g).thrNext = (n + 1) % 32 ∧ t.reg (adr pCAL 0x16) = s.reg (adr pCAL 0x16) + 1 ∧
       (thrMismatch reading (s.thrOf g n).2.thr = true → (t.hdr pCAL).evt.getLsbD 4 = true)) ∧
     (VendorGoes s g 5 4 p → s.wearPick g = some l → Completes (.wearFlush g) s fun t => VendorRuns g 4 p t ∧
       tget 0 t.nvm.a k = tget 0 s.nvm.a k + r.pendA ∧ tget 0 t.nvm.a (k + 1) = tget 0 s.nvm.a (k + 1) + r.pendB ∧
       (t.chan g l).fe.relay.pendA = 0 ∧ (t.chan g l).fe.relay.pendB = 0 ∧ (t.chan g l).fe.relay.st = r.st) ∧
     (VendorGoes s g 6 5 p → (3, g.val) ∈ s.tel.pend → (s.grp g).telBuf = [] → Completes (.telGather g) s fun t =>
       VendorRuns g 5 p t ∧ (t.grp g).telBuf = s.telCounts g) ∧
     ((s.modes.mode = .configure ∨ s.modes.mode = .safe) → s.modes.flush = true → s.clk.gated = false →
       Completes .wearMcFlush s fun t => t.modes = { s.modes with flush := false } ∧
         (t.chan g l).fe.relay.pendA = 0 ∧ (t.chan g l).fe.relay.pendB = 0)) ∧
  (∀ (s : State) (r : Nat × Nat),
     let tick := s.esc.tickRoot.toNat
     let due := s.tel.ctrl.getLsbD 0 = true ∧ s.rootRuns = true ∧ s.modes.mode ≠ .reset ∧
       s.esc.frame.toNat % max s.tel.period.toNat 1 = 0 ∧ s.tel.last ≠ some tick
     (due → s.tel.pend = [] → Completes .telCycle s fun t => t.reg (adr pTEL 0x0C) = s.reg (adr pTEL 0x0C) + 1 ∧
       t.tel.pend = s.telRecords ∧ t.tel.last = some tick ∧ t = { s with groups := t.groups, tel := t.tel, rf := t.rf }) ∧
     (due → s.tel.pend ≠ [] → Completes .telCycle s fun t => t.reg (adr pTEL 0x0C) = s.reg (adr pTEL 0x0C) + 1 ∧
       t.reg (adr pTEL 0x0D) = s.reg (adr pTEL 0x0D) + 1 ∧
       t.tel.pend = s.tel.pend ∧ (t.hdr pTEL).evt.getLsbD 0 = true ∧ t.groups = s.groups) ∧
     (s.telNext = some r → s.fits none 3 5 66 = true → Completes .telRecordWrite s fun t =>
       t.tel.pend = s.tel.pend.filter (fun x => x != r) ∧ t.used none 3 5 = s.used none 3 5 + 66))

/-! ## Cell quads (06) -/

/-- The holdoff ends; the lowest-numbered qualified condition ends the step and latches its successor; a pulse step
enters its pulse period, and ends with condition 0 and RDC at its end; a periodic record comes due. -/
def Obligations.QuadConditions : Prop :=
  ∀ (s : State) (g : GroupIx) (j : QuadIx) (i : Fin 4),
    let q := s.quad g j
    let base := 250 * max (fld (q.w 5) 0 16) 1
    let pulse := 250 * max (fld (q.w 5) 16 16) 1
    let ends (t : State) (k : Nat) : Prop := OnlyGroup g s t ∧ (∀ k, k ≠ j → t.quad g k = s.quad g k) ∧
      (t.quad g j).st = .ending ∧ (t.quad g j).cond = BitVec.ofNat 3 k ∧ (t.quad g j).succ = some (q.condNext k) ∧
      (t.quad g j).words = q.words ∧ (t.grp g).chans = (s.grp g).chans
    q.st = .running →
    (s.quadsFollow = false → 250 * fld (q.w 4) 0 16 ≤ q.time + 1 →
      exec (.holdoffExpiry g j) s = .next (s.modQ g j fun q => { q with evalAll := true })) ∧
    (s.modes.mode ≠ .mirror → q.qualified i = true → (∀ k, k < i → q.qualified k = false) →
      Completes (.quadTermination g j) s fun t => ends t i.val ∧ (t.quad g j).stats = q.stats) ∧
    (s.modes.mode ≠ .mirror → q.mode = 5 → q.pulse = false → base ≤ q.time → exec (.pulsePeriodEnd g j) s =
      .next (s.modQ g j fun q => { q with pulse := true, vb := q.vSum, ib := q.iSum })) ∧
    (s.modes.mode ≠ .mirror → q.mode = 5 → q.pulse = true → base + pulse ≤ q.time →
      Completes (.pulsePeriodEnd g j) s fun t => ends t 0 ∧ (t.quad g j).stat 14 = q.rdc) ∧
    (2 ^ fld (q.w 4) 24 4 ≤ q.period →
      exec (.periodicRecordDue g j) s = .next (s.modQ g j fun q => { q with recDue := true }))

/-- At the first PI boundary from SEQ cycle 16 on an idle quad that was asked to start is refused with the reason of the first
of R173's checks that fails (the unit in RUN, an admitted REPEAT program in its slot, 64 slots of its D for each quad that
names it, no gang, the link, the over-voltage comparator, the thermistor's lane, the parity of the step's words), or copies
its step and runs, or faults with CONFIG where the step is unfit; an ending quad goes to DONE at V0 or to its successor step.
Elsewhere, and where the quads follow the mirror stream, none starts. A PI boundary comes with every fourth clock edge since
BOOT, once; it reads the quad's configuration words, puts a quad at rest to V0, and steps the time of one that runs. A
regulator held at a clamp for SAT_MS and a thermistor lane silent for 250 boundaries fault the quad with SAT and SENSE. No
channel 4q of the group is ganged here. The model's choices: an unfit step is copied and numbered before CONFIG (log entry
54), the instants of log entries 26 and 85, and rows that do nothing elsewhere (log entry 8). -/
def Obligations.QuadStartsBoundariesAndFaults : Prop :=
  (∀ (s : State) (g : GroupIx) (j : QuadIx) (n : BitVec 7),
     let q := s.quad g j
     let k := fld (s.qctl g j) 8 6
     let words := (List.range 12).map fun i => s.tblQ g j (12 * k + i)
     let first := s.modQ g j fun q => q.load (BitVec.ofNat 6 k) words true
     let gr := s.grp g
     let here : Prop := q.due = true ∧ gr.edges ≠ 0 ∧ gr.edges % 4 = 0 ∧ gr.edges = gr.piAt ∧
       16 + (s.rootNow - gr.edgeAt) / 16 ≤ s.esc.pos.toNat
     let slot : Fin 8 := ((s.qctl g j).extractLsb' 16 3).toFin
     let owner := gr.slotNow slot
     let active (k : QuadIx) : Bool := (s.quad g k).st != .idle && (s.quad g k).st != .done && (s.quad g k).st != .refused
     let names (k : QuadIx) : Fin 8 :=
       if (s.quad g k).st = .idle then ((s.qctl g k).extractLsb' 16 3).toFin else (s.quad g k).slot
     let declared := (List.finRange 4).countP fun k => names k == slot && ((s.quad g k).starting || active k)
     let fe := (s.chan g (quadLane j 0)).fe
     let ov := (s.chan g (quadLane j 3)).fe.hi
     let temp := quadOf (s.tempLane g j)
     let reason := firstFailing [(1, s.modes.mode == .run), (2, owner.st == .repeat && owner.cur),
       (3, decide (64 * declared ≤ owner.d.toNat)), (4, decide (∀ k : Fin 4, s.ganged g (quadLane j k) = false)),
       (5, fe.stage.st == .fv && fe.stage.link == .pi && !fe.outSel && fe.relay.st == .closed),
       (6, ov.mode == 4 && ov.swClear), (7, !s.tempEn g j || (temp != j && !active temp)),
       (8, decide (∀ i : Fin 12, s.tblBad g (1024 * j.val + 12 * k + i.val) = false))]
     let sound : Prop := ∀ n : Fin 4096, s.tblBad g n = false
     let refused (t : State) : Prop := t.groups = (s.modQ g j fun q => { q with
       st := .refused, reason := BitVec.ofNat 4 reason, due := false, slot := slot }).groups
     (¬ here ∨ s.quadsFollow = true → exec (.quadStepStart g j) s = .next s) ∧ (here → s.quadsFollow = false →
     (q.st = .idle → reason ≠ 0 → Completes (.quadStepStart g j) s fun t => refused t ∧
       t = { s with groups := t.groups, rf := t.rf } ∧ (sound → t.rf = s.rf)) ∧
     (q.st = .idle → reason = 0 → sound → Completes (.quadStepStart g j) s fun t =>
       (t.quad g j).step = BitVec.ofNat 6 k ∧ (t.quad g j).serial = q.serial + 1 ∧ (t.quad g j).words = words ∧
       (t.quad g j).due = false ∧ (t.quad g j).slot = slot ∧
       (first.stepBad g j = false → (t.quad g j).st = .running ∧ (t.quad g j).pi.u = s.v0 g j) ∧
       (first.stepBad g j = true → (t.quad g j).st = .faulted ∧ (t.quad g j).cause = 9)) ∧
     (q.st = .ending → q.succ = some n → 64 ≤ n.toNat → Completes (.quadStepStart g j) s fun t => OnlyGroup g s t ∧
       (t.quad g j).st = .done ∧ (t.quad g j).pi.u = s.v0 g j ∧ (t.quad g j).cond = q.cond ∧
       (t.quad g j).ended = some (q.words.getD 0 0) ∧ (t.grp g).chans = (s.grp g).chans) ∧
     (q.st = .ending → q.succ = some n → n.toNat < 64 → Completes (.quadStepStart g j) s fun t =>
       (t.quad g j).serial = q.serial + 1 ∧ (t.quad g j).step = n.setWidth 6))) ∧
  (∀ (s : State) (g : GroupIx) (j : QuadIx),
     let q := s.quad g j
     let gr := s.grp g
     let ms := fld (s.cfgQ g j 0x306) 24 8
     let boundary : Prop := gr.edges % 4 = 0 ∧ gr.edges ≠ gr.piAt ∧ s.modes.mode ≠ .reset ∧ s.modes.mode ≠ .boot ∧
       s.clk.gated = false
     let faults (t : State) (c : BitVec 4) : Prop := (t.quad g j).st = .faulted ∧ (t.quad g j).cause = c ∧
       (t.quad g j).cond = 5 ∧ (∀ k, k ≠ j → t.quad g k = s.quad g k) ∧ t.stores = s.stores ∧
       t.reg (adr (pGRP g) 0x3D) = s.reg (adr (pGRP g) 0x3D) + 1
     (∀ k, s.ganged g (quadLane k 0) = false) →
     (boundary → Completes (.piBoundary g) s fun t => (∀ h, h ≠ g → t.grp h = s.grp h) ∧ (t.grp g).piAt = gr.edges ∧
       (t.quad g j).cfg = (List.range 10).map (fun k => s.tblQ g j (0x301 + k)) ∧
       (q.counts = true → (t.quad g j).stat64 0 = q.stat64 0 + 1) ∧
       (q.counts = false → q.st ≠ .paused → q.runClear = false → s.quadsFollow = false →
         (t.quad g j).st = q.st ∧ (t.quad g j).stat64 0 = q.stat64 0 ∧ (t.quad g j).sat = 0 ∧
         (t.quad g j).pi = { q.pi with u := (s.tblQ g j 0x301).setWidth 18 })) ∧
     (¬ boundary → exec (.piBoundary g) s = .next s) ∧
     (s.modes.mode ≠ .mirror → q.st = .running ∨ q.st = .ending → ms ≠ 0 → 250 * ms ≤ q.sat →
       Completes (.quadSatTimeout g j) s fun t => faults t 6) ∧
     (s.modes.mode ≠ .mirror → q.st = .running ∨ q.st = .ending → s.tempEn g j = true → 250 ≤ q.tMiss →
       Completes (.tempLaneTimeout g j) s fun t => faults t 7))

/-! ## Waveform sources (08) -/

/-- An arm is received with its frame and checked: refused with the reason of the first of R230's checks that fails (the mode,
IDLE, the frame in time, the rate, every segment reachable within the area), else armed. In its frame the row passes the
cycles to SEQ cycle 64, where the source starts in RUN and else is reported not run; a STOP of the arm's own SEQ cycle takes
it back, whichever came first; a stop cancels an arm at once, else waits for its tick; the end and the stop put the source
back to IDLE_CODE. A sine sample goes out, clipped to the converter's range, and the phase advances by FTW. -/
def Obligations.WaveformSources : Prop :=
  ∀ (s : State) (g : GroupIx) (v : Word) (b : Bool),
    let w := (s.grp g).wav
    let m := s.reg48 (adr (pWAV g) 0x0A)
    let ctrl := s.wavReg g 0x08
    let c : Int := (fld (s.wavReg g 0x0F) 0 14 : Nat) + roundUp (sineOf w.p * (fld (s.wavReg g 0x0E) 16 16 : Nat)) 1048576
    let waits : Nat := if s.pastCut then 2 else 1
    let stored := ctrl.getLsbD 4
    let base (i : Fin 8) : Nat := fld (s.wavSeg g i 0) 0 25 / 4 * 4
    let reason (inTime : Bool) : Nat := firstFailing [(1, s.modes.mode == .configure || s.modes.mode == .run), (2, w.st == .idle),
      (3, inTime), (4, !stored || decide (1 ≤ fld (s.wavReg g 0x10) 0 16 ∧
        8 * fld (s.wavReg g 0x10) 0 16 ≤ fld (s.wavReg g 0x10) 16 16)),
      (5, !stored || decide (∀ i ∈ s.segsFrom g 8 (ctrl.extractLsb' 8 3).toFin,
        0x00800000 ≤ base i ∧ base i + 2 * (fld (s.wavSeg g i 1) 0 24 + 1) ≤ 0x02000000))]
    let n := 64 - s.esc.pos.toNat
    let idleIn (u t : State) : Prop := (t.grp g).wav.st = .idle ∧ (t.grp g).wav.out = s.idleCode g ∧
      (t.grp g).chans = (u.grp g).chans ∧ ∀ h, h ≠ g → t.grp h = u.grp h
    let idle := idleIn s
    (s.rootRuns = true → w.st = .idle → w.armReq = none → w.stopReq = some s.rootNow → v.getLsbD 0 = true →
      Completes (.wavArm g v) s fun t => (t.grp g).wav.st = .idle ∧ (t.grp g).wav.armReq = none) ∧
    (w.st = .idle → w.armReq = none → w.stopReq ≠ some s.rootNow → v.getLsbD 0 = true → v.getLsbD 1 = false →
      exec (.wavArm g v) s = .next ((s.setReg (adr (pWAV g) 0x08) (v &&& 0x710)).modW g fun w => { w with
        armReq := some (decide (s.esc.frame.toNat + 2 ≤ m.toNat)), at_ := m })) ∧
    (w.armReq = some b → reason b = 0 → exec (.wavArmCheck g) s = .next (s.modW g fun w => { w with
      armReq := none, reason := 0, st := .armed, stored := ctrl.getLsbD 4, first := (ctrl.extractLsb' 8 3).toFin })) ∧
    (w.armReq = some b → reason b ≠ 0 → exec (.wavArmCheck g) s =
      .next ((s.modW g fun w => { w with armReq := none, reason := BitVec.ofNat 4 (reason b) }).event (pWAV g) 2)) ∧
    (w.st = .armed → w.at_ = s.esc.frame → s.esc.pos.toNat ≤ 64 → Undisturbed s n → Completes (.wavStart g) s fun t =>
      t.esc.pos = 64 ∧ (s.modes.mode = .run → (t.grp g).wav.st = .playing ∧
        (t.grp g).wav.seg = (if w.stored then w.first else w.seg) ∧
        (t.grp g).wav.k = 0 ∧
        (t.grp g).wav.p = (s.wavReg g 0x0E).extractLsb' 0 16 ++ 0#32 ∧ HasEvent (pWAV g) 1 t) ∧
      (s.modes.mode ≠ .run → idleIn (s.flow n) t ∧ (t.grp g).wav.reason = 6 ∧ HasEvent (pWAV g) 2 t)) ∧
    (w.st = .armed → w.at_ ≠ s.esc.frame → exec (.wavStart g) s = .next s) ∧
    (w.st = .armed → Completes (.wavStop g 2) s fun t => idle t ∧ (t.grp g).wav.armReq = none ∧
      (t.grp g).wav.stopReq = some s.rootNow) ∧
    (w.st = .playing → w.stopAt = none → w.armReq = none → exec (.wavStop g 2) s =
      .next (s.modW g fun w => { w with stopAt := some waits })) ∧
    (w.st = .playing → w.stopAt = some 0 → Completes (.wavStopEffect g) s fun t => idle t ∧ HasEvent (pWAV g) 0 t) ∧
    (w.st = .playing → w.stored = true → s.wavOver g = true → Completes (.wavEnd g) s fun t =>
      idle t ∧ HasEvent (pWAV g) 0 t) ∧
    (w.st = .playing → w.stored = false → Completes (.wavOutputSample g) s fun t =>
      (t.grp g).wav = { w with out := BitVec.ofInt 14 (clampInt 0 16383 c), p := w.p + s.ftw g } ∧
      ((c < 0 ∨ 16383 < c) → t.reg (adr (pWAV g) 0x12) = s.reg (adr (pWAV g) 0x12) + 1) ∧
      (0 ≤ c → c ≤ 16383 → t.rf = s.rf))

/-! ## Trigger lines and captures (10) -/

/-- An ARM packet arms its line for a coming frame; for the present frame it makes the line LIVE at its tick in RUN or MIRROR, and
else leaves it IDLE, as a DISARM or a late one does; none comes while the root is lost. Each fire asked for waits for cycle 64 of
the next frame, and there drives a live line low once or is counted as dropped; the qualified edge stamps the line at its own root
cycle and gives every capture in PRE its trigger point; later edges are counted. An attached group takes the arm or refuses it
with the first of R261's checks that fails; another capture of the line is ABORTED. A capture's point begins at an edge of the
group conversion clock, takes a sample of each of its 2^j edges, and is stored whole, or as the miss word; behind the trigger
point it counts, and one beyond the limit that the mask entry of the largest FROM at or below its index sets, if there is one,
stops the capture with its violation (here with one lane). A capture whose points are all stored ends DONE with its event; RD_RST
returns the read pointers of the lanes written, and no others. The model's choice: a fire asked for stays with its line through a
DISARM or a new arm (log entry 92). -/
def Obligations.TriggersAndCaptures : Prop :=
  (∀ (s : State) (l : LineIx) (frame : FrameNo) (auto : BitVec 16) (v : Word) (mask : BitVec 4) (bins : BitVec 7),
     let x := s.lines[l]
     let n := 64 - s.esc.pos.toNat
     let only (u t : State) : Prop := t = { u with lines := t.lines } ∧ ∀ k : LineIx, k ≠ l → t.lines[k] = u.lines[k]
     let asks (n : Nat) (t : State) : Prop := t = { s with lines := t.lines } ∧ ∀ k : LineIx,
       t.lines[k] = if n.testBit k.val then { s.lines[k] with pendNext := s.lines[k].pendNext + 1 } else s.lines[k]
     let fires (t : State) : Prop := only (s.flow n) t ∧
       t.lines[l] = { x with pend := 0, pendForced := false, fired := true, low := true }
     let lost (t : State) : Prop := (t.lines[l]).st = .idle ∧ HasEvent pTRG 3 t
     let runs : Prop := (s.modes.mode = .run ∧ s.esc.stopAt ≠ some 0) ∨ s.modes.mode = .mirror
     (s.rootRuns = false → exec (.armPacket frame auto l false) s = .next s ∧ exec (.firePacket mask) s = .next s) ∧
     (s.rootRuns = true → Completes (.armPacket frame auto l true) s fun t => (t.lines[l]).st = .idle ∧
       (t.lines[l]).pend = x.pend ∧ (t.lines[l]).pendNext = x.pendNext ∧ ∀ k : LineIx, k ≠ l → t.lines[k] = s.lines[k]) ∧
     (s.rootRuns = true → frame = s.esc.frame →
       (s.esc.pos = 0 → runs → Completes (.armPacket frame auto l false) s fun t => (t.lines[l]).st = .live ∧ HasEvent pTRG 0 t) ∧
       (s.esc.pos = 0 → s.modes.mode ≠ .run → s.modes.mode ≠ .mirror → s.modes.mode ≠ .configure →
         Completes (.armPacket frame auto l false) s lost) ∧
       (s.esc.pos ≠ 0 → Completes (.armPacket frame auto l false) s lost)) ∧
     (s.rootRuns = true → s.esc.frame.toNat < frame.toNat → Completes (.armPacket frame auto l false) s fun t =>
       (t.lines[l]).st = .armed ∧ (t.lines[l]).f = frame ∧ (t.lines[l]).auto = auto ∧ (t.lines[l]).fired = false) ∧
     (s.rootRuns = true → frame.toNat < s.esc.frame.toNat → Completes (.armPacket frame auto l false) s lost) ∧
     Completes (.trgFire v) s (asks v.toNat) ∧ (s.rootRuns = true → Completes (.firePacket mask) s (asks mask.toNat)) ∧
     (Undisturbed s n →
       (x.st = .live → s.modes.mode = .run → x.fired = false →
         (x.pend = 1 → x.pendForced = false → (s.flow n).fireInTime x = true → Completes (.fireIssue l) s fires) ∧
         (x.pend = 0 → x.pendForced = true → Completes (.fireIssue l) s fires)) ∧
       (x.pend = 1 → x.pendForced = false → x.st ≠ .live → Completes (.fireIssue l) s fun t =>
         (t.lines[l]).low = x.low ∧ (t.lines[l]).pend = 0 ∧ t.reg (adr pTRG 0x30) = s.reg (adr pTRG 0x30) + 1)) ∧
     Completes (.trigPulseEnd l) s (fun t => only s t ∧ t.lines[l] = { x with low := false }) ∧
     (x.st = .live → Completes (.trigEdge l bins) s fun t => (t.lines[l]).st = .triggered ∧
       (t.lines[l]).coarse = BitVec.ofNat 40 ((8 * s.esc.root.toNat + bins.toNat) / 8) ∧ HasEvent pTRG 1 t ∧ ∀ g,
       ((s.grp g).acq.st = .pre → (s.grp g).acq.line = l → (t.grp g).acq.st = .post ∧ (t.grp g).acq.trigPt.isSome = true) ∧
       ((s.grp g).acq.st ≠ .pre ∨ (s.grp g).acq.line ≠ l → t.grp g = s.grp g)) ∧
     (x.st = .triggered → Completes (.trigEdge l bins) s (SetsReg (lineReg l 7) (s.reg (lineReg l 7) + 1) s)) ∧
     (x.st = .live → x.auto ≠ 0 → x.f.toNat + x.auto.toNat ≤ s.esc.frame.toNat → x.expired = false →
       Completes (.autoTimeout l) s fun t => only s t ∧
         t.lines[l] = { x with expired := true, pendForced := (s.reg (adr pTRG 0x08)).getLsbD 0 })) ∧
  (∀ (s : State) (g : GroupIx) (v : Word),
     let a := (s.grp g).acq
     (a.st = .post → a.post ≤ a.stored → Completes (.captureDone g) s fun t =>
       t = { s with groups := t.groups, rf := t.rf } ∧ HasEvent (pACQ g) 0 t ∧
       t.grp g = { s.grp g with acq := { a with st := .done } } ∧ ∀ h, h ≠ g → t.grp h = s.grp h) ∧
     Completes (.rdRst g v) s (fun t => OnlyGroup g s t ∧
       t.grp g = { s.grp g with acq := { a with rd := (t.grp g).acq.rd } } ∧
       ∀ n : Fin 16, (t.grp g).acq.rd[n] = if v.getLsbD n.val then 0 else a.rd[n])) ∧
  (∀ (s : State) (g : GroupIx) (l : LineIx) (frame : FrameNo) (auto : BitVec 16),
     let a := (s.grp g).acq
     let ctrl := s.reg (adr (pACQ g) 0x08)
     let n := (List.finRange 16).countP fun i => ctrl.getLsbD (16 + i.val)
     let pre := fld (s.reg (adr (pACQ g) 0x09)) 0 14
     let post := fld (s.reg (adr (pACQ g) 0x0A)) 0 15
     let from_ (base : Nat) (e : Fin 32) : Word := s.maskW g (base + 2 * e.val)
     let rises (base : Nat) : Prop := ∀ e h : Fin 32, e < h → (from_ base e).getLsbD 31 = true →
       (from_ base h).getLsbD 31 = true → fld (from_ base e) 0 14 < fld (from_ base h) 0 14
     let reason := firstFailing [(1, decide (1 ≤ n)), (2, decide (1 ≤ post ∧ pre + post ≤ 16384 / n)),
       (3, !ctrl.getLsbD 9 || decide (rises 0 ∧ rises 64))]
     let going : Prop := a.st = .armed ∨ a.st = .pre ∨ a.st = .post
     let arms (p : State → Prop) : Prop := Completes (.armPacket frame auto l false) s p
     s.rootRuns = true → s.esc.frame.toNat < frame.toNat →
     (ctrl.getLsbD 0 = true → fld ctrl 1 2 = l.val →
       (reason = 0 → arms fun t => (t.grp g).acq = {
         st := .armed, line := l, lanes := ctrl.extractLsb' 16 16, j := min (fld ctrl 4 5) 16, pre := pre, post := post,
         f := frame }) ∧
       (reason ≠ 0 → arms fun t => (t.grp g).acq.st = .idle ∧ (t.grp g).acq.reason = BitVec.ofNat 4 reason ∧
         HasEvent (pACQ g) 3 t)) ∧
     (ctrl.getLsbD 0 = false ∨ fld ctrl 1 2 ≠ l.val →
       (going → a.line = l → arms fun t => (t.grp g).acq.st = .aborted ∧ HasEvent (pACQ g) 2 t) ∧
       (¬ going ∨ a.line ≠ l → arms fun t => (t.grp g).acq = a))) ∧
  (∀ (s : State) (g : GroupIx) (l : LaneIx) (raw spare : BitVec 20) (job : Job) (k : Sampling) (sum : Int) (m t0 b : Nat) (o : Bool),
     let a := (s.grp g).acq
     let sl := (s.grp g).slice l
     let taking : Prop := a.st = .pre ∨ (a.st = .post ∧ a.stored < a.post)
     let clocked : Prop := s.modes.mode ≠ .reset ∧ s.modes.mode ≠ .boot ∧ s.clk.gated = false
     let quiet : Prop := (s.reg (adr pFLT 0x22)).getLsbD 0 = false
     let place := 0x03C00000 + 65536 * g.val + 4 * (a.point % 16384)
     let y : Int := roundUp ((sum + k.correct raw) * 2 ^ (a.j / 2)) (16 * 2 ^ a.j)
     let word : Word := BitVec.ofNat 4 (a.j / 2) ++ BitVec.ofNat 28 y.toNat
     let code := fld word 0 28 / 2 ^ (a.j / 2)
     let enabled (base : Nat) (e : Fin 32) : Prop := (s.maskW g (base + 2 * e.val)).getLsbD 31 = true
     let from_ (base : Nat) (e : Fin 32) : Nat := fld (s.maskW g (base + 2 * e.val)) 0 14
     let limit (base : Nat) (e : Fin 32) : Nat := fld (s.maskW g (base + 2 * e.val + 1)) 0 20
     let rises (base : Nat) : Prop := ∀ e h, e < h → enabled base e → enabled base h → from_ base e < from_ base h
     let rules (base i : Nat) (e : Fin 32) : Prop := enabled base e ∧ from_ base e ≤ i ∧
       ∀ h, enabled base h → from_ base h ≤ i → from_ base h ≤ from_ base e
     let violates (i : Nat) : Prop := (s.reg (adr (pACQ g) 0x08)).getLsbD 9 = true ∧
       ((∃ e, rules 0 i e ∧ limit 0 e < code) ∨ ∃ e, rules 64 i e ∧ code < limit 64 e)
     let viol (i : Nat) : Word := BitVec.ofNat 32 (0x80000000 + 16384 * l.val + i)
     taking → a.lanes = 1#16 <<< l.val → a.j ≤ 16 → clocked →
     (a.sums = [] → Completes (.groupConversionClockEdge g) s fun t => (t.grp g).acq.sums = [(l.val, 0, 0, false)] ∧
       (t.grp g).acq.edgeN = 1 ∧ (t.grp g).acq.point = a.point ∧ (t.grp g).acq.ptRoot = s.rootNow) ∧
     (a.sums = [(l.val, sum, m, o)] →
       (a.edgeN < 2 ^ a.j → Completes (.groupConversionClockEdge g) s fun t =>
         (t.grp g).acq = { a with edgeN := a.edgeN + 1, ptLast := s.rootNow }) ∧
       (2 ^ a.j ≤ a.edgeN → m ≠ 2 ^ a.j → quiet → Completes (.groupConversionClockEdge g) s fun t =>
         t.sram.word place = 0xFFFFFFFF ∧ t.reg (adr (pACQ g) 0x0E) = s.reg (adr (pACQ g) 0x0E) + 1 ∧
         (t.grp g).acq.point = a.point + 1 ∧ (t.grp g).acq.misses = a.misses + 1 ∧ (t.grp g).acq.st = a.st) ∧
       (sl.job = some job → sl.warming = false → job.take = some k → k.edge = some b → QuadsQuiet s g → quiet →
         (m + 1 < 2 ^ a.j → Completes (.conversionComplete g l (raw, spare)) s fun t => (t.grp g).acq.point = a.point ∧
           ∃ x, (t.grp g).acq.sums = [(l.val, sum + k.correct raw, m + 1, x)]) ∧
         (m + 1 = 2 ^ a.j → a.edgeN = 2 ^ a.j → a.trigPt = none → Completes (.conversionComplete g l (raw, spare)) s fun t =>
           t.sram.word place = word ∧ (t.grp g).acq.point = a.point + 1 ∧ (t.grp g).acq.st = a.st) ∧
         (m + 1 = 2 ^ a.j → a.edgeN = 2 ^ a.j → a.trigPt = some t0 → t0 ≤ a.point → rises 0 → rises 64 →
           let i := a.point - t0
           (¬ violates i → Completes (.conversionComplete g l (raw, spare)) s fun t =>
             t.sram.word place = word ∧ (t.grp g).acq.stored = a.stored + 1 ∧ (t.grp g).acq.st = a.st) ∧
           (violates i → TakesEvent s (selGroup g) → Completes (.conversionComplete g l (raw, spare)) s fun t =>
             t.sram.word place = word ∧ (t.grp g).acq.st = .stopped ∧ t.reg (adr (pACQ g) 0x11) = viol i ∧
             HasEvent (pACQ g) 1 t ∧ EventWritten (selGroup g) 6 1 (viol i) s t)))))

/-! ## Power, RESET and the test access port (14 R340, R341, 21 R535) -/

/-- RST_n and a supply out of range put the unit in RESET from any mode: every register of the map at its reset value,
relays open or opening, MRAM and the main SRAM kept; a commit under way has rewritten some first words of its region in copy B.
BOOT begins once the supply monitor and RST_n are both released; the release of RST_n samples BOOT_SRC and PAIR_ID. EXTEST drives
the boundary cells in RESET with RST_n asserted and acts as BYPASS elsewhere; SAMPLE/PRELOAD captures and drives none; every other
code selects the bypass register. None changes anything but the test port. Captured levels of undriven balls are free values.
The model's choices: how many words the commit has rewritten (log entry 30), the order of the cells and which are driven (log
entries 64, 117), and that RST_n's receiver and the test port are reset where the last supply in range leaves it (log entry
111). -/
def Obligations.PowerResetAndTestPort : Prop :=
  (∀ (s : State) (k : Supply) (src : BitVec 2) (pairId : Bool),
     let reset (t : State) : Prop := t.modes.mode = .reset ∧ (∀ a, t.reg a = regReset a) ∧ t.sram = { s.sram with back := [] } ∧
       t.nvm.a = s.nvm.a ∧ (s.nvm.commit = none → t.nvm = { s.nvm with dirty := 0 }) ∧
       (∀ r, s.nvm.commit = some r → t.nvm.commit = none ∧ ∀ a, tget 0 t.nvm.b a =
         let first := (nvmRegions.getD r.val (0, 0)).1
         if first ≤ a ∧ a < first + Config.commitCopied s.draws ∧ a ≤ (nvmRegions.getD r.val (0, 0)).2
         then tget 0 s.nvm.a a else tget 0 s.nvm.b a) ∧
       (∀ g l, (t.chan g l).fe.relay.st = .opened ∨ (t.chan g l).fe.relay.st = .opening) ∧
       (∀ g l, (t.chan g l).fe.stage.st = .hiz ∧ (t.chan g l).fe.driver.st = .off) ∧
       (∀ g, (t.grp g).eng.running = false ∧ ∀ i : Fin 8, (t.grp g).slots[i] = {}) ∧
       t = { State.reset with pending := s.pending, draws := t.draws, sram := s.sram, nvm := t.nvm, groups := t.groups,
                              modes := t.modes, boot := t.boot, pair := { id := s.pair.id }, tap := t.tap }
     let boots (t : State) : Prop := t.modes = { s.modes with mode := .boot } ∧ t.boot.stage = 1
     let another : Prop := ∃ i : Fin 6, i ≠ supplyIx k ∧ s.boot.supplies[i] = true
     Completes .rstNAssert s (fun t => reset t ∧ t.tap = s.tap ∧
       t.boot = { src := s.boot.src, supplies := s.boot.supplies, monitor := s.boot.monitor, rstRel := false }) ∧
     Completes (.supplyOutOfRange k) s (fun t => reset t ∧ t.boot.monitor = false ∧
       (∀ i : Fin 6, t.boot.supplies[i] = if i = supplyIx k then false else s.boot.supplies[i]) ∧
       (another → t.boot.rstRel = s.boot.rstRel ∧ t.boot.src = s.boot.src ∧ t.tap = s.tap) ∧
       (¬ another → t.boot.rstRel = false ∧ t.boot.src = 0 ∧ t.tap = {})) ∧
     Completes (.supplyRise k) s (fun t => t = { s with boot := { s.boot with supplies := t.boot.supplies } } ∧
       ∀ i : Fin 6, t.boot.supplies[i] = if i = supplyIx k then true else s.boot.supplies[i]) ∧
     ((∀ i : Fin 6, s.boot.supplies[i] = true) → Completes .supplyMonitorRelease s fun t => t.boot.monitor = true ∧
       (s.modes.mode = .reset → s.boot.rstRel = true → boots t) ∧ (s.boot.rstRel = false → t.modes = s.modes)) ∧
     (s.modes.mode = .reset → s.boot.rstRel = false → Completes (.rstNRelease src pairId) s fun t =>
       t.boot.rstRel = true ∧ t.boot.src = src ∧ t.pair = { s.pair with id := pairId } ∧ t.tap.drive = false ∧
       (s.boot.monitor = true → boots t) ∧ (s.boot.monitor = false → t.modes = s.modes)) ∧
     (s.modes.mode ≠ .reset → exec (.rstNRelease src pairId) s = .next s)) ∧
  (∀ (s : State) (cells : BitVec 18) (code : BitVec 4),
     let only (t : State) : Prop := t = { s with tap := t.tap, draws := t.draws }
     let held := s.modes.mode = .reset ∧ s.boot.rstRel = false
     let scanned (t : State) : Prop := only t ∧ t.tap.bypass = false ∧ t.tap.cells.getLsbD 13 = false ∧
       t.tap.cells.getLsbD 16 = false ∧ (∀ i, i ≠ 13 → i ≠ 16 → t.tap.cells.getLsbD i = cells.getLsbD i) ∧
       t.tap.out.getLsbD 11 = s.kl.enumIn ∧ t.tap.out.getLsbD 14 = s.pair.ownIn ∧ t.tap.out.getLsbD 16 = s.boot.rstRel ∧
       ((∀ i : Fin 6, s.boot.supplies[i] = true) →
         (s.tap.drive = false → t.tap.out.getLsbD 12 = s.kl.enumOut ∧ t.tap.out.getLsbD 13 = s.pair.ownOut ∧
           ∀ l : LineIx, (s.lines[l]).low = true → t.tap.out.getLsbD l.val = false) ∧
         (s.tap.drive = true → t.tap.out.getLsbD 13 = false ∧
           (∀ i ∈ [7, 8, 9, 12], t.tap.out.getLsbD i = s.tap.cells.getLsbD i) ∧
           ∀ i ∈ [0, 1, 2, 3, 4, 10], s.tap.cells.getLsbD i = false → t.tap.out.getLsbD i = false))
     (held → Completes (.extest cells) s fun t => scanned t ∧ t.tap.ir = 0 ∧ t.tap.drive = true) ∧
     (¬ held → exec (.extest cells) s = .next { s with tap := { s.tap with ir := 0, bypass := true, drive := false } }) ∧
     Completes (.samplePreload cells) s (fun t => scanned t ∧ t.tap.ir = 1 ∧ t.tap.drive = false) ∧
     (code ≠ 0 → code ≠ 1 →
       exec (.bypass code) s = .next { s with tap := { s.tap with ir := code, bypass := true, drive := false } }))

/-! ## BOOT (14 R342 to R351, 15 R382 to R384) -/

/-- The first stages: MRAM goes on where every region has a copy that carries its CRC, and leaves both copies so, and halts
where one has none; CLOCK goes on once all is locked, IMAGE with an image of the right format, from the flash at byte address
0 or, as the fallback, 0x00100000; flash is read twice at most, and every other failure halts BOOT with its cause. Arbitration
gives the bus to the unit whose bits all stood. The model's choices: BOOT_IMG_DATA brings its bytes most significant first
(log entry 23), and the image lies in the flash as log entry 31 has it. -/
def Obligations.BootStagesToImage : Prop :=
  ∀ (s : State) (flash bytes : List Byte) (bits : Nat) (v : Word) (bus : BitVec 64),
    let halts (t : State) (c : BitVec 4) : Prop := t.boot.failed = true ∧ t.boot.cause = c ∧ t.modes.mode = .boot ∧
      t.boot.stage = s.boot.stage
    let goes (t : State) (n : BitVec 3) : Prop := t.boot.failed = false ∧ t.boot.stage = n ∧ t.modes.mode = .boot
    let good (img : List Byte) := imgOk img = true ∧ imgLen img ≤ img.length
    let whole : Prop := ∀ k : Fin 8, s.nvm.goodA k = true ∨ s.nvm.goodB k = true
    let copy := flash.drop (if s.boot.fallback then 0x00100000 else 0)
    let taken (t : State) : Prop := t.reg (adr pMSP 0x0E) = s.reg (adr pMSP 0x0E) + 1 ∧
      t = { s with rf := t.rf, msp := t.msp, boot := { s.boot with image := s.boot.image ++ bytes } }
    let own : BitVec 64 := s.reg (adr pUNIT 0x0B) ++ s.reg (adr pUNIT 0x0A)
    (s.inStage 1 = true → Completes .bootMram s fun t => t.esc = s.esc ∧ t.stores = s.stores ∧ t.sram = s.sram ∧
      (whole → goes t 2 ∧ ∀ k : Fin 8, t.nvm.goodA k = true ∧ t.nvm.goodB k = true) ∧ (¬ whole → halts t 1)) ∧
    (s.inStage 2 = true → s.locked = true → Completes .bootClock s fun t => t.clk.domRco = false ∧ t.kl.forward = true ∧
      t.clk.target = none ∧ (s.boot.src ≠ 3 → goes t 3) ∧
      (s.boot.src = 3 → t.boot.failed = true ∧ t.boot.cause = 2 ∧ t.boot.stage = 3)) ∧
    (s.inStage 3 = true → s.boot.src = 0 → s.msp.mastering = true → Completes (.bootImage flash) s fun t =>
      t.msp.mastering = false ∧ (good copy → goes t 4 ∧ t.boot.image = copy.take (imgLen copy)) ∧
      (¬ good copy → s.boot.fallback = false → goes t 3 ∧ t.boot.fallback = true ∧ t.boot.image = []) ∧
      (¬ good copy → s.boot.fallback = true → halts t 4)) ∧
    (s.inStage 3 = true → s.boot.src = 1 ∨ s.boot.src = 2 → good s.boot.image → 128 ≤ s.boot.image.length →
      Completes (.bootImage flash) s fun t => goes t 4 ∧ t.boot.image = s.boot.image.take (imgLen s.boot.image)) ∧
    (s.inStage 3 = true → s.boot.src = 1 ∨ s.boot.src = 2 → Completes .bootImageTimeout s fun t => halts t 3) ∧
    (s.inStage 3 = true → s.boot.src = 1 → 8 ≤ bits → bits ≤ 8192 → bits % 8 = 0 → bytes.length * 8 = bits →
      s.msp.mastering = false → s.msp.quiet = true → s.msp.reply = none → Completes (.imageFrame ⟨false, bits⟩ bytes) s taken) ∧
    (s.inStage 3 = true → s.boot.src = 2 → exec (.bootImgDataWrite v) s =
      .next { s with boot := { s.boot with image := s.boot.image ++
        [v.extractLsb' 24 8, v.extractLsb' 16 8, v.extractLsb' 8 8, v.extractLsb' 0 8] } }) ∧
    (s.masters = true → s.msp.mastering = false → own &&& ~~~bus = 0 → exec (.masterArbitration bus) s =
      .next { s with msp := { s.msp with mastering := true, mmWait := false } }) ∧
    (s.masters = true → s.msp.mastering = false → own &&& ~~~bus ≠ 0 → Completes (.masterArbitration bus) s fun t =>
      t.msp = { s.msp with mmWait := true } ∧ t.reg (adr pMSP 0x12) = s.reg (adr pMSP 0x12) + 1 ∧ HasEvent pMSP 3 t) ∧
    (s.msp.mastering = false → exec .arbitrationSeen s = .next { s with msp := { s.msp with quiet := false } })

/-- The last stages: a copy with the wrong key or signature fails; LOAD fills the vendor words and the MC store from the image
and the customer words with END; COMPAT sets COMPATIBLE and goes on either way; BIST, whose items 3 and 4 fail too with an
unlocked hairspring or a wrong vendor parity bit, halts on a main-store or descriptor failure, else the unit enters ENUMERATE
with the failed groups stopped. The model's choices: after LOAD the MC stands at address 0 with an empty queue, each word with
odd parity of its four bytes (log entry 32). -/
def Obligations.BootStagesToEnumerate : Prop :=
  ∀ (s : State) (found : BistResult),
    let r := s.bistFound found
    let img := s.boot.image
    let key := (img.drop 0x40).take 64
    let n := imgVr img + 24576
    let signed := ecdsaP256 key (sha256 (img.take n)) ((img.drop n).take 64)
    let hw := s.regF (adr pUNIT 0x09) 0 16
    let listed := (List.range (imgByte img 9)).any fun i => imgNat img (0x10 + 2 * i) 2 == hw
    let again (t : State) (c : BitVec 4) : Prop :=
      if s.boot.src = 0 ∧ s.boot.fallback = false then t.boot.stage = 3 ∧ t.boot.fallback = true ∧ t.boot.failed = false
      else t.boot.failed = true ∧ t.boot.cause = c
    (s.inStage 4 = true → Completes .bootVerify s fun t =>
      (sha256 key ≠ s.nvmHash 0x40 → again t 5) ∧
      (sha256 key = s.nvmHash 0x40 → signed = false → again t 6) ∧
      (sha256 key = s.nvmHash 0x40 → signed = true → t = { s with boot := { s.boot with stage := 5 } })) ∧
    (s.inStage 5 = true → Completes .bootLoad s fun t => t.boot = { s.boot with stage := 6 } ∧ t.mc.pc = 0 ∧
      t.mc.queue = [] ∧ t.rings.desc = [] ∧ (∀ g a, a < 0xC00 → t.uc g a = ucEndWord) ∧
      (∀ g i, i < 1024 → t.uc g (0xC00 + i) = ucWord (BitVec.ofNat 192 (imgNat img (imgVr img + 24 * i) 24))) ∧
      (∀ i, i < imgWords img → tget (mcWord 0) t.mc.store i = mcWord (BitVec.ofNat 32 (imgNat img (0x80 + 4 * i) 4)))) ∧
    (s.inStage 6 = true → Completes .bootCompat s fun t => t.boot = { s.boot with stage := 7 } ∧
      (listed = true → (s.qualified hw).isSome = true → t.modes = { s.modes with compat := true }) ∧
      (listed = false ∨ s.qualified hw = none → t.modes = s.modes ∧ t.reg (adr pUNIT 0x0C) =
        BitVec.ofNat 32 (s.regF (adr pUNIT 0x0C) 8 8 * 256))) ∧
    (s.inStage 7 = true →
      (∀ t : TileIx, s.clk.hs[t] = false → r.hs.getLsbD t.val = true) ∧
      (∀ (g : GroupIx) (a : Fin 4096), 0xC00 ≤ a.val → s.ucBad g a = true → r.store.getLsbD g.val = true) ∧
      (r.sram = true ∨ r.desc = true → Completes (.bootBist found) s fun t =>
        t.boot.failed = true ∧ t.boot.cause = 7 ∧ t.modes = s.modes ∧ t.reg (adr pBOOT 0x0A) = BitVec.ofNat 32 (bistItems r)) ∧
      (r.sram = false → r.desc = false → Completes (.bootBist found) s fun t =>
        t.modes.mode = .enumerate ∧ t.modes.prev = .boot ∧ t.boot.done = true ∧ t.flt.holdLow = false ∧
        t.boot.tileFail = r.link ||| r.hs ∧ (∀ a, cellAt t.sram.cells a = 0) ∧
        ∀ g, groupFails r g = true → (t.grp g).failed = true ∧ (t.grp g).gstop = true))

/-! ## Clocks (13 R316 to R329) -/

/-- Ready flags set by their events where the supplies, the release of RST_n and RCO_RDY let them, and with them the root's
lock and the reference BOOT chooses; a loss clears its flag and takes the root, the domains or a holdover with it; after the
loss of both clocks the source that returns runs the domains, the RCO first where it is ready too; in RESET nothing else
follows. -/
def Obligations.ClockSources : Prop :=
  ∀ (s : State) (b : Bool) (tile : TileIx),
    let src := s.reg (adr pCLK 0x08)
    let late := s.modes.mode = .boot ∧ s.boot.refWait = true ∧ s.clk.lock = false
    let xoChosen (t : State) : Prop := (t.reg (adr pCLK 0x08)).getLsbD 0 = true
    let early := s.modes.mode = .boot ∧ s.clk.ref = false ∧ s.clk.lock = false
    let unit := s.modes.mode = .configure ∨ s.modes.mode = .run ∨ s.modes.mode = .mirror
    (s.suppliesIn = true → exec .rcoReady s = .next { s with clk := { s.clk with rco := true } }) ∧
    (s.clk.rco = true → s.boot.rstRel = true → Completes .xoReady s fun t => t.clk = { s.clk with xo := true } ∧ (late →
      xoChosen t) ∧
      (¬ late → t.rf = s.rf)) ∧
    (s.clk.rco = true → exec .refReady s = .next { s with clk := { s.clk with ref := true } }) ∧
    (early → Completes .bootRefWindow s fun t => t.boot = { s.boot with refWait := true } ∧
      (s.clk.xo = true → xoChosen t)) ∧
    (early → s.clk.xo = false → exec .noReference s = .next (s.raise srcCLK kNO_REFERENCE 0)) ∧
    (s.refSelected = true → s.clk.lock = false → s.modes.mode ≠ .reset → Completes .rootLock s fun t =>
      t.clk = { s.clk with lock := true, trip := false, lost := false } ∧ (s.clk.lost = true → HasEvent pCLK 7 t)) ∧
    (s.clk.lock = true → exec (.readyLoss .root) s = .next { s with clk := { s.clk with
      trip := true, lost := true, lock := false, holdover := false } }) ∧
    (s.clk.ref = true → s.clk.xo = true → src.getLsbD 0 = false → src.getLsbD 1 = true →
      exec (.readyLoss .ref) s = .next { s with clk := { s.clk with ref := false, holdover := true } }) ∧
    (s.clk.rco = true → s.clk.domRco = true → Completes (.readyLoss .rco) s fun t => t.clk.rco = false ∧
      t.clk.gated = true ∧ t.pair.ownOut = false ∧ ∀ l : LineIx, (t.lines[l]).low = false) ∧
    (s.clk.holdover = true → s.otherReady = true → Completes .refHoldoverMove s fun t => t.clk.holdover = false ∧
      (t.reg (adr pCLK 0x08)).getLsbD 0 = !src.getLsbD 0 ∧ HasEvent pCLK 2 t) ∧
    (s.clk.lock = true ∨ s.clk.trip = true → s.clk.rco = true → unit → Completes .clockMonitorTrip s fun t =>
      t.clk.lock = false ∧ t.clk.target = (if s.clk.domRco then none else some true) ∧ t.modes.mode = .safe ∧
      t.modes.pend.getLsbD 2 = true ∧ t.pair.ownOut = false ∧ HasEvent pCLK 3 t) ∧
    (s.clk.gated = true → unit → Completes (.clockReturn b) s fun t => t.clk.gated = false ∧ t.clk.domRco = !(b && !s.clk.rco) ∧
      t.modes.mode = .safe ∧ t.modes.pend.getLsbD 3 = true ∧ HasEvent pCLK 4 t) ∧
    (s.clk.gated = true → s.modes.mode = .reset → Completes (.clockReturn b) s fun t => t.clk.gated = false ∧
      t.clk.domRco = !(b && !s.clk.rco) ∧ t.modes = s.modes ∧ t.groups = s.groups) ∧
    (s.clk.target = some b → s.clk.domRco ≠ b → (if b then s.clk.rco else s.clk.lock) = true →
      Completes .domainSwitchDone s (fun t => t.clk = { s.clk with target := none, domRco := b } ∧
        t.reg (adr pCLK 0x0E) = s.reg (adr pCLK 0x0E) + 1) ∧
      Completes .forcedSwitch s (fun t => t.clk = { s.clk with target := none, domRco := b } ∧
        t.reg (adr pCLK 0x0F) = s.reg (adr pCLK 0x0F) + 1 ∧ HasEvent pCLK 0 t)) ∧
    (s.clk.hs[tile] = false → Completes (.hsLock tile) s fun t => t.clk.hs[tile] = true ∧
      ∀ k : TileIx, k ≠ tile → t.clk.hs[k] = s.clk.hs[k]) ∧
    Completes (.hsUnlock tile) s (fun t => t.clk.hs[tile] = false ∧ (∀ k : TileIx, k ≠ tile → t.clk.hs[k] = s.clk.hs[k]) ∧
      ∀ g, t.reg (adr (pTDC g) 0x0F) = s.reg (adr (pTDC g) 0x0F) + (if tileOf g = tile then 1 else 0))

/-- CLK.SRC takes a ready reference in CONFIGURE and SAFE and else refuses the move; RCO_TRIM takes a fine trim where no
regulator runs, and a coarse one with the domains on the root, which restarts the RCO; an interval judges TRIM_OK by the
periods counted against those expected, both taken twice, since with TICK marks the latter need not be whole. A SYNC edge is
stamped against the nearest own tick; a steering unit takes one within 64 bins to the next tick, steps whole cycles in
CONFIGURE and SAFE, and counts one outside the window of LOCKED. Frames without edges lead to HOLD. A TICK mark sets the frame
number in CONFIGURE and SAFE. The master steers by neither. The model's choices: writes that keep REF_SEL or COARSE are not
refused for it (log entry 17), an edge that causes a coarse step does not steer too (log entry 18), a quotient's rounding
where the spec names none (log entry 51), and which of two equally near ticks counts (log entry 114). -/
def Obligations.ClockSelectionAndMarks : Prop :=
  (∀ (s : State) (v : Word) (counted : Nat),
     let src := s.reg (adr pCLK 0x08)
     let trim := adr pCLK 0x0C
     let moves := v.getLsbD 0 ≠ src.getLsbD 0
     let may := (s.modes.mode = .configure ∨ s.modes.mode = .safe) ∧ (if v.getLsbD 0 then s.clk.xo else s.clk.ref) = true
     let coarse := fld v 12 5 ≠ fld (s.reg trim) 12 5
     let e : Nat := if fld src 8 2 = 2 then s.rcoExpected else 2 * 1048576
     let off : Nat := ((2 * (counted : Int) - (e : Int)) * 1000000).natAbs
     Completes (.refSelWrite v) s (fun t => (t.reg (adr pCLK 0x08)).getLsbD 1 = v.getLsbD 1 ∧
       (moves → may → (t.reg (adr pCLK 0x08)).getLsbD 0 = v.getLsbD 0 ∧ t.clk.holdover = false) ∧
       (moves → ¬ may → (t.reg (adr pCLK 0x08)).getLsbD 0 = src.getLsbD 0 ∧ (t.hdr pCLK).err = true ∧ HasEvent pCLK 1 t)) ∧
     (fld src 8 2 = 3 → ¬ coarse → Completes (.rcoTrimWrite v) s (SetsReg trim (v &&& 0x1FFFF) s)) ∧
     (fld src 8 2 = 3 → coarse → s.clk.domRco = false → Completes (.rcoTrimWrite v) s fun t =>
       t.reg trim = v &&& 0x1FFFF ∧ t.clk = { s.clk with rco := false } ∧ HasEvent pCLK 6 t) ∧
     (fld src 8 2 ≠ 3 ∨ (coarse ∧ s.clk.domRco = true) → Completes (.rcoTrimWrite v) s (RefusedAt pCLK s)) ∧
     (s.regReady = true → Completes (.regulatorInterval counted) s fun t =>
       t = { s with clk := t.clk, rf := t.rf } ∧ t.clk.trimOk =
         (if off ≤ 5 * e then true else if 50 * e < off then false else s.clk.trimOk))) ∧
  (∀ (s : State) (stamp : BitVec 43) (n : FrameNo),
     let master := (s.reg (adr pSYNC 0x08)).getLsbD 0
     let e := s.syncError stamp
     let since : Int := 10 * ((s.esc.root.toNat : Int) - (s.esc.tickRoot.toNat : Int)) - 1536 * ((s.regF (adr pSYNC 0x12) 0 8 : Nat) : Int)
     let own := (s.nearestTick 10 since).2.2
     let k := BitVec.ofInt 48 (s.nearestTick 10 since).1
     let calm := s.modes.mode = .configure ∨ s.modes.mode = .safe
     let rejected := s.sync.st = .locked ∧ s.syncInside e = false
     (master = true → exec (.syncEdge stamp) s = .next s ∧ exec (.tickMark n) s = .next s) ∧
     (s.steers = true → s.rootRuns = true → rejected → Completes (.syncEdge stamp) s fun t =>
       t.sync.pendE = s.sync.pendE ∧ t.sync.st = .locked ∧ t.reg (adr pSYNC 0x0E) = s.reg (adr pSYNC 0x0E) + 1 ∧
       t.reg (adr pSYNC 0x0C) = (BitVec.ofInt 24 e).setWidth 32) ∧
     (s.steers = true → s.rootRuns = true → ¬ rejected → Completes (.syncEdge stamp) s fun t =>
       t.reg (adr pSYNC 0x0C) = (BitVec.ofInt 24 e).setWidth 32 ∧ t.sync.miss = 0 ∧ t.sync.edge = true ∧
       (e.natAbs < 64 → t.sync.pendE = s.sync.pendE ++ [e] ∧ t.esc = s.esc) ∧
       (64 ≤ e.natAbs → calm → t.sync.fNum = 0 ∧ t.sync.pendE = [] ∧ HasEvent pSYNC 2 t ∧
         t.esc = { s.esc with stretch := s.esc.stretch + roundTie 6 e 128 })) ∧
     (s.steers = true → s.sync.st ≠ .hold → max (s.regF (adr pSYNC 0x0F) 0 8) 1 ≤ s.sync.miss →
       Completes .syncHold s fun t => t.sync = { s.sync with st := .hold } ∧ HasEvent pSYNC 1 t) ∧
     (master = false → s.rootRuns = true → own = n → exec (.tickMark n) s = .next s) ∧
     (master = false → s.rootRuns = true → own ≠ n → calm → Completes (.tickMark n) s fun t =>
       t.esc = { s.esc with frame := n - k } ∧ HasEvent pSYNC 4 t ∧
       t.reg (adr pSYNC 0x13) = s.reg (adr pSYNC 0x13) + 1) ∧
     (master = false → s.rootRuns = true → own ≠ n → s.modes.mode = .run ∨ s.modes.mode = .mirror →
       Completes (.tickMark n) s fun t => t.esc = s.esc ∧ HasEvent pSYNC 5 t))

/-! ## The frame (02, 13 R330 to R335) -/

/-- The tick starts the next frame: POS 0, the frame number counted in the modes that count, the root count past the frame's
cycles, the length and the shares in force as last written, and where no pair runs every slot moved on and the frame's
programs listed for release from cycle 64 on. The cut-off falls 128 cycles before the end. The rows pass the cycles to their
instants, in which no limit of a routine falls here; in the modes that count frames the cut-off comes before the tick, and so
do the latched arms. On an empty queue one SEQ cycle passes (the model's choice, log entry 6): nothing while the root is lost;
the root count alone while the domains are gated; else, in a cycle in which no engine runs, none is to be released, no window
is open, no message waits at the collector, no word is to be written back and none of cycles 17, 64 and the cut-off stands,
POS and the root count, with what reaches the tiles. With the root lost and no message waiting nothing changes. -/
def Obligations.FrameTickCutoffAndCycles : Prop :=
  (∀ (s : State), s.rootRuns = true →
     let start : Bool := decide (s.modes.mode = .configure ∧ s.esc.startAt = some (s.esc.frame + 1))
     let runs := (s.modes.mode = .run ∧ s.esc.stopAt ≠ some 0 ∧ s.esc.stopAt ≠ some 1) ∨ s.modes.mode = .mirror ∨ start = true
     (s.modes.mode ≠ .reset → s.esc.cut = true ∨ modeCounts s.modes.mode = false → NothingPaced s →
       (∀ g, (s.grp g).arms = []) → s.esc.pos.toNat ≤ s.frameCycles →
       Undisturbed s (s.frameCycles - s.esc.pos.toNat) → Completes .frameTick s fun t =>
       t.esc.pos = 0 ∧ t.esc.cut = false ∧ t.esc.frame = (if modeCounts s.modes.mode then s.esc.frame + 1 else s.esc.frame) ∧
       t.esc.root = s.esc.root + BitVec.ofNat 64 (16 * (s.frameCycles - s.esc.pos.toNat)) ∧ t.esc.tickRoot = t.esc.root ∧
       t.esc.len = (s.reg (adr pESC 0x08)).setWidth 28 ∧
       (∀ (x : Fin 4) (c : Fin 8), t.share x.val c.val = (s.reg (shareAdr x.val c.val)).toNat % 2048) ∧
       (s.pair.en = false → ∀ g, (t.grp g).nextAt = 64 ∧ (∀ i : Fin 8, (t.grp g).slots[i] = ((s.grp g).slots[i]).tick start) ∧
         (runs → (s.grp g).gstop = false → (t.grp g).due = (t.grp g).dueList) ∧ (¬ runs → (t.grp g).due = []))) ∧
     (s.esc.cut = false → modeCounts s.modes.mode = true → s.esc.pos.toNat ≤ s.frameCycles - 128 →
       Undisturbed s (s.frameCycles - 128 - s.esc.pos.toNat) →
       Completes .admissionCutoff s fun t => t.esc = { s.esc with
         cut := true, pos := BitVec.ofNat 28 (s.frameCycles - 128),
         root := s.esc.root + BitVec.ofNat 64 (16 * (s.frameCycles - 128 - s.esc.pos.toNat)) }) ∧
     (s.esc.cut = true → exec .admissionCutoff s = .next s)) ∧
  (∀ s : State, s.pending = [] →
     (s.clk.lock = false → s.flt.queues = [] → s.flt.injected = [] → step s = .next s) ∧
     (s.clk.lock = true → s.clk.gated = true → step s = .next { s with esc := { s.esc with root := s.esc.root + 16 } }) ∧
     (s.rootRuns = true → s.flt.queues = [] → s.flt.injected = [] → s.sram.back = [] →
       (∀ g, (s.grp g).eng.running = false ∧ (s.grp g).due = [] ∧ ∀ l, (s.chan g l).td.opened = false) →
       s.esc.pos.toNat ≠ 17 → s.esc.pos.toNat ≠ 64 → s.esc.pos.toNat ≠ s.cutAt → s.esc.pos.toNat + 1 < s.frameCycles →
       step s = .next (s.flow 1)))

/-! ## Programs and their slots (02 R27 to R38) -/

/-- A write of ARM latches an arm, late after the cut-off cycle, or empties a slot, and is dropped under BUSY; the oldest
latched arm is admitted to its slot or refused, in its status and the group's event queue, with the reason of the first of
R33's checks that fails: the mode, GSTOP, the slot, the header, the feature level, and the sums of W, A, S and D with it over
the programs admitted for its frame against the budgets; GSTOP_CLR ends a stop. The cut-off of the frame has been done where
its cycle has passed. The model's choices: which programs count for a frame whose cut-off has not come (log entry 74), and
TARGET and START_FRAME after a DISARM, of which nothing is said here (log entry 121). -/
def Obligations.ProgramArms : Prop :=
  ∀ (s : State) (g : GroupIx) (v : Word) (a : ArmReq) (rest : List ArmReq),
    let gr := s.grp g
    let i : Fin 8 := (v.extractLsb' 0 3).toFin
    let status (t : State) : Word := t.reg (adr (pGRP g) 0x09)
    let target := s.targetOf a
    let header := s.header g a.entry.toNat
    let prog := (header.map Prod.fst).getD {}
    let total (n : Slot → Nat) : Nat := ((prog :: gr.admittedFor target).map n).sum
    let inUnit := prog.d.toNat + ((List.finRange 64).map fun h => (((s.grp h).admittedFor target).map fun p => p.d.toNat).sum).sum
    let reason := firstFailing [(7, s.modes.mode == .configure || s.modes.mode == .run || s.modes.mode == .mirror), (8, !gr.gstop),
      (9, (gr.slots[a.slot]).st == .empty), (5, header.isSome),
      (6, s.modes.compat && decide ((header.map Prod.snd).getD 0 ≤ fld (s.reg (adr pUNIT 0x0C)) 0 8)),
      (1, decide (total (fun p => p.w.toNat) ≤ s.budget 0 0)), (2, decide (total (fun p => p.a.toNat) ≤ s.budget 1 0)),
      (3, decide (4 * total (fun p => p.s.toNat) + total (fun p => p.d.toNat) ≤ 4 * s.budget 2 0)),
      (4, decide ((inUnit * 33 + 31) / 32 ≤ s.budget 3 2 ∧ inUnit ≤ 4 * s.unitStore 2))]
    (s.pastCut = true → s.esc.cut = true) →
    (s.busy (pGRP g) = true → Completes (.grpArm g v) s (DroppedAt (pGRP g) s) ∧
      Completes (.grpDisarm g v) s (DroppedAt (pGRP g) s)) ∧
    (s.busy (pGRP g) = false → v.getLsbD 5 = false → exec (.grpArm g v) s =
      .next ((s.post (pGRP g)).modG g fun gr => { gr with arms := gr.arms ++
        [{ entry := v.extractLsb' 16 12, rep := v.getLsbD 4, slot := i, late := s.pastCut }] })) ∧
    (s.busy (pGRP g) = false → (gr.slots[i]).st ≠ .empty → Completes (.grpDisarm g v) s fun t =>
      t = { s with groups := t.groups, rf := t.rf } ∧ (t.grp g).slots = gr.slots.set i.val {} i.isLt ∧
      (status t).toNat % 256 = 0x80 + 16 * i.val + 0xB ∧ (t.hdr (pGRP g)).busy = true) ∧
    (gr.arms = a :: rest → reason = 0 → Completes (.armAdmission g) s fun t => (t.grp g).arms = rest ∧
      (t.grp g).slots = gr.slots.set a.slot.val { prog with
        st := if a.rep then .repeat else .once, start := s.targetOf a == .start, next := s.targetOf a == .next,
        after := s.targetOf a == .after } a.slot.isLt ∧ (status t).toNat % 256 = 0x80 + 16 * a.slot.val) ∧
    (gr.arms = a :: rest → reason ≠ 0 → Completes (.armAdmission g) s fun t => (t.grp g).arms = rest ∧
      (t.grp g).slots = gr.slots ∧ (status t).toNat % 256 = 0x80 + 16 * a.slot.val + reason ∧
      t.reg (adr pESC 0x0E) = s.reg (adr pESC 0x0E) + 1 ∧ HasEvent pESC 2 t ∧
      (TakesEvent s (selGroup g) →
        EventWritten (selGroup g) 1 (BitVec.ofNat 8 reason) (BitVec.ofNat 32 a.slot.val) s t)) ∧
    (v.getLsbD 0 = true → gr.failed = false →
      exec (.gstopClr g v) s = .next (s.modG g fun gr => { gr with gstop := false }))

/-! ## Kwenlink and the drain (16, 11 R288) -/

/-- The receiver's steps to UP and its loss, which voids every open packet. A packet for another unit goes on with its HOP
stepped, one with HOP 255 is dropped and counted, and so is one of this unit that is no broadcast of it. One for this unit that
passes its checks acts as the command its TYPE stands for, with the fields of its payload, a TYPE for the host adapter does
nothing, only register writes act in BOOT and ENUMERATE, and one that fails a check is counted. Of blocks, START opens a packet,
data blocks fill it and its trailer hands it on whole; PREEMPT suspends a packet, RESUME goes on with it, a PREEMPT over 256
contexts or a RESUME without one is a block error. While the unit forwards, the blocks leave as they come, the header with its
HOP stepped, PREEMPT and RESUME unchanged, and IDLE in place of a removed packet's; ALIGN is for one link. The model's choices:
the port takes packets and blocks only in UP and with the root running (log entry 61), blocks come decoded, data outside a packet
is no part of one, and a START leaves with its header (log entry 116). -/
def Obligations.KwenlinkReceiver : Prop :=
  ∀ (s : State) (p : KlPacket) (w h : BitVec 64) (l : List (BitVec 64)) (c : KlCtx) (cs : List KlCtx),
    let own := s.kl.addr
    let m := s.modes.mode
    let serves := m ≠ .reset ∧ m ≠ .boot ∧ m ≠ .enumerate
    let wrong := p.context ≠ .whole ∨ p.kind = 0 ∨ 9 < p.kind.toNat ∨ 512 < p.len.toNat
    let crcBad := p.len.toNat ≠ p.payload.length ∨ p.crc ≠ klCrc p
    let sound := ¬ wrong ∧ ¬ crcBad
    let x := p.payload.getD 0 0
    let y := p.payload.getD 1 0
    let data := (p.payload.drop 1).flatMap blockBytes
    let noted := s.noteHop p
    let arrives := exec (.klForward (.packet p)) s
    let does (k : Nat) (c : Instr) : Prop := p.kind.toNat = k → arrives = exec c noted
    let rx (r : KlRx) : State := { s with kl := { s.kl with rx := r } }
    let hears := s.kl.rx = .up ∧ s.rootRuns = true
    let block (b : KlBlock) : Host.Outcome State Fault Refusal := exec (.klForward (.block b)) s
    let sends (out : List KlBlock) : List KlBlock := if s.kl.forward then s.kl.blocks ++ out else s.kl.blocks
    let goes (x : KlCtx) (y : List KlCtx) (out : List KlBlock) : Host.Outcome State Fault Refusal :=
      .next { s with kl := { s.kl with ctx := x, susp := y, blocks := sends out } }
    let gone (v : BitVec 64) : Prop := v.extractLsb' 24 8 = 255 ∨ (own ≠ 0xFE ∧
      (v.extractLsb' 48 8 = own ∨ v.extractLsb' 56 8 = own))
    let idle : KlBlock := .control 0x1E
    let isType (v : BitVec 8) : Prop := w.extractLsb' 0 8 = v
    let whole := packetOf .whole h l (w.setWidth 32)
    let missed (b : KlBlock) (t : State) : Prop := SetsReg (adr pKL 0x0F) (s.reg (adr pKL 0x0F) + 1)
      { s with kl := { s.kl with ctx := .voided false, blocks := sends [b] } } t
    (s.kl.rx = .down → exec .klBlockLock s = .next (rx .locked)) ∧
    (s.kl.rx = .locked → exec .klAlignFound s = .next (rx .aligned)) ∧
    (s.kl.rx = .aligned → Completes .klRxUp s fun t => t.kl = { s.kl with rx := .up } ∧ HasEvent pKL 3 t) ∧
    (s.kl.rx ≠ .down → Completes .klRxDown s fun t => t.kl = { s.kl with rx := .down, ctx := .idle, susp := [] } ∧
      HasEvent pKL 2 t ∧ t.reg (adr pKL 0x14) = s.reg (adr pKL 0x14) + 1) ∧
    (hears → own ≠ 0xFE → p.hop ≠ 255 → p.src ≠ own →
      (p.dest ≠ own → p.dest ≠ 0xFF → s.kl.forward = true → p.context = .whole →
        arrives = .next { noted with kl := { noted.kl with tx := s.kl.tx ++ [{ p with hop := p.hop + 1 }] } }) ∧
      (p.dest = own → serves → sound →
        does 1 (.tickMark (x.extractLsb' 0 48)) ∧
        (x.extractLsb' 62 2 = 0 → does 2 (.refill (x.extractLsb' 56 4).toFin p.seq (x.extractLsb' 0 32) data)) ∧
        (x.extractLsb' 62 2 = 1 → does 2 (.residentLoad (x.extractLsb' 56 4).toFin p.seq (x.extractLsb' 0 32) data)) ∧
        (p.resp = false → does 4 (.regw (requestOf p)) ∧ does 5 (.regr (requestOf p))) ∧
        does 6 (.armPacket (x.extractLsb' 0 48) (y.extractLsb' 0 16) (y.extractLsb' 16 2).toFin (y.getLsbD 18)) ∧
        does 7 (.firePacket (x.extractLsb' 0 4)) ∧
        (p.urg = true → does 8 .urgentStop) ∧ (p.urg = false → does 8 (.stop .kwenlink 0)) ∧
        (x.extractLsb' 0 4 = 0 → x.getLsbD 8 = false → does 9 (.creditResult (x.extractLsb' 16 16) (x.extractLsb' 32 32))) ∧
        (x.extractLsb' 0 4 = 0 → x.getLsbD 8 = true → does 9 (.resultNak (x.extractLsb' 16 16) (x.extractLsb' 32 32))) ∧
        (p.kind = 9 → 2 ≤ (x.extractLsb' 0 4).toNat → Completes (.klForward (.packet p)) s
          (SetsReg (adr pKL 0x0F) (s.reg (adr pKL 0x0F) + 1) noted)) ∧
        (p.kind = 3 ∨ (p.resp = true ∧ (p.kind = 4 ∨ p.kind = 5)) ∨ (p.kind = 9 ∧ x.extractLsb' 0 4 = 1) →
          arrives = .next noted)) ∧
      (p.dest = own → m = .boot ∨ m = .enumerate → sound →
        (p.kind ≠ 4 → arrives = .next noted) ∧
        (p.resp = false → s.boot.failed = false → does 4 (.regw (requestOf p)))) ∧
      (p.dest = own → wrong → Completes (.klForward (.packet p)) s (SetsReg (adr pKL 0x0F) (s.reg (adr pKL 0x0F) + 1) noted)) ∧
      (p.dest = own → ¬ wrong → crcBad → Completes (.klForward (.packet p)) s fun t => t.kl = noted.kl ∧ HasEvent pKL 0 t ∧
        t.reg (adr pKL 0x0E) = s.reg (adr pKL 0x0E) + 1)) ∧
    (hears → own ≠ 0xFE → p.hop ≠ 255 → p.src = own → p.context ≠ .blockError →
      (p.dest = 0xFF → arrives = .next noted) ∧
      (p.dest ≠ 0xFF → Completes (.klForward (.packet p)) s (SetsReg (adr pKL 0x12) (s.reg (adr pKL 0x12) + 1) noted))) ∧
    (hears → p.hop = 255 → p.context ≠ .blockError → Completes (.klForward (.packet p)) s
      (SetsReg (adr pKL 0x12) (s.reg (adr pKL 0x12) + 1) noted)) ∧
    (hears →
      (isType 0x1E → block (.control w) = goes s.kl.ctx s.kl.susp [.control w]) ∧
      (isType 0x4B → block (.control w) = .next s) ∧
      (isType 0x33 → s.kl.ctx = .idle → block (.control w) = goes (.filling []) s.kl.susp []) ∧
      (s.kl.ctx = .filling [] →
        (gone w → block (.data w) = goes (.filling [w]) s.kl.susp [idle, idle]) ∧
        (¬ gone w → block (.data w) = goes (.filling [w]) s.kl.susp [.control 0x33, .data (w + 0x1000000)])) ∧
      (s.kl.ctx = .filling (h :: l) → l.length < (h.extractLsb' 32 10).toNat →
        (gone h → block (.data w) = goes (.filling (h :: l ++ [w])) s.kl.susp [idle]) ∧
        (¬ gone h → block (.data w) = goes (.filling (h :: l ++ [w])) s.kl.susp [.data w])) ∧
      (s.kl.ctx = .filling (h :: l) → (h.extractLsb' 32 10).toNat ≤ l.length →
        (let ended (b : KlBlock) : State := { s with kl := { s.kl with ctx := .idle, blocks := sends [b] } }
         (gone h → block (.data w) = .next ((ended idle).packetIn whole)) ∧
         (¬ gone h → block (.data w) = .next ((ended (.data w)).packetIn whole))) ∧ whole.payload = l ∧
        whole.dest = h.extractLsb' 56 8 ∧ whole.src = h.extractLsb' 48 8 ∧ whole.kind = h.extractLsb' 44 4 ∧
        whole.len = h.extractLsb' 32 10 ∧ whole.hop = h.extractLsb' 24 8 ∧ whole.seq = h.extractLsb' 0 16) ∧
      (isType 0x55 → s.kl.susp.length < 256 → block (.control w) = goes .idle (s.kl.ctx :: s.kl.susp) [.control w]) ∧
      (isType 0x66 → s.kl.susp = c :: cs → block (.control w) = goes c cs [.control w]) ∧
      (s.kl.ctx = .idle → ((isType 0x55 ∧ 256 ≤ s.kl.susp.length) ∨ (isType 0x66 ∧ s.kl.susp = [])) →
        Completes (.klForward (.block (.control w))) s (missed (.control w))) ∧
      (s.kl.ctx = .idle → Completes (.klForward (.block .invalid)) s (missed .invalid)))

/-- One packet of the drain takes whole published entries within credit, replay room and budget, and is held for replay. A
RESULT CREDIT frees the packets before ACK_SEQ and sets the limit; NAK and the timeout send what is held again. With the root
lost nothing is sent or received. -/
def Obligations.DrainAndReplay : Prop :=
  ∀ (s : State) (ack : BitVec 16) (limit : Word) (h : Held) (rest : List Held),
    let es := takePacket s.rings.unsent 4096
    let bytes := es.foldl (fun n u => n + 32 * u.slots) 0
    let own := es.foldl (fun n u => if u.tel then n else n + 32 * u.slots) 0
    let free := (ack - h.seq).toNat
    let sends (t : State) (x : Held) : Prop := s.heldPacket x ∈ t.kl.tx ∨ (cRES, s.heldPacket x) ∈ t.kl.wait
    (s.rootRuns = true → s.modes.mode ≠ .mirror → es ≠ [] → s.kl.addr ≠ 0xFE → s.kl.credited bytes = true →
      s.kl.room bytes = true → s.kl.wait = [] → s.fits none 3 2 (own + 24) = true → s.fits none 2 2 (own / 4) = true →
      s.fits none 2 5 ((bytes - own) / 4) = true → (∀ u, u ∈ es → (s.desc u.sel).bad = false) → Completes .drainPacket s fun t =>
      t.kl.nextSeq = s.kl.nextSeq + 1 ∧ t.kl.sent = s.kl.sent + BitVec.ofNat 32 bytes ∧
      t.rings.unsent = s.rings.unsent.filter (fun u => !es.contains u) ∧
      ∃ p, t.kl.tx = s.kl.tx ++ [p] ∧ p.kind = 3 ∧ p.seq = s.kl.nextSeq ∧ p.dest = 0xFE ∧ p.src = s.kl.addr ∧
        ∃ x, t.kl.replay = s.kl.replay ++ [x] ∧ x.seq = s.kl.nextSeq ∧ p.payload = toBlocks x.words) ∧
    (s.rootRuns = true → s.kl.replay = h :: rest → free ≤ rest.length + 1 →
      Completes (.creditResult ack limit) s (fun t => t.kl.limit = limit ∧ t.kl.replay = (h :: rest).drop free ∧
        t.kl.tx = s.kl.tx ∧ t = { s with kl := t.kl }) ∧
      Completes (.resultNak ack limit) s (fun t => t.kl.limit = limit ∧ t.kl.replay = (h :: rest).drop free ∧
        (∀ x, x ∈ (h :: rest).drop free → sends t x) ∧ t.groups = s.groups)) ∧
    (s.rootRuns = true → s.kl.replay = h :: rest → rest.length + 1 < free → Completes (.creditResult ack limit) s fun t =>
      t = { s with kl := { s.kl with limit := limit } }) ∧
    (s.rootRuns = true → Completes .replayTimeout s fun t => t.kl.replay = s.kl.replay ∧ (∀ x, x ∈ s.kl.replay → sends t x) ∧
      t.reg (adr pKL 0x10) = s.reg (adr pKL 0x10) + BitVec.ofNat 32 s.kl.replay.length) ∧
    (s.rootRuns = false → exec .drainPacket s = .next s ∧ exec (.creditResult ack limit) s = .next s ∧
      exec (.resultNak ack limit) s = .next s ∧ exec .replayTimeout s = .next s)

/-- A REGW request is executed once and answered: its reply is kept, and a repeat of its SEQ is answered from what was kept
without executing anything. A REGR request is answered with the values read. A request with wrong fields is answered and
executes nothing; with the root lost none comes. The model's choices: the OP_ERR reply carries no data (log entry 62); a
request behind one under way waits for it (log entry 70). -/
def Obligations.RegisterRequests : Prop :=
  ∀ (s : State) (r : RegRequest) (reply : KlPacket),
    let a := r.addr.toNat
    let answers (t : State) (p : KlPacket) : Prop := p ∈ t.kl.tx ∨ (cHOST, p) ∈ t.kl.wait
    let answer (kind : BitVec 4) (w : Word) (vs : List Word) : KlPacket :=
      mkPacket 0xFE s.kl.addr kind false true r.seq (toBlocks (w :: vs))
    let found := s.kl.cache.find? (fun c => c.1 == r.seq)
    (s.rootRuns = false → exec (.regw r) s = .next s ∧ exec (.regr r) s = .next s) ∧
    (s.rootRuns = true → s.kl.burst ≠ [] ∨ s.kl.due.isSome = true ∨ s.kl.reads.isSome = true →
      exec (.regw r) s = .next { s with kl := { s.kl with reqs := s.kl.reqs ++ [(true, r)] } } ∧
      exec (.regr r) s = .next { s with kl := { s.kl with reqs := s.kl.reqs ++ [(false, r)] } }) ∧
    (s.rootRuns = true → (s.modes.mode = .configure ∨ s.modes.mode = .run) → s.kl.addr ≠ 0xFE → r.broadcast = false →
    s.kl.burst = [] → s.kl.reads = none → s.kl.due = none →
    (found = some (r.seq, reply) → Completes (.regw r) s fun t => answers t (dupReply reply) ∧
      t.kl.cache = s.kl.cache ∧ t = { s with fus := t.fus, kl := t.kl, rf := t.rf } ∧
      t.reg (adr pKL 0x13) = s.reg (adr pKL 0x13) + 1) ∧
    (found = none → RegRequestOk true r = false → Completes (.regw r) s fun t => answers t (answer 4 0x10 []) ∧
      t = { s with fus := t.fus, kl := t.kl, rf := t.rf } ∧ (t.kl.cache.head?).map Prod.fst = some r.seq) ∧
    (found = none → r.command = false → r.reserved = false → r.noInc = true → r.k = 1 → r.len = 1 →
      (State.burstWrite [(a, r.data.getD 0 0)] s).1 = [] → Completes (.regw r) s fun t =>
      let u := s.hostWrite a (r.data.getD 0 0)
      answers t (answer 4 0 []) ∧ t.groups = u.groups ∧ t.stores = u.stores ∧
      t.streams = u.streams ∧ t.lines = u.lines ∧ t.rings = u.rings ∧ t.modes = u.modes ∧ t.clk = u.clk ∧ t.sram = u.sram ∧
      (t.kl.cache.head?).map Prod.fst = some r.seq) ∧
    (r.command = false → r.reserved = false → r.noInc = true → r.k = 1 → r.len = 1 → s.readWaits a = false →
      Completes (.regr r) s fun t =>
      answers t (answer 5 0x01000000 [(s.hostRead a).rf.read]) ∧ t.modes = s.modes ∧ t.streams = s.streams ∧ t.clk = s.clk) ∧
    (RegRequestOk false r = false → Completes (.regr r) s fun t => answers t (answer 5 0x10 []) ∧
      t = { s with fus := t.fus, kl := t.kl, rf := t.rf }))

/-! ## Commands and modes (05 R157, 14, 12 R311, 10 R254, 16 R406 to R408) -/

/-- A command meets the MC at once or waits in its queue of sixteen, oldest first; where sixteen wait it is refused. START, STOP,
RECOVER and FACTORY answer in CMD_STATUS with the first failing check; the others act as their rules say, and an ARM is refused
with the first failing check of R254. The model's choices: a command that has waited is judged as the state stands when the MC
takes it (log entry 87), a second START accepted takes the place of the first (log entry 110), CAL_NOW leaves a halted rotation
halted while EN is 0 and restarts it at its lane (log entry 82), and RESUMEs are held for the tick each is for (log entry 94). -/
def Obligations.Commands : Prop :=
  ∀ (s : State) (f : CommandFrom) (p : BitVec 24),
    let m := s.reg48 (adr pESC 0x0B)
    let answers (t : State) (code reason : Nat) : Prop :=
      t.reg (adr pMODE 0x09) = BitVec.ofNat 32 (65536 * code + 32768 + reason) ∧ (reason ≠ 0 → HasEvent pMODE 2 t)
    let now (c : Nat) : Prop := TakesNow s f c p
    let waits (c : Nat) : State := { s with mc := { s.mc with queue := s.mc.queue ++ [⟨BitVec.ofNat 8 c, p⟩] } }
    let full : State := if f = .msp
      then { s with msp := { s.msp with reply := s.msp.reply.map fun r => { r with status := r.status ||| 0x80 } } } else s
    let all : List (Nat × Instr) := [(1, .start f p), (2, .stop f p), (3, .recover f p), (4, .calNow f p), (6, .arm f p),
      (7, .resume f p), (8, .snapAll f p), (9, .factory f p)]
    let served := s.modes.mode = .configure ∨ s.modes.mode = .run ∨ s.modes.mode = .mirror
    let starts := firstFailing [(1, s.modes.mode == .configure), (3, s.modes.compat), (2, decide (s.esc.frame.toNat + 2 ≤ m.toNat))]
    let recovers := firstFailing [(1, s.modes.mode == .safe),
      (4, s.boot.done && s.kl.addr != 0xFE && !s.modes.pend.getLsbD 5), (5, s.locked), (6, s.causesCleared)]
    let enters := firstFailing [(1, s.modes.mode == .configure), (7, s.modes.fuse), (8, s.tokenOk)]
    let l : LineIx := (p.extractLsb' 0 2).toFin
    let frame := s.reg48 (adr pTRG 0x09)
    let arms := firstFailing [(1, (s.reg (adr pTRG 0x08)).getLsbD 0), (2, s.modes.mode == .configure || s.modes.mode == .run),
      (3, decide (s.esc.frame.toNat + 2 ≤ frame.toNat)), (4, s.lines[l].st == .idle || s.lines[l].st == .triggered)]
    (f ≠ .mcQueue → (f = .kwenlink → s.rootRuns = true) → s.mc.queue ≠ [] ∨ s.mcRuns = false →
      (s.mc.queue.length < 16 → ∀ c ∈ all, exec c.2 s = .next (waits c.1)) ∧
      (16 ≤ s.mc.queue.length → ∀ c ∈ all, exec c.2 s = .next full)) ∧
    (now 1 → Completes (.start f p) s fun t => answers t 1 starts ∧
      (starts = 0 → t.esc = { s.esc with startAt := some m } ∧ t.modes = s.modes) ∧
      (starts ≠ 0 → t.esc = s.esc ∧ t.modes = s.modes) ∧ (starts = 2 → HasEvent pESC 1 t)) ∧
    (now 2 → Completes (.stop f p) s fun t =>
      (s.modes.mode = .run → answers t 2 0 ∧ (s.esc.stopAt = none →
        t.esc = { s.esc with stopAt := some (if s.pastCut then 2 else 1) })) ∧
      (s.modes.mode ≠ .run → answers t 2 1 ∧ t.esc = s.esc)) ∧
    (now 3 → Completes (.recover f p) s fun t => answers t 3 recovers ∧
      (recovers = 0 → t.modes = { s.modes with recover := true } ∧ (s.clk.domRco = true → t.clk.target = some false)) ∧
      (recovers ≠ 0 → t.modes = s.modes ∧ t.clk = s.clk)) ∧
    (now 9 → Completes (.factory f p) s fun t => answers t 9 enters ∧
      (enters = 0 → t.modes.factory = true ∧ t.modes.perm = (s.tokWord 4).setWidth 4) ∧
      (enters ≠ 0 → t.modes.factory = s.modes.factory) ∧
      t.modes.nonce = Config.nonce s.draws ∧ t.modes.mode = s.modes.mode) ∧
    (now 4 → served → Completes (.calNow f p) s fun t => t = { s.taking 4 p with groups := t.groups } ∧ ∀ g,
      ((t.grp g).fpDue = if p.getLsbD 1 then 0xFFFF else (s.grp g).fpDue) ∧
      ((s.grp g).tb.st ≠ .halted ∨ p.getLsbD 0 = false ∨ s.tbOn = false → (t.grp g).tb = (s.grp g).tb) ∧
      ((s.grp g).tb.st = .halted → p.getLsbD 0 = true → s.tbOn = true → (t.grp g).tb.st = .shadow)) ∧
    (now 4 → ¬ served → Completes (.calNow f p) s fun t => HasEvent pMODE 2 t ∧ t.groups = s.groups) ∧
    (now 7 → s.modes.mode = .run → exec (.resume f p) s = .next ((s.taking 7 p).modSt (laneOf p.toNat) fun x =>
      { x with resumes := x.resumes ++ [if s.pastCut then 1 else 0] })) ∧
    (now 7 → s.modes.mode ≠ .run → Completes (.resume f p) s fun t => HasEvent pMODE 2 t ∧ t.streams = s.streams) ∧
    (now 8 → served → Completes (.snapAll f p) s fun t => t = { s.taking 8 p with rf := t.rf } ∧ t.rf.live = s.rf.live ∧
      ∀ page b o, pageBase page = some b → o ∈ snOffsets b → t.heldReg (adr page o) = (s.taking 8 p).live page o ∧
        (t.hdr page).snaps = (s.hdr page).snaps + 1) ∧
    (now 6 → p.getLsbD 2 = true → Completes (.arm f p) s fun t =>
      (t.lines[l]).st = .idle ∧ t.reg (adr pTRG 0x0D) = BitVec.ofNat 32 (128 + 16 * l.val)) ∧
    (now 6 → p.getLsbD 2 = false → arms = 0 → Completes (.arm f p) s fun t =>
      (t.lines[l]).st = .armed ∧ (t.lines[l]).f = frame ∧
      t.reg (adr pTRG 0x0D) = BitVec.ofNat 32 (128 + 16 * l.val)) ∧
    (now 6 → p.getLsbD 2 = false → arms ≠ 0 → Completes (.arm f p) s fun t =>
      t.lines = s.lines ∧ HasEvent pTRG 4 t ∧ t.reg (adr pTRG 0x0D) = BitVec.ofNat 32 (128 + 16 * l.val + arms))

/-- ENUM_ASSIGN gives the unit its address where ENUM_IN is high, ENUM_OUT rises after it, and follows ENUM_IN in a halted
BOOT; an urgent STOP takes a unit in service, in a mode it did not enter in this very cycle, to SAFE with every channel's
stage and driver off. In SAFE and FACTORY the mode stays and the channels are disconnected all the same. With the root lost
Kwenlink brings nothing. The model's choices: when an assignment acts and when ENUM_OUT rises (log entry 25). -/
def Obligations.CrownAndUrgentStop : Prop :=
  ∀ (s : State) (w : Word) (f : CommandFrom),
    let off (h : GroupIx) (t : State) : Prop := (s.grp h).failed = false → QuadsQuiet s h → ∀ l,
      (t.chan h l).fe.stage.st = .hiz ∧ DriverStopped (s.chan h l).fe (t.chan h l).fe
    (s.modes.mode = .enumerate → s.kl.addr = 0xFE → s.kl.enumIn = true → w.toNat ≤ 0xFD → f ≠ .mcQueue →
      (f = .kwenlink → s.rootRuns = true) →
      Completes (.enumAssign f w) s fun t => t.kl.addr = w.setWidth 8 ∧ t.kl.enumDue = true ∧
      t.modes = { s.modes with assigned := true } ∧ t.msp.ucSync = false ∧ t.msp.bcSync = false ∧ HasEvent pKL 5 t) ∧
    (s.kl.enumIn = false → f ≠ .mcQueue → exec (.enumAssign f w) s = .next s) ∧
    exec .enumInRise s = .next { s with kl := { s.kl with enumIn := true } } ∧
    exec .enumInFall s = .next { s with kl := { s.kl with enumIn := false } } ∧
    (s.kl.enumDue = true → exec .enumOutRaise s = .next { s with kl := { s.kl with enumDue := false, enumOut := true } }) ∧
    (s.modes.mode = .boot → s.boot.failed = true →
      exec .enumOutFollow s = .next { s with kl := { s.kl with enumOut := s.kl.enumIn } }) ∧
    (s.rootRuns = false → exec (.enumAssign .kwenlink w) s = .next s ∧ exec .urgentStop s = .next s) ∧
    (s.rootRuns = true → s.modes.mode = .configure ∨ s.modes.mode = .run ∨ s.modes.mode = .mirror →
      s.modes.entryAt ≠ some s.rootNow → Completes .urgentStop s fun t =>
      t.modes.mode = .safe ∧ t.modes.prev = s.modes.mode ∧ t.modes.pend.getLsbD 1 = true ∧ HasEvent pMODE 1 t ∧
      (∀ g, (t.grp g).eng.running = false ∧ ∀ i : Fin 8, (t.grp g).slots[i] = {}) ∧
      (∀ g, off g t) ∧
      (∀ l : LineIx, (t.lines[l]).st = .idle) ∧ t.esc.startAt = none ∧ t.esc.stopAt = none) ∧
    (s.rootRuns = true → s.modes.mode = .safe → Completes .urgentStop s fun t => t.modes.mode = .safe ∧
      t.modes.prev = s.modes.prev ∧ t.modes.pend = (s.modes.pend ||| 2) ∧ ∀ g, off g t) ∧
    (s.rootRuns = true → s.modes.mode = .factory → s.modes.entryAt ≠ some s.rootNow → Completes .urgentStop s fun t =>
      t.modes = s.modes ∧ ∀ g, off g t) ∧
    (s.modes.mode = .reset ∨ s.modes.mode = .boot ∨ s.modes.mode = .enumerate → exec .urgentStop s = .next s)

/-- The mode changes that wait for a tick: RUN on the START frame, CONFIGURE by STOP, by RECOVER once the domains are on the
root, and after an assignment, FACTORY after its token; the entry to CONFIGURE turns stages and drivers off, then moves each
relay to its record's value, one to be closed on its next beam, then applies the power-up values, but not where another unit
may drive the node. With the root lost no entry comes. The model's choice: the entry to FACTORY empties the slots (log entry
22). -/
def Obligations.ModeEntries : Prop :=
  ∀ (s : State) (g : GroupIx) (l : LaneIx),
    let enters (m : Mode) (t : State) : Prop := t.modes.mode = m ∧ t.modes.prev = s.modes.mode ∧
      t.modes.entry = s.esc.frame ∧ HasEvent pMODE 0 t
    let fe := (s.chan g l).fe
    let r := fe.relay
    let after (t : State) : Relay := (t.chan g l).fe.relay
    let takesPart := s.entryChan g l = true
    let off (t : State) : Prop := ∀ h n, s.entryChan h n = true →
      (t.chan h n).fe.stage.st = .hiz ∧ DriverStopped (s.chan h n).fe (t.chan h n).fe
    (s.rootRuns = false → exec .runEntry s = .next s ∧ exec .configureEntry s = .next s ∧ exec .factoryEntry s = .next s) ∧
    (s.rootRuns = true → s.modes.mode = .configure → s.esc.startAt = some s.esc.frame →
      Completes .runEntry s fun t => enters .run t ∧
      t.esc = { s.esc with startAt := none } ∧ t.groups = s.groups) ∧
    (s.rootRuns = true → s.modes.mode = .run → s.esc.stopAt = some 0 →
      Completes .configureEntry s fun t => enters .configure t ∧ off t ∧
      t.modes.cfg = .relays ∧ t.modes.flush = true ∧ t.esc.stopAt = none ∧ (∀ h, (t.grp h).eng.running = false) ∧
      ∀ k : LineIx, (t.lines[k]).st = .idle) ∧
    (s.modes.mode = .safe → s.modes.recover = true → s.clk.domRco = false → s.rootRuns = true →
      Completes .configureEntry s fun t => enters .configure t ∧ off t ∧ t.modes.cfg = .relays ∧ t.modes.pend = 0 ∧
      t.modes.recover = false) ∧
    (s.rootRuns = true → s.modes.mode = .enumerate → s.modes.assigned = true →
      Completes .configureEntry s fun t => enters .configure t ∧
      t.modes.cfg = .powerup ∧ t.modes.assigned = false) ∧
    (s.modes.mode = .configure → s.modes.cfg = .relays → Completes .configureRelayStep s fun t =>
      t.modes = { s.modes with cfg := .values } ∧
      (takesPart → recRelay fe.puRec = false → after t = { r with st := if r.st = .opened then .opened else .opening }) ∧
      (takesPart → recRelay fe.puRec = true →
        (r.st = .closed ∨ r.st = .closing → after t = r) ∧
        (r.st = .opened ∨ r.st = .opening →
          (s.nextBeam g l = none → after t = r) ∧
          (∀ b, s.nextBeam g l = some b → (after t).st = .closing ∧ (after t).beamB = b)))) ∧
    (s.modes.mode = .configure → s.modes.cfg = .values → Completes .configureValuesStep s fun t =>
      t = { s with modes := { s.modes with cfg := .idle }, groups := t.groups } ∧ (s.drives = false → t.groups = s.groups) ∧
      (s.drives = true → takesPart →
        (t.chan g l).fe = fe.applyRecord s.rootNow true (s.ganged g l) (s.chan g (s.leader g l)).fe.puRec)) ∧
    (s.modes.mode = .configure → s.modes.cfg = .powerup → Completes .powerupValuesApply s fun t =>
      t = { s with modes := { s.modes with cfg := .idle }, groups := t.groups } ∧ (s.drives = false → t.groups = s.groups) ∧
      (s.drives = true → takesPart →
        (t.chan g l).fe = fe.applyRecord s.rootNow true (s.ganged g l) (s.chan g (s.leader g l)).fe.puRec)) ∧
    (s.rootRuns = true → s.modes.mode = .configure → s.modes.factory = true → s.esc.startAt ≠ some s.esc.frame →
      Completes .factoryEntry s fun t => enters .factory t ∧
      t.modes.factory = false ∧ t.esc.startAt = none ∧ ∀ h (i : Fin 8), (t.grp h).slots[i] = {})

/-! ## Management port (15) -/

/-- A frame for this unit that passes the six checks of R368, on a port that holds no reply, has the effect of its opcode and
leaves the reply of R371, which waits for a descriptor write that its words left waiting; one with a wrong CRC or alive
counter is rejected with its bit and changes nothing else. A raw frame of a counted run fills the empty mailbox and counts as
accepted. A frame that comes within 2 µs of an arbitration is ignored, and nothing is driven after it. The model's choices:
how a frame's unused fields are judged (log entry 42), and that its opcode decides, whichever row brings it (log entry 71;
charges of log entry 40). -/
def Obligations.ManagementPortFrames : Prop :=
  ∀ (s : State) (f : MspFrame) (quiet : Bool) (bits : Nat) (bytes : List Byte),
    let a := f.reg.toNat
    let w := f.payload.getD 0 0
    let n := f.len.toNat
    let serves := (s.modes.mode = .configure ∨ s.modes.mode = .run ∨ s.modes.mode = .safe) ∧ s.clk.gated = false ∧
      s.msp.mastering = false ∧ s.msp.quiet = true ∧ s.msp.burst = []
    let mine := f.addr = s.kl.addr ∧ f.addr ≠ 0xFE ∧ f.addr ≠ 0xFF
    let formed := n ≤ 128 ∧ f.bits = 32 * (3 + n) ∧ f.payload.length = n
    let alive := s.msp.ucSync = false ∨ s.msp.uc = f.alive
    let plain := f.reserved = 0 ∧ f.low = 0
    let reached : State := { s.bump (adr pMSP 0x0E) with msp := { s.msp with
      quiet := true, out := [], drive := true, uc := f.alive + 1, ucSync := true } }
    let replied (t : State) (wrap : Bool) (todo : List Nat) : State := State.replyGo { t with msp := { t.msp with
      reply := some { opAlive := f.op ++ f.alive, status := if wrap then 0x40 else 0, payload := [], todo := todo } } }
    let held (t : State) : State := { t with msp := { t.msp with
      reply := t.msp.reply.map fun r => { r with desc := t.descWaits && !s.descWaits } } }
    let ws := (List.range n).map fun i => (burstAdr a f.noInc i, f.payload.getD i 0)
    let silent : State := { s with msp := { s.msp with drive := false, out := [] } }
    (serves → s.msp.raw = 0 → s.msp.reply = none → mine → formed → f.crc = frameCrc f → alive → plain →
      (f.op = 1 → 1 ≤ n → exec (.mspWrite f) s = .next (held (replied (reached.hostWrite a w) false []))) ∧
      (f.op = 2 → 1 ≤ n → w = 0 → exec (.mspRead f) s = .next (replied reached false [a])) ∧
      (f.op = 4 → 1 ≤ n → 1 ≤ w.toNat → w.toNat ≤ 128 → exec (.mspBurstRead f) s =
        .next (replied reached (burstWraps a f.noInc w.toNat) (burstAdrs a f.noInc w.toNat))) ∧
      (f.op = 5 → 1 ≤ n → exec (.mspBurstWrite f) s =
        .next (held (replied (State.burstGo ws reached) (burstWraps a f.noInc n) []))) ∧
      (f.op = 0xF → exec (.mspNop f) s = .next (replied reached false []))) ∧
    (serves → s.msp.raw = 0 → s.msp.reply = none → mine → formed → f.crc ≠ frameCrc f →
      Completes (.mspWrite f) s fun t => t = { s with msp := t.msp, rf := t.rf } ∧ t.msp.rejects.getLsbD 0 = true ∧
      t.msp.reply = none ∧ t.msp.uc = s.msp.uc ∧ t.reg (adr pMSP 0x0F) = s.reg (adr pMSP 0x0F) + 1 ∧
      t.reg (adr pMSP 0x10) = s.reg (adr pMSP 0x10) + 1) ∧
    (serves → s.msp.raw = 0 → s.msp.reply = none → mine → formed → f.crc = frameCrc f → ¬ alive →
      Completes (.mspWrite f) s fun t => t = { s with msp := t.msp, rf := t.rf } ∧ t.msp.rejects.getLsbD 1 = true ∧
      t.msp.reply = none ∧ t.msp.uc = f.alive + 1 ∧ t.msp.ucSync = false) ∧
    (serves → s.msp.reply = none → s.msp.raw ≠ 0 → bits % s.wordSize = 0 → bits = s.regF (adr pMSP 0x0A) 0 14 →
      (s.msp.mbox = none → Completes (.rawFrame ⟨quiet, bits⟩ bytes) s fun t => t = { s with msp := t.msp, rf := t.rf } ∧
        t.msp.mbox = some (bits, bytes) ∧ t.msp.raw = s.msp.raw - 1 ∧ t.reg (adr pMSP 0x0E) = s.reg (adr pMSP 0x0E) + 1) ∧
      (s.msp.mbox ≠ none → Completes (.rawFrame ⟨quiet, bits⟩ bytes) s fun t => t.msp.mbox = s.msp.mbox ∧
        t.msp.rejects.getLsbD 8 = true ∧ HasEvent pMSP 2 t)) ∧
    (s.msp.quiet = false → exec (.rawFrame ⟨false, bits⟩ bytes) s = .next silent ∧
      (f.quiet = false → exec (.mspWrite f) s = .next silent ∧ exec (.mspNop f) s = .next silent))

/-! ## Pair (17) -/

/-- Heartbeats, the wires and the link as the pair block takes them; EN and RELEASE; a takeover from the last snapshot enters
RUN with OWN_OUT asserted and completes with its event. The model's choices: with the root lost heartbeats and snapshots do
nothing (log entry 8), nor without EN (log entry 27). -/
def Obligations.PairOperation : Prop :=
  ∀ (s : State) (h : Heartbeat) (n : Snapshot) (high : Bool) (v : Word),
    let p := s.pair
    let outputsOff (t : State) : Prop := ∀ g l, (t.chan g l).fe.stage.st = .hiz ∧
      DriverStopped (s.chan g l).fe (t.chan g l).fe
    (p.en = true → s.rootRuns = true → h.valid = true → Completes (.heartbeatReceive h) s fun t => t.pair.partner = some h ∧
      t.pair.hbSeen = true ∧ t.reg (adr pPAIR 0x0B) = h.imgVer ++ h.vrVer ∧
      (h.frame = s.esc.frame → t.pair.miss = 0 ∧ t.pair.hbNow = true ∧ t.pair.stuck = false) ∧
      (h.frame ≠ s.esc.frame → t.pair.miss = p.miss ∧ t.pair.badFrame = true) ∧ t.groups = s.groups) ∧
    (s.rootRuns = false → exec (.heartbeatReceive h) s = .next s ∧ exec (.snapshotReceive n) s = .next s) ∧
    (p.en = true → s.rootRuns = true → h.valid = false → Completes (.heartbeatReceive h) s
      (SetsReg (adr pPAIR 0x13) (s.reg (adr pPAIR 0x13) + 1) s)) ∧
    (p.en = true → s.rootRuns = true → p.ownOut = false → n.valid = true → n.bad = 0 → p.reason ≠ 2 → p.reason ≠ 4 →
      s.modes.mode ≠ .mirror → Completes (.snapshotReceive n) s fun t => t.pair.snap = some n ∧ t.pair.gotSnap = true ∧
      t.reg (adr pPAIR 0x10) = n.seq ∧ t.groups = s.groups) ∧
    (p.en = true → s.rootRuns = true → p.ownOut = false → n.valid = false ∨ n.bad ≠ 0 →
      Completes (.snapshotReceive n) s fun t => t.pair.snap = p.snap ∧ t.pair.okRun = 0 ∧
      t.reg (adr pPAIR 0x12) = s.reg (adr pPAIR 0x12) + 1 ∧ HasEvent pPAIR 5 t) ∧
    (p.ownIn ≠ high → exec (.ownInChange high) s =
      .next { s with pair := { p with ownIn := high, ownLow := 0, ownHigh := 0 } }) ∧
    Completes .pairLinkUp s (fun t => t.pair.linkUp = true ∧ t.groups = s.groups) ∧
    Completes .pairLinkDown s (fun t => t.pair.linkUp = false ∧ t.groups = s.groups ∧
      (p.en = true → t.pair.reason = 1 ∧ (p.reason = 0 → HasEvent pPAIR 3 t))) ∧
    (s.modes.mode = .configure → v.getLsbD 0 ≠ p.en → v.getLsbD 1 = false → Completes (.pairEnWrite v) s fun t =>
      t.pair.en = v.getLsbD 0 ∧ t.pair.ownOut = false ∧ (v.getLsbD 0 = true → outputsOff t)) ∧
    (s.modes.mode ≠ .configure → v.getLsbD 0 ≠ p.en → v.getLsbD 1 = false →
      Completes (.pairEnWrite v) s (RefusedAt pPAIR s)) ∧
    (p.en = true → p.ownOut = true → s.modes.mode = .configure ∨ s.modes.mode = .safe →
      exec .release s = .next { s with pair := { p with relPend := true } }) ∧
    (p.en = false ∨ p.ownOut = false → Completes .release s (RefusedAt pPAIR s)) ∧
    (p.relPend = true → Completes .releaseEffect s fun t => outputsOff t ∧ t.pair = { p with
      relPend := false, ownOut := false, hbStop := true, released := true, ownHigh := 0, hbOut := none }) ∧
    (p.en = true → s.modes.mode = .mirror → 3 ≤ p.miss → p.ownIn = false → 3 ≤ p.ownLow → s.lockWindow = true →
      p.snap = some n → Completes .takeover s fun t => t.modes.mode = .run ∧ t.modes.prev = .mirror ∧ t.pair.ownOut = true ∧
      t.pair.takeAt = some s.esc.frame ∧ t.esc.startAt = none) ∧
    (p.takeAt ≠ none → Completes .takeoverComplete s fun t => t.pair = { p with takeAt := none } ∧
      HasEvent pPAIR 1 t ∧ t.reg (adr pPAIR 0x14) = s.reg (adr pPAIR 0x14) + 1) ∧
    (p.en = true → p.ownOut = true → p.ownIn = true → Completes .ownConflict s fun t => HasEvent pPAIR 4 t ∧
      (p.id = true → t.pair.ownOut = false))

/-! ## Faults and thermal (18) -/

/-- A message, sent or injected, of severity 1 or more enters the log with the next number, the first one is latched, and one
of 2 or more starts the FAULT_n pulse; with severity 3 its groups stop, with 4 the unit enters SAFE from a mode it did not
enter in this very cycle. A kind with an action of its own takes it whatever the severity, unless its block has. FIRST_CLR
clears the latch only with the newest number; injection needs FACTORY and its permission. -/
def Obligations.FaultCollector : Prop :=
  ∀ (s : State) (m : Msg) (src c : Nat) (v : Word),
    let next := nextLogSeq s.flt.logSeq
    let sev := s.severity m
    let valid (t : State) : Bool := (t.flt.first.getD 1 0).getLsbD 31
    let comes := s.clk.gated = false ∧ ((s.flt.queues = [(src, [m])] ∧ s.flt.injected = []) ∨
      (s.flt.queues = [] ∧ s.flt.injected = [m]))
    let plain := m.acted = true ∨ (stopsGroup m.kind = false ∧ m.kind ≠ kOWN_CONFLICT ∧ s.fixedCause m.kind = none)
    let unit := s.modes.mode = .configure ∨ s.modes.mode = .run ∨ s.modes.mode = .mirror
    let settled := s.modes.entryAt ≠ some s.rootNow
    let safe (t : State) (k : Nat) : Prop := t.modes.mode = .safe ∧ t.modes.prev = s.modes.mode ∧
      t.modes.pend.getLsbD (k - 1) = true
    (comes → plain → 1 ≤ sev → sev ≤ 2 →
      Completes .faultMessage s fun t => t.flt.queues = [] ∧ t.flt.injected = [] ∧ t.flt.logSeq = next ∧
      (let e := tget ([0, 0, 0, 0] : List Word) t.flt.log (next.toNat % 256)
       e.getD 0 0 = m.word ∧ (e.getD 2 0).getLsbD 31 = m.inj) ∧ valid t = true ∧
      (valid s = false → t.flt.first.getD 0 0 = m.word ∧ HasEvent pFLT 1 t) ∧ (valid s = true → t.flt.first = s.flt.first) ∧
      (t.flt.pulse = true ↔ s.flt.pulse = true ∨ sev = 2) ∧ t.groups = s.groups ∧
      t.modes = { s.modes with causeOpen := false }) ∧
    (comes → plain → sev = 0 → Completes .faultMessage s fun t =>
      t = { s with flt := { s.flt with queues := [], injected := [] }, modes := { s.modes with causeOpen := false } }) ∧
    (comes → plain → sev = 3 → stopsGroup m.kind = false → Completes .faultMessage s fun t => t.flt.logSeq = next ∧
      ∀ g, g ∈ s.msgGroups m → Stopped t g) ∧
    (comes → plain → sev = 4 → s.fixedCause m.kind = none → unit → settled →
      Completes .faultMessage s fun t => t.flt.logSeq = next ∧
      safe t causeFAULT) ∧
    (comes → m.acted = false → stopsGroup m.kind = true → sev ≤ 2 → Completes .faultMessage s fun t =>
      ∀ g, g ∈ s.msgGroups m → Stopped t g) ∧
    (comes → m.acted = false → s.fixedCause m.kind = some c → unit → settled → Completes .faultMessage s fun t => safe t c) ∧
    (s.clk.gated = false → exec .faultPulseEnd s = .next { s with flt := { s.flt with pulse := false } }) ∧
    Completes (.faultPinAssert v) s (SetsReg (adr pFLT 0x20) (v &&& 1) s) ∧
    (v.extractLsb' 0 31 = s.flt.logSeq → Completes (.firstClr v) s fun t => valid t = false ∧
      t.flt = { s.flt with first := t.flt.first } ∧ (t.hdr pFLT).stale = false) ∧
    (v.extractLsb' 0 31 ≠ s.flt.logSeq → Completes (.firstClr v) s
      (SetsHdr pFLT (fun h => { h with stale := true }) s)) ∧
    (s.modes.mode = .factory → s.modes.perm.getLsbD 0 = true → Completes (.injMsg v) s fun t => HasEvent pFLT 4 t ∧
      t = { s with flt := { s.flt with injected := s.flt.injected ++ [{ word := v, inj := true }] }, rf := t.rf }) ∧
    (s.modes.mode = .factory → s.modes.perm.getLsbD 0 = true →
      Completes (.injMem v) s (SetsReg (adr pFLT 0x22) (v &&& 0xFFF3) s)) ∧
    (s.modes.mode ≠ .factory → Completes (.injMsg v) s (RefusedAt pFLT s) ∧ Completes (.injMem v) s (RefusedAt pFLT s))

/-- With a clock, a reading that is good becomes the sensor's value, and one that is not fails the sensor; the step timer
raises or lowers the throttle step with the hottest sensor; the grace ends with step 1; without a clock none of them acts. A
limit is taken only in the order of R446, and stays out of force until the next reading. The model's choices: how the time of
ENF_MS is kept (log entry 56). -/
def Obligations.ThermalManagement : Prop :=
  ∀ (s : State) (i : Fin 5) (x : BitVec 16) (ok : Bool) (o : Fin 6) (v : Word),
    let y := s.thm.sensors[i]
    let hot := s.thmLimit 1 ≤ s.thm.top
    let cool := s.thm.top < s.thmLimit 1 - s.thmLimit 5
    let live := s.clk.gated = false ∧ s.thm.enforced = true ∧ s.thm.maxlock = []
    let set := s.setReg (adr pTHM (0x10 + o.val)) (v &&& 0xFFFF)
    let now := s.rootNow
    (s.clk.gated = false → y.failed = false → outOfRange x.toInt = false →
      (y.seen = true → (x.toInt - y.lastGood.toInt).natAbs ≤ 2000) →
      Completes (.sensorReading i x true) s fun t => (t.thm.sensors[i]).value = x ∧ (t.thm.sensors[i]).failed = false ∧
      (∀ k : Fin 5, k ≠ i → (t.thm.sensors[k]).value = (s.thm.sensors[k]).value) ∧
      t.reg (adr pTHM 0x19) = s.reg (adr pTHM 0x19) + 1) ∧
    (s.clk.gated = false → y.failed = false → Completes (.sensorReading i x false) s fun t => (t.thm.sensors[i]).failed = true ∧
      HasEvent pTHM 6 t) ∧
    (s.clk.gated = false → s.thm.req = true → s.thm.grace = true → s.thm.maxlock = [] → Completes .graceEnd s fun t =>
      t.thm = { s.thm with grace := false, step := 1, enforced := true, enfFrom := if s.thm.enforced then s.thm.enfFrom else now } ∧
      HasEvent pTHM 2 t) ∧
    (live → hot → Completes .stepIntTimer s fun t =>
      t.thm = { s.thm with step := if s.thm.step = 7 then 7 else s.thm.step + 1 }) ∧
    (live → cool → ¬ hot → 2 ≤ s.thm.step.toNat → Completes .stepIntTimer s fun t =>
      t.thm = { s.thm with step := s.thm.step - 1, enforced := true, req := true }) ∧
    (live → cool → ¬ hot → s.thm.step.toNat ≤ 1 → Completes .stepIntTimer s fun t => t.thm = { s.thm with
      step := 0, enforced := false, req := false, enfRoot := s.thm.enfRoot + (now - s.thm.enfFrom) }) ∧
    (s.clk.gated = true → exec (.sensorReading i x ok) s = .next s ∧ exec .graceEnd s = .next s ∧
      exec .stepIntTimer s = .next s) ∧
    (set.limitsOrdered = true → Completes (.thmLimitWrite o v) s fun t =>
      SetsReg (adr pTHM (0x10 + o.val)) (v &&& 0xFFFF) { s with thm := t.thm } t ∧
      t.thm = { s.thm with limWas := t.thm.limWas } ∧ ∀ k : Fin 6, t.thmLimit k = s.thmLimit k) ∧
    (set.limitsOrdered = false → Completes (.thmLimitWrite o v) s (RefusedAt pTHM s))

/-! ## Registers (19, 20) -/

/-- A read of an indirect data register returns the word at its address register and steps the address within its space, a
wrap shown in STATUS; nothing else changes. The first word of a ring's descriptor waits for its share of the main store. While
a posted write is under way on its page it waits: the row does nothing. The model's choices: a read row does nothing while
BUSY stands (log entry 115); the host's reads return stored bits whatever their parity (log entry 35). -/
def Obligations.IndirectReads : Prop :=
  ∀ (s : State) (g : GroupIx),
    let returns (p o size : Nat) (v : Word) (t : State) : Prop :=
      let x := s.reg (adr p o)
      t = { s with rf := t.rf } ∧ t.rf.read = v ∧ (∀ b, b ≠ adr p o → t.reg b = s.reg b) ∧
      t.reg (adr p o) = (if x.toNat + 1 < size then x + 1 else 0) ∧ (size ≤ x.toNat + 1 → (t.hdr p).wrap = true)
    let uc := s.regF (adr (pGRP g) 0x30) 0 15
    let busy (p : Nat) (i : Instr) : Prop := s.busy p = true → exec i s = .next s
    let free (p : Nat) : Prop := s.busy p = false
    (free (pGRP g) → Completes (.cpmDataRead g) s
      (returns (pGRP g) 0x10 1024 (s.cpmNow g (s.regF (adr (pGRP g) 0x10) 0 10)))) ∧
    (free (pGRP g) → Completes (.tblDataRead g) s
      (returns (pGRP g) 0x3A 4096 (s.tblHost g (s.regF (adr (pGRP g) 0x3A) 0 12)))) ∧
    (free (pGRP g) → uc % 8 < 6 → Completes (.ucDataRead g) s fun t => t = { s with rf := t.rf } ∧
      t.rf.read = (s.uc g (uc / 8)).extractLsb' (32 * (uc % 8)) 32 ∧ t.reg (adr (pGRP g) 0x30) = BitVec.ofNat 32
        (if uc % 8 < 5 then uc + 1 else if uc / 8 = 0xFFF then 0 else 8 * (uc / 8 + 1))) ∧
    (free (pACQ g) → Completes (.maskDataRead g) s
      (returns (pACQ g) 0x0F 128 (s.maskW g (s.regF (adr (pACQ g) 0x0F) 0 7)))) ∧
    (free pRING → Completes .fmtDataRead s (returns pRING 0x13 64 (s.fmtWord (s.regF (adr pRING 0x13) 0 6)))) ∧
    (free pFLT → Completes .sevDataRead s (returns pFLT 0x15 128 (s.sevWord (s.regF (adr pFLT 0x15) 0 7)))) ∧
    (free pNVM → Completes .nvmDataRead s (returns pNVM 0x08 32768 (tget 0 s.nvm.a (s.regF (adr pNVM 0x08) 0 15)))) ∧
    (free pMODE → (s.reg (adr pMODE 0x0E)).toNat < 22 → Completes .tokDataRead s
      (returns pMODE 0x0E 22 (s.tokWord (s.reg (adr pMODE 0x0E)).toNat))) ∧
    (free pRING → Completes .descStepRead s (returns pRING 0x08 262216
      (if (s.reg (adr pRING 0x08)).toNat < 262216 then s.rings.loaded.getD 3 0 else 0))) ∧
    busy (pGRP g) (.cpmDataRead g) ∧ busy (pGRP g) (.tblDataRead g) ∧ busy (pGRP g) (.ucDataRead g) ∧
    busy (pACQ g) (.maskDataRead g) ∧ busy pRING .fmtDataRead ∧ busy pFLT .sevDataRead ∧ busy pNVM .nvmDataRead ∧
    busy pMODE .tokDataRead ∧ busy pRING .descStepRead ∧ busy pRING .descLoad ∧
    Completes .logStepRead s (returns pFLT 0x0E 256 (s.flt.loaded.getD 3 0)) ∧
    Completes .logLoad s (fun t => t.rf.live = s.rf.live ∧
      t.flt = { s.flt with loaded := tget [0, 0, 0, 0] s.flt.log (s.regF (adr pFLT 0x0E) 0 8) } ∧
      t.rf.read = t.flt.loaded.getD 0 0) ∧
    (free pRING → (s.reg (adr pRING 0x08)).toNat < 262216 → s.rings.waits = [] → s.rings.pending = none →
      0x40000 ≤ (s.reg (adr pRING 0x08)).toNat ∨ s.fits none 2 cHOST 4 = true → Completes .descLoad s fun t =>
      t.rings = { s.rings with loaded := (s.desc (s.reg (adr pRING 0x08)).toNat).words } ∧
      t.rf.read = t.rings.loaded.getD 0 0) ∧
    (free pRING → (s.reg (adr pRING 0x08)).toNat < 0x40000 → s.fits none 2 cHOST 4 = false → Completes .descLoad s fun t =>
      t.rings = { s.rings with waits := s.rings.waits ++ [.load (s.reg (adr pRING 0x08)).toNat] } ∧ t.rf.read = s.rf.read)

/-- A posted write that meets BUSY is dropped; else it reaches the word at its address register, and no other, and sets BUSY;
one that its rule refuses writes nothing, and sets ERR when its BUSY clears. A microword keeps its other parts and has right
parity. -/
def Obligations.PostedWrites : Prop :=
  ∀ (s : State) (g : GroupIx) (v : Word) (k : Fin 8),
    let quiet := (s.reg (adr pFLT 0x22)).getLsbD 0 = false
    let cpm := s.regF (adr (pGRP g) 0x10) 0 10
    let tbl := s.regF (adr (pGRP g) 0x3A) 0 12
    let uc := s.regF (adr (pGRP g) 0x30) 0 15
    let mask := s.regF (adr (pACQ g) 0x0F) 0 7
    let fmt := s.regF (adr pRING 0x13) 0 6
    let nvm := s.regF (adr pNVM 0x08) 0 15
    let posted (p : Nat) (t : State) : Prop := (t.hdr p).busy = true ∧ (t.hdr p).err = (s.hdr p).err ∧
      (t.hdr p).refused = (s.hdr p).refused
    let refused (p : Nat) (t : State) : Prop := (t.hdr p).busy = true ∧ (t.hdr p).err = (s.hdr p).err ∧
      (t.hdr p).refused = true ∧ ((t.unpost p).hdr p).busy = false ∧ ((t.unpost p).hdr p).err = true
    (s.busy (pGRP g) = true → Completes (.cpmDataWrite g v) s (DroppedAt (pGRP g) s) ∧
      Completes (.tblDataWrite g v) s (DroppedAt (pGRP g) s) ∧ Completes (.ucDataWrite g v) s (DroppedAt (pGRP g) s)) ∧
    (s.busy (pGRP g) = false →
      Completes (.cpmDataWrite g v) s (fun t => posted (pGRP g) t ∧
        t.cpmNow g cpm = v &&& cpmFields (cpm % 64) ∧ (∀ n, n ≠ cpm → t.cpmNow g n = s.cpmNow g n) ∧
        (∀ n, t.cpm g n = s.cpm g n) ∧ ∀ h, h ≠ g → t.stores[h] = s.stores[h]) ∧
      (tblWritable tbl = true → Completes (.tblDataWrite g v) s fun t => posted (pGRP g) t ∧
        t.tblNow g tbl = v &&& tblFields (tbl % 1024) ∧ (∀ n, n ≠ tbl → t.tblNow g n = s.tblNow g n) ∧
        (∀ n, t.tbl g n = s.tbl g n) ∧ ∀ h, h ≠ g → t.stores[h] = s.stores[h]) ∧
      (tblWritable tbl = false → Completes (.tblDataWrite g v) s fun t => refused (pGRP g) t ∧ t.stores = s.stores) ∧
      (uc % 8 < 6 → uc / 8 < 0xC00 → s.ucProtected g (uc / 8) = false → Completes (.ucDataWrite g v) s fun t =>
        posted (pGRP g) t ∧ (t.uc g (uc / 8)).extractLsb' (32 * (uc % 8)) 32 = v ∧
        (∀ i, i < 6 → i ≠ uc % 8 → (t.uc g (uc / 8)).extractLsb' (32 * i) 32 = (s.uc g (uc / 8)).extractLsb' (32 * i) 32) ∧
        (∀ n, n ≠ uc / 8 → t.uc g n = s.uc g n) ∧
        (quiet → s.uc g (uc / 8) = ucWord (ucBits (s.uc g (uc / 8))) → t.uc g (uc / 8) = ucWord (ucBits (t.uc g (uc / 8))))) ∧
      (uc % 8 < 6 → 0xC00 ≤ uc / 8 ∨ s.ucProtected g (uc / 8) = true → Completes (.ucDataWrite g v) s fun t =>
        refused (pGRP g) t ∧ t.stores = s.stores)) ∧
    (s.busy (pACQ g) = false → Completes (.maskDataWrite g v) s fun t =>
      ((s.grp g).acq.active = false → posted (pACQ g) t ∧ t.maskW g mask = v &&& maskFields mask ∧
        ∀ n, n ≠ mask → t.maskW g n = s.maskW g n) ∧
      ((s.grp g).acq.active = true → refused (pACQ g) t ∧ t.stores = s.stores)) ∧
    (s.busy pRING = false → Completes (.fmtDataWrite v) s fun t =>
      (s.modes.mode = .configure ∧ 4 ≤ fmt → posted pRING t ∧ t.fmtWord fmt = v ∧ ∀ n, n ≠ fmt → t.fmtWord n = s.fmtWord n) ∧
      (¬ (s.modes.mode = .configure ∧ 4 ≤ fmt) → refused pRING t ∧ t.rings = s.rings)) ∧
    (s.busy pNVM = false → nvmRegionOf nvm = some k →
      Completes (.nvmDataWrite v) s (fun t => (s.nvmAccepts k = true → posted pNVM t ∧ tget 0 t.nvm.a nvm = v &&& nvmFields nvm ∧
        t.nvm.dirty.getLsbD k.val = true ∧ t.nvm.b = s.nvm.b ∧ ∀ n, n ≠ nvm → tget 0 t.nvm.a n = tget 0 s.nvm.a n) ∧
        (s.nvmAccepts k = false → refused pNVM t ∧ t.nvm = s.nvm)) ∧
      (v.getLsbD 0 = true → fld v 4 4 = k.val → Completes (.nvmCommit v) s fun t =>
        (s.nvmAccepts k = true → posted pNVM t ∧ t.nvm.commit = some k ∧ t.nvm.dirty.getLsbD k.val = false ∧
          t.nvm.a = s.nvm.a ∧ t.nvm.goodA k = true) ∧
        (s.nvmAccepts k = false → refused pNVM t ∧ t.nvm = s.nvm))) ∧
    (s.busy pNVM = true → Completes (.nvmDataWrite v) s (DroppedAt pNVM s) ∧ Completes (.nvmCommit v) s (DroppedAt pNVM s))

/-- Descriptor writes meet the checks of R274 in order: submitted in CONFIGURE they take effect at once, in RUN, MIRROR and
SAFE they wait with BUSY for the tick and its own check, and one that fails a check is refused. What is posted, the last word
of a burst that waited out its pacing, an MRAM commit and the FACTORY test complete; a posted write that was refused sets ERR
then. The model's choices: a ring's descriptor is charged four words to HOST and waits for them, one of the core die's file is
not (log entry 40), and the stores that a FACTORY test overwrites are left 0 (log entry 41). -/
def Obligations.DescriptorsAndCompletions : Prop :=
  ∀ (s : State) (v : Word) (page : Nat) (k : Fin 8) (item : BitVec 4) (g : GroupIx) (fail : Bool) (loc : BitVec 24)
    (base : BitVec 19) (size wmark : BitVec 16) (x : BitVec 16),
    let sel := (s.reg (adr pRING 0x08)).toNat
    let asked := s.rings.fill.getD 0 0 = base.setWidth 32 ∧ s.rings.fill.getD 1 0 = wmark ++ size
    let apart (d : Desc) : Prop := base.toNat + size.toNat ≤ d.base.toNat ∨ d.base.toNat + d.size.toNat ≤ base.toNat
    let reason := if size = 0 then 0 else firstFailing [(1, decide (base.toNat + size.toNat ≤ 393216)), (2, decide (wmark ≤ size)),
      (3, decide (∀ d ∈ s.rings.desc, d.1 ≠ sel → d.2.size ≠ 0 → apart d.2))]
    let serves := s.modes.mode = .run ∨ s.modes.mode = .mirror ∨ s.modes.mode = .safe
    let written (t : State) (n : Nat) : Prop := (t.desc n).base = base ∧ (t.desc n).size = size ∧
      (t.desc n).wmark = wmark ∧ (t.desc n).head = 0 ∧ (t.desc n).tail = 0 ∧ (t.desc n).wr = 0 ∧
      ∀ m, m ≠ n → t.desc m = s.desc m
    let region := nvmRegions.getD k.val (0, 0)
    let flowing := NothingPaced s
    let paid := s.rings.waits = [] ∧ s.rings.pending = none ∧ (0x40000 ≤ sel ∨ s.fits none 2 cHOST 4 = true)
    (s.busy pRING = true → Completes (.descSubmit v) s (DroppedAt pRING s)) ∧
    (s.busy pRING = false → sel < 262216 → asked → paid →
      (reason = 0 → s.modes.mode = .configure ∨ (¬ serves ∧ s.hasUnsent sel = false) →
        Completes (.descSubmit v) s fun t => written t sel ∧
        (t.hdr pRING).busy = true) ∧
      (reason = 0 → serves → Completes (.descSubmit v) s fun t => t.rings.desc = s.rings.desc ∧
        t.rings.pending = some (sel, base, size, wmark) ∧ (t.hdr pRING).busy = true) ∧
      (reason ≠ 0 → Completes (.descSubmit v) s fun t => t.rings = s.rings ∧ (t.hdr pRING).busy = true ∧
        (t.hdr pRING).refused = true ∧ t.reg (adr pRING 0x0D) = BitVec.ofNat 32 (256 * sel + 128 + reason))) ∧
    (s.busy pRING = false → sel < 0x40000 → s.rings.waits = [] → s.rings.pending = none → s.fits none 2 cHOST 4 = false →
      Completes (.descSubmit v) s fun t => t.rings.waits.length = 1 ∧ t.rings.desc = s.rings.desc ∧
        (t.hdr pRING).busy = true ∧ t.reg (adr pRING 0x0D) = BitVec.ofNat 32 (256 * sel)) ∧
    (flowing → s.rings.pending = some (page, base, size, wmark) → s.hasUnsent page = false →
      Completes .descWriteEffect s fun t => written t page ∧ t.rings.pending = none ∧ (t.hdr pRING).busy = false) ∧
    (flowing → s.rings.pending = some (page, base, size, wmark) → s.busy pRING = true → s.hasUnsent page = true →
      (s.desc page).failed = false →
      Completes .descWriteEffect s fun t => t.rings = { s.rings with pending := none } ∧ (t.hdr pRING).busy = false ∧
        HasEvent pRING 3 t ∧ t.reg (adr pRING 0x0D) = BitVec.ofNat 32 (256 * page + 128 + 4)) ∧
    (flowing → s.rings.pending = none → s.nvm.commit = none → Completes (.postedWriteComplete page) s
      (SetsHdr (page % 512) (fun h => { h with busy := false, refused := false, err := h.err || h.refused }) s)) ∧
    (flowing → s.nvm.commit = some k → Completes .nvmCommitDone s fun t => t.nvm.a = s.nvm.a ∧ t.nvm.commit = none ∧
      (s.nvm.goodA k = true → t.nvm.goodB k = true) ∧ (t.hdr pNVM).busy = false ∧ HasEvent pNVM 0 t ∧ ∀ a, tget 0 t.nvm.b a =
        if region.1 ≤ a ∧ a ≤ region.2 then tget 0 s.nvm.a a else tget 0 s.nvm.b a) ∧
    (s.msp.burst = [(x.toNat, v)] → exec (.pacingTimeout x v) s = .next
      (let u := s.hostWrite x.toNat v; { u with msp := { u.msp with burst := [] } } : State).resume) ∧
    (s.modes.mode = .factory → s.modes.perm.getLsbD 3 = true → v.getLsbD 0 = true → s.modes.test = none →
      fld (s.reg (adr pFACT 0x09)) 0 4 ≤ 9 → Completes (.factTestRun v) s fun t => t.modes = { s.modes with
        test := some ((s.reg (adr pFACT 0x09)).setWidth 4, ((s.reg (adr pFACT 0x09)).extractLsb' 8 6).toFin) }) ∧
    (s.modes.test = some (item, g) → Completes (.factTestDone fail loc) s fun t => t.modes = { s.modes with test := none } ∧
      t.reg (adr pFACT 0x0B) = loc ++ (0#6 ++ BitVec.ofBool fail ++ 1#1) ∧ HasEvent pFACT 0 t ∧
      (item = 5 → ∀ n, t.cpm g n = 0) ∧ (item = 6 → ∀ n, t.tbl g n = 0 ∧ t.tblHost g n = 0) ∧
      (item = 0 → ∀ a, cellAt t.sram.cells a = 0))

/-- EVT_CLR (19 R463): with SEQ equal to EVT.SEQ it clears the bits MASK names and CLR_STALE; else it clears none, SEQ
stays and CLR_STALE is set. A bit that MASK does not name is never cleared; nothing else changes. -/
def Obligations.EventClear : Prop :=
  ∀ (s : State) (page : Nat) (v : Word),
    let p := page % 512
    let h := s.hdr p
    let mask : BitVec 16 := v.extractLsb' 0 16
    pageListed p = true →
    (v.extractLsb' 16 16 = h.seq → exec (.evtClr page v) s = .next (s.modHdr p fun h =>
      { h with evt := h.evt &&& ~~~mask, stale := false })) ∧
    (v.extractLsb' 16 16 ≠ h.seq → exec (.evtClr page v) s = .next (s.modHdr p fun h => { h with stale := true })) ∧
    Completes (.evtClr page v) s (fun t => (t.hdr p).seq = h.seq ∧
      (∀ i, mask.getLsbD i = false → (t.hdr p).evt.getLsbD i = h.evt.getLsbD i) ∧
      (v.extractLsb' 16 16 = h.seq → ∀ i, mask.getLsbD i = true → (t.hdr p).evt.getLsbD i = false) ∧
      SetsHdr p (fun h => { h with evt := (t.hdr p).evt, stale := (t.hdr p).stale }) s t)

/-- Settings registers take the value their rule admits, and refuse the rest with ERR; header writes; a register the map does
not decode ignores the write, and a row of its own and a plain register write act alike. The model's choices: a program
disarmed late still counts as held (log entry 73); a register row is an access delivered to the map, and takes the fields of
log entry 10. -/
def Obligations.SettingsAndHeaders : Prop :=
  ∀ (s : State) (g : GroupIx) (x : Fin 4) (c : ClassIx) (v : Word) (a : BitVec 16) (page : Nat),
    let len := fld v 0 28
    let goodLen := s.modes.mode = .configure ∧ s.armHeld = false ∧ 400 ≤ len ∧ len ≤ 200000000
    let others := (List.range 8).foldl (fun t k => if k = c.val then t else t + (s.reg (shareAdr x.val k)).toNat) 0
    let goodShare := fld v 0 11 + others ≤ 1024
    let refused (p i n : Nat) (t : State) : Prop := t.reg n = s.reg n ∧ (t.hdr p).err = true ∧ HasEvent p i t ∧
      t = { s with rf := t.rf }
    let p := page % 512
    let plain : List (Nat × Word) := [(adr pCLK 0x0A, 0xFFFFFFFF), (adr pSYNC 0x09, 0xFFFFFF), (adr pSYNC 0x0A, 0xFFFF),
      (adr pESC 0x0B, 0xFFFFFFFF), (adr pESC 0x0C, 0xFFFF), (adr pFUS 0x28, 1), (adr pFLT 0x1F, 0xFFFF),
      (adr pTHM 0x16, 0xFFFF), (adr pTHM 0x17, 0xFFFF), (adr pCAL 0x09, 0xFFFF), (adr pCAL 0x0A, 0xFFFFFF),
      (adr pCAL 0x10, 1), (adr pTEL 0x08, 0x73F), (adr pTEL 0x09, 0xFFFFFF), (adr pTRG 0x08, 1), (adr pTRG 0x09, 0xFFFFFFFF)]
    (goodLen → Completes (.frameLenWrite v) s (SetsReg (adr pESC 0x08) (BitVec.ofNat 32 len) s)) ∧
    (¬ goodLen → Completes (.frameLenWrite v) s (refused pESC 0 (adr pESC 0x08))) ∧
    (goodShare → Completes (.shareWrite x c v) s (SetsReg (shareAdr x.val c.val) (BitVec.ofNat 32 (fld v 0 11)) s)) ∧
    (¬ goodShare → Completes (.shareWrite x c v) s (refused pFUS 0 (shareAdr x.val c.val))) ∧
    Completes (.hostStepWrite v) s (SetsReg (adr pFUS 0x29) (v &&& 7) s) ∧
    Completes (.coefCommitWrite g v) s
      (SetsReg (adr (pGRP g) 0x2B) (s.reg (adr (pGRP g) 0x2B) ||| (v &&& 0xFFFF)) s) ∧
    Completes (.intSelWrite g v) s (fun t => t.reg (adr (pGRP g) 0x22) = v &&& 0xF ∧
      (t.hdr (pGRP g)).wrap = false ∧
      (v.getLsbD 8 = true → s.modes.mode = .configure →
        (t.chan g (laneOf (fld v 0 4))).ms.clrPend = some (if s.rootRuns then s.rootNow + 64 else s.rootNow)) ∧
      (v.getLsbD 8 = false ∨ s.modes.mode ≠ .configure → t.groups = s.groups)) ∧
    (s.cmpLatch g &&& v = 0 → Completes (.geIrqEnWrite g v) s fun t => t.reg (adr (pGRP g) 0x34) = v ∧
      t = { s with groups := t.groups, rf := t.rf } ∧ t.grp g = { s.grp g with irqSeen := 0 } ∧
      ∀ h, h ≠ g → t.grp h = s.grp h) ∧
    exec (.rawCountWrite v) s = .next { s with msp := { s.msp with raw := v.setWidth 16 } } ∧
    (s.modes.mode = .configure → s.armHeld = false → Completes (.drainRsvWrite v) s (SetsReg (adr pKL 0x08) v s)) ∧
    (s.modes.mode ≠ .configure ∨ s.armHeld = true → Completes (.drainRsvWrite v) s (RefusedAt pKL s)) ∧
    (pageListed p = true → Completes (.busyFlagClear page v) s (SetsHdr p (fun h =>
      { h with err := h.err && !v.getLsbD 1, lost := h.lost && !v.getLsbD 2 }) s)) ∧
    (∀ b o, pageBase p = some b → o ∈ snOffsets b → Completes (.snapWrite page) s fun t => t = { s with rf := t.rf } ∧
      t.heldReg (adr p o) = s.live p o ∧ (t.hdr p).snaps = (s.hdr p).snaps + 1 ∧ t.rf.live = s.rf.live) ∧
    (decodeAdr a.toNat = none → exec (.registerWrite a v) s = .next s) ∧
    (∀ m, (a.toNat, m) ∈ plain → Completes (.registerWrite a v) s (SetsReg a.toNat (v &&& m) s)) ∧
    (a.toNat = adr (pGRP g) 0x11 → exec (.registerWrite a v) s = exec (.cpmDataWrite g v) s) ∧
    (a.toNat = adr (pGRP g) 0x31 → exec (.registerWrite a v) s = exec (.ucDataWrite g v) s) ∧
    (a.toNat = adr pESC 0x08 → exec (.registerWrite a v) s = exec (.frameLenWrite v) s)
end

