-- ==== Sys2Proof/Laws/Tables.lean ====
section
/-! SUPPORT. Sparse tables and the main SRAM: what a read returns after a write, and that writes keep the canonical form. -/

namespace Sys2Proof.Machine

open Sys2Proof

variable {α : Type}

/-! ## Reads after writes -/

@[simp] theorem tget_nil (d : α) (k : Nat) : tget d [] k = d := rfl

theorem tget_cons (d : α) (a k : Nat) (v : α) (t : Table α) :
    tget d ((a, v) :: t) k = if a = k then v else tget d t k := rfl

theorem tget_tdel_same (d : α) (t : Table α) (k : Nat) : tget d (tdel t k) k = d := by
  induction t with
  | nil => rfl
  | cons x t ih =>
    obtain ⟨a, v⟩ := x
    by_cases h : a = k <;> simp [tdel, tget, h, ih]

theorem tget_tdel_ne (d : α) (t : Table α) {k n : Nat} (h : n ≠ k) : tget d (tdel t k) n = tget d t n := by
  induction t with
  | nil => rfl
  | cons x t ih =>
    obtain ⟨a, v⟩ := x
    by_cases hk : a = k
    · subst hk
      have : ¬ a = n := fun e => h e.symm
      simp [tdel, tget, this, ih]
    · simp [tdel, tget, hk, ih]

/-- After an entry is put into a table without its key, each key reads as its entry, or as before. -/
theorem tget_tput (d : α) (t : Table α) (k n : Nat) (v : α) (hd : tget d t k = d ∨ n ≠ k) (hk : ∀ x ∈ t, x.1 ≠ k) :
    tget d (tput t k v) n = if n = k then v else tget d t n := by
  induction t with
  | nil => simp [tput, tget, eq_comm]
  | cons x t ih =>
    obtain ⟨a, w⟩ := x
    have hak : a ≠ k := hk (a, w) (by simp)
    have ht : ∀ x ∈ t, x.1 ≠ k := fun x hx => hk x (by simp [hx])
    by_cases hlt : k < a
    · simp [tput, tget, hlt, eq_comm]
    · have hd' : tget d t k = d ∨ n ≠ k := by
        rcases hd with h | h
        · left; simpa [tget, hak] using h
        · exact Or.inr h
      simp only [tput, hlt, if_false, tget, ih hd' ht]
      by_cases han : a = n
      · subst han; simp [hak]
      · simp [han]

theorem tdel_keys (t : Table α) (k : Nat) : ∀ x ∈ tdel t k, x.1 ≠ k ∧ x ∈ t := by
  induction t with
  | nil => simp [tdel]
  | cons x t ih =>
    obtain ⟨a, v⟩ := x
    intro y hy
    by_cases h : a = k
    · simp only [tdel, h, if_true] at hy
      exact ⟨(ih y hy).1, by simp [(ih y hy).2]⟩
    · simp only [tdel, h, if_false, List.mem_cons] at hy
      rcases hy with rfl | hy
      · exact ⟨h, by simp⟩
      · exact ⟨(ih y hy).1, by simp [(ih y hy).2]⟩

/-- A table read after a write: the value written at its key, and every other key as before. -/
theorem tget_tset [DecidableEq α] (d : α) (t : Table α) (k n : Nat) (v : α) :
    tget d (tset d t k v) n = if n = k then v else tget d t n := by
  by_cases hn : n = k
  · subst hn
    by_cases hv : v = d
    · simp [tset, hv, tget_tdel_same]
    · simp [tset, hv, tget_tput d (tdel t n) n n v (Or.inl (tget_tdel_same d t n)) fun x hx => (tdel_keys t n x hx).1]
  · by_cases hv : v = d
    · simp [tset, hv, tget_tdel_ne d t hn, hn]
    · simp [tset, hv, tget_tput d (tdel t k) k n v (Or.inr hn) (fun x hx => (tdel_keys t k x hx).1), hn,
        tget_tdel_ne d t hn]

@[simp] theorem tget_tset_same [DecidableEq α] (d : α) (t : Table α) (k : Nat) (v : α) :
    tget d (tset d t k v) k = v := by simp [tget_tset]

theorem tget_tset_ne [DecidableEq α] (d : α) (t : Table α) {k n : Nat} (v : α) (h : n ≠ k) :
    tget d (tset d t k v) n = tget d t n := by simp [tget_tset, h]

/-- A key other than the one written reads as before, whatever default it is read with. -/
theorem tget_tset_default {α : Type} [DecidableEq α] (d e : α) (t : Table α) (k n : Nat) (v : α) (h : n ≠ k) :
    tget e (tset d t k v) n = tget e t n := by
  by_cases hv : v = d
  · simp [tset, hv, tget_tdel_ne e t h]
  · simp [tset, hv, tget_tput e (tdel t k) k n v (Or.inr h) (fun x hx => (tdel_keys t k x hx).1), h, tget_tdel_ne e t h]

/-! ## Canonical form -/

variable [DecidableEq α]

theorem twfFrom_le (d : Nat → α) {lo lo' : Nat} (t : Table α) (h : lo' ≤ lo) (w : twfFrom d lo t = true) :
    twfFrom d lo' t = true := by
  cases t with
  | nil => rfl
  | cons x t =>
    obtain ⟨a, v⟩ := x
    simp only [twfFrom, Bool.and_eq_true, decide_eq_true_eq] at w ⊢
    exact ⟨⟨by omega, w.1.2⟩, w.2⟩

theorem twfFrom_tdel (d : Nat → α) (t : Table α) (lo k : Nat) (w : twfFrom d lo t = true) :
    twfFrom d lo (tdel t k) = true := by
  induction t generalizing lo with
  | nil => rfl
  | cons x t ih =>
    obtain ⟨a, v⟩ := x
    simp only [twfFrom, Bool.and_eq_true, decide_eq_true_eq] at w
    by_cases h : a = k
    · simp only [tdel, h, if_true]
      exact ih lo (twfFrom_le d t (by omega) w.2)
    · simp only [tdel, h, if_false, twfFrom, Bool.and_eq_true, decide_eq_true_eq]
      exact ⟨w.1, ih _ w.2⟩

theorem twfFrom_tput (d : Nat → α) (t : Table α) (lo k : Nat) (v : α) (w : twfFrom d lo t = true) (hlo : lo ≤ k)
    (hv : v ≠ d k) (hk : ∀ x ∈ t, x.1 ≠ k) : twfFrom d lo (tput t k v) = true := by
  induction t generalizing lo with
  | nil => simp [tput, twfFrom, hlo, hv]
  | cons x t ih =>
    obtain ⟨a, u⟩ := x
    simp only [twfFrom, Bool.and_eq_true, decide_eq_true_eq] at w
    have hak : a ≠ k := hk (a, u) (by simp)
    by_cases hlt : k < a
    · simp only [tput, hlt, if_true, twfFrom, Bool.and_eq_true, decide_eq_true_eq]
      exact ⟨⟨hlo, hv⟩, ⟨hlt, w.1.2⟩, w.2⟩
    · simp only [tput, hlt, if_false, twfFrom, Bool.and_eq_true, decide_eq_true_eq]
      exact ⟨w.1, ih (a + 1) w.2 (by omega) fun x hx => hk x (by simp [hx])⟩

/-- A write keeps the canonical form. -/
theorem twf_tset (d : α) (t : Table α) (k : Nat) (v : α) (w : twf (fun _ => d) t = true) :
    twf (fun _ => d) (tset d t k v) = true := by
  by_cases hv : v = d
  · simp only [tset, hv, if_true]; exact twfFrom_tdel _ t 0 k w
  · simp only [tset, hv, if_false]
    exact twfFrom_tput _ _ 0 k v (twfFrom_tdel _ t 0 k w) (Nat.zero_le _) hv fun x hx => (tdel_keys t k x hx).1

/-- Dropping entries keeps the canonical form. -/
theorem twfFrom_filter (d : Nat → α) (t : Table α) (lo : Nat) (p : Nat × α → Bool) (w : twfFrom d lo t = true) :
    twfFrom d lo (t.filter p) = true := by
  induction t generalizing lo with
  | nil => rfl
  | cons x t ih =>
    obtain ⟨a, v⟩ := x
    simp only [twfFrom, Bool.and_eq_true, decide_eq_true_eq] at w
    by_cases h : p (a, v) = true
    · simp only [List.filter_cons, h, if_true, twfFrom, Bool.and_eq_true, decide_eq_true_eq]
      exact ⟨w.1, ih _ w.2⟩
    · simp only [List.filter_cons, h]
      exact ih lo (twfFrom_le d t (by omega) w.2)

/-! ## Main SRAM (01 R8) -/

@[simp] theorem cellAt_setCell (m : List Host.Cell) (k n : Nat) (v : Byte) :
    cellAt (setCell m k v) n = if n = k then v else cellAt m n := tget_tset 0 m k n v

/-- A word write keeps the canonical form. -/
theorem Sram.setWord_wf (m : Sram) (a : Nat) (v : Word) (w : m.wf = true) : (m.setWord a v).wf = true := by
  simp only [Sram.wf, Sram.setWord, setCell, Bool.and_eq_true] at w ⊢
  exact ⟨twf_tset _ _ _ _ (twf_tset _ _ _ _ (twf_tset _ _ _ _ (twf_tset _ _ _ _ w.1))), twf_tset _ _ _ _ w.2⟩

/-- So does a write of data and check symbols. -/
theorem Sram.setRaw_wf (m : Sram) (a : Nat) (v : Word) (c : BitVec 12) (w : m.wf = true) : (m.setRaw a v c).wf = true := by
  have h := Sram.setWord_wf m a v w
  simp only [Sram.wf, Sram.setRaw, Bool.and_eq_true] at h ⊢
  exact ⟨h.1, twf_tset _ _ _ _ h.2⟩

/-- A word reads as it was written. -/
theorem Sram.word_setWord (m : Sram) (a : Nat) (v : Word) : (m.setWord a v).word a = v := by
  simp only [Sram.word, Sram.setWord, cellAt_setCell]
  simp only [show ¬ (a + 2 = a + 3) by omega, show ¬ (a + 1 = a + 3) by omega, show ¬ (a = a + 3) by omega,
    show ¬ (a + 1 = a + 2) by omega, show ¬ (a = a + 2) by omega, show ¬ (a = a + 1) by omega, if_false, if_true]
  ext i hi
  simp only [BitVec.getElem_append, BitVec.getElem_extractLsb']
  repeat' split
  all_goals (rw [← BitVec.getLsbD_eq_getElem]; congr 1; omega)

/-- Every byte outside the word written reads as before. -/
theorem Sram.cellAt_setWord (m : Sram) (a n : Nat) (v : Word) (h : n < a ∨ a + 4 ≤ n) :
    cellAt (m.setWord a v).cells n = cellAt m.cells n := by
  simp only [Sram.setWord, cellAt_setCell]
  simp only [show ¬ (n = a + 3) by omega, show ¬ (n = a + 2) by omega, show ¬ (n = a + 1) by omega,
    show ¬ (n = a) by omega, if_false]

end Sys2Proof.Machine
end

