-- ==== Sys2Proof/Laws/State.lean ====
section
/-! SUPPORT. One lemma per field per named update of the state, true by rfl; what each accessor reads after an update. -/

namespace Sys2Proof.Machine

open Sys2Proof

variable (s : State)

/-! ## Fields an update leaves alone -/
@[simp] theorem State.setReg_pending (a : Nat) (v : Word) : (s.setReg a v).pending = s.pending := rfl
@[simp] theorem State.setReg_esc (a : Nat) (v : Word) : (s.setReg a v).esc = s.esc := rfl
@[simp] theorem State.setReg_fus (a : Nat) (v : Word) : (s.setReg a v).fus = s.fus := rfl
@[simp] theorem State.setReg_groups (a : Nat) (v : Word) : (s.setReg a v).groups = s.groups := rfl
@[simp] theorem State.setReg_stores (a : Nat) (v : Word) : (s.setReg a v).stores = s.stores := rfl
@[simp] theorem State.setReg_streams (a : Nat) (v : Word) : (s.setReg a v).streams = s.streams := rfl
@[simp] theorem State.setReg_lines (a : Nat) (v : Word) : (s.setReg a v).lines = s.lines := rfl
@[simp] theorem State.setReg_rings (a : Nat) (v : Word) : (s.setReg a v).rings = s.rings := rfl
@[simp] theorem State.setReg_flt (a : Nat) (v : Word) : (s.setReg a v).flt = s.flt := rfl
@[simp] theorem State.setReg_thm (a : Nat) (v : Word) : (s.setReg a v).thm = s.thm := rfl
@[simp] theorem State.setReg_clk (a : Nat) (v : Word) : (s.setReg a v).clk = s.clk := rfl
@[simp] theorem State.setReg_sync (a : Nat) (v : Word) : (s.setReg a v).sync = s.sync := rfl
@[simp] theorem State.setReg_modes (a : Nat) (v : Word) : (s.setReg a v).modes = s.modes := rfl
@[simp] theorem State.setReg_boot (a : Nat) (v : Word) : (s.setReg a v).boot = s.boot := rfl
@[simp] theorem State.setReg_nvm (a : Nat) (v : Word) : (s.setReg a v).nvm = s.nvm := rfl
@[simp] theorem State.setReg_mc (a : Nat) (v : Word) : (s.setReg a v).mc = s.mc := rfl
@[simp] theorem State.setReg_msp (a : Nat) (v : Word) : (s.setReg a v).msp = s.msp := rfl
@[simp] theorem State.setReg_kl (a : Nat) (v : Word) : (s.setReg a v).kl = s.kl := rfl
@[simp] theorem State.setReg_pair (a : Nat) (v : Word) : (s.setReg a v).pair = s.pair := rfl
@[simp] theorem State.setReg_tel (a : Nat) (v : Word) : (s.setReg a v).tel = s.tel := rfl
@[simp] theorem State.setReg_tap (a : Nat) (v : Word) : (s.setReg a v).tap = s.tap := rfl
@[simp] theorem State.setReg_sram (a : Nat) (v : Word) : (s.setReg a v).sram = s.sram := rfl
@[simp] theorem State.setReg_draws (a : Nat) (v : Word) : (s.setReg a v).draws = s.draws := rfl

@[simp] theorem State.bump_pending (a : Nat) : (s.bump a).pending = s.pending := rfl
@[simp] theorem State.bump_esc (a : Nat) : (s.bump a).esc = s.esc := rfl
@[simp] theorem State.bump_fus (a : Nat) : (s.bump a).fus = s.fus := rfl
@[simp] theorem State.bump_groups (a : Nat) : (s.bump a).groups = s.groups := rfl
@[simp] theorem State.bump_stores (a : Nat) : (s.bump a).stores = s.stores := rfl
@[simp] theorem State.bump_streams (a : Nat) : (s.bump a).streams = s.streams := rfl
@[simp] theorem State.bump_lines (a : Nat) : (s.bump a).lines = s.lines := rfl
@[simp] theorem State.bump_rings (a : Nat) : (s.bump a).rings = s.rings := rfl
@[simp] theorem State.bump_flt (a : Nat) : (s.bump a).flt = s.flt := rfl
@[simp] theorem State.bump_thm (a : Nat) : (s.bump a).thm = s.thm := rfl
@[simp] theorem State.bump_clk (a : Nat) : (s.bump a).clk = s.clk := rfl
@[simp] theorem State.bump_sync (a : Nat) : (s.bump a).sync = s.sync := rfl
@[simp] theorem State.bump_modes (a : Nat) : (s.bump a).modes = s.modes := rfl
@[simp] theorem State.bump_boot (a : Nat) : (s.bump a).boot = s.boot := rfl
@[simp] theorem State.bump_nvm (a : Nat) : (s.bump a).nvm = s.nvm := rfl
@[simp] theorem State.bump_mc (a : Nat) : (s.bump a).mc = s.mc := rfl
@[simp] theorem State.bump_msp (a : Nat) : (s.bump a).msp = s.msp := rfl
@[simp] theorem State.bump_kl (a : Nat) : (s.bump a).kl = s.kl := rfl
@[simp] theorem State.bump_pair (a : Nat) : (s.bump a).pair = s.pair := rfl
@[simp] theorem State.bump_tel (a : Nat) : (s.bump a).tel = s.tel := rfl
@[simp] theorem State.bump_tap (a : Nat) : (s.bump a).tap = s.tap := rfl
@[simp] theorem State.bump_sram (a : Nat) : (s.bump a).sram = s.sram := rfl
@[simp] theorem State.bump_draws (a : Nat) : (s.bump a).draws = s.draws := rfl

@[simp] theorem State.bumpBy_pending (a n : Nat) : (s.bumpBy a n).pending = s.pending := rfl
@[simp] theorem State.bumpBy_esc (a n : Nat) : (s.bumpBy a n).esc = s.esc := rfl
@[simp] theorem State.bumpBy_fus (a n : Nat) : (s.bumpBy a n).fus = s.fus := rfl
@[simp] theorem State.bumpBy_groups (a n : Nat) : (s.bumpBy a n).groups = s.groups := rfl
@[simp] theorem State.bumpBy_stores (a n : Nat) : (s.bumpBy a n).stores = s.stores := rfl
@[simp] theorem State.bumpBy_streams (a n : Nat) : (s.bumpBy a n).streams = s.streams := rfl
@[simp] theorem State.bumpBy_lines (a n : Nat) : (s.bumpBy a n).lines = s.lines := rfl
@[simp] theorem State.bumpBy_rings (a n : Nat) : (s.bumpBy a n).rings = s.rings := rfl
@[simp] theorem State.bumpBy_flt (a n : Nat) : (s.bumpBy a n).flt = s.flt := rfl
@[simp] theorem State.bumpBy_thm (a n : Nat) : (s.bumpBy a n).thm = s.thm := rfl
@[simp] theorem State.bumpBy_clk (a n : Nat) : (s.bumpBy a n).clk = s.clk := rfl
@[simp] theorem State.bumpBy_sync (a n : Nat) : (s.bumpBy a n).sync = s.sync := rfl
@[simp] theorem State.bumpBy_modes (a n : Nat) : (s.bumpBy a n).modes = s.modes := rfl
@[simp] theorem State.bumpBy_boot (a n : Nat) : (s.bumpBy a n).boot = s.boot := rfl
@[simp] theorem State.bumpBy_nvm (a n : Nat) : (s.bumpBy a n).nvm = s.nvm := rfl
@[simp] theorem State.bumpBy_mc (a n : Nat) : (s.bumpBy a n).mc = s.mc := rfl
@[simp] theorem State.bumpBy_msp (a n : Nat) : (s.bumpBy a n).msp = s.msp := rfl
@[simp] theorem State.bumpBy_kl (a n : Nat) : (s.bumpBy a n).kl = s.kl := rfl
@[simp] theorem State.bumpBy_pair (a n : Nat) : (s.bumpBy a n).pair = s.pair := rfl
@[simp] theorem State.bumpBy_tel (a n : Nat) : (s.bumpBy a n).tel = s.tel := rfl
@[simp] theorem State.bumpBy_tap (a n : Nat) : (s.bumpBy a n).tap = s.tap := rfl
@[simp] theorem State.bumpBy_sram (a n : Nat) : (s.bumpBy a n).sram = s.sram := rfl
@[simp] theorem State.bumpBy_draws (a n : Nat) : (s.bumpBy a n).draws = s.draws := rfl

@[simp] theorem State.setHeld_pending (a : Nat) (v : Word) : (s.setHeld a v).pending = s.pending := rfl
@[simp] theorem State.setHeld_esc (a : Nat) (v : Word) : (s.setHeld a v).esc = s.esc := rfl
@[simp] theorem State.setHeld_fus (a : Nat) (v : Word) : (s.setHeld a v).fus = s.fus := rfl
@[simp] theorem State.setHeld_groups (a : Nat) (v : Word) : (s.setHeld a v).groups = s.groups := rfl
@[simp] theorem State.setHeld_stores (a : Nat) (v : Word) : (s.setHeld a v).stores = s.stores := rfl
@[simp] theorem State.setHeld_streams (a : Nat) (v : Word) : (s.setHeld a v).streams = s.streams := rfl
@[simp] theorem State.setHeld_lines (a : Nat) (v : Word) : (s.setHeld a v).lines = s.lines := rfl
@[simp] theorem State.setHeld_rings (a : Nat) (v : Word) : (s.setHeld a v).rings = s.rings := rfl
@[simp] theorem State.setHeld_flt (a : Nat) (v : Word) : (s.setHeld a v).flt = s.flt := rfl
@[simp] theorem State.setHeld_thm (a : Nat) (v : Word) : (s.setHeld a v).thm = s.thm := rfl
@[simp] theorem State.setHeld_clk (a : Nat) (v : Word) : (s.setHeld a v).clk = s.clk := rfl
@[simp] theorem State.setHeld_sync (a : Nat) (v : Word) : (s.setHeld a v).sync = s.sync := rfl
@[simp] theorem State.setHeld_modes (a : Nat) (v : Word) : (s.setHeld a v).modes = s.modes := rfl
@[simp] theorem State.setHeld_boot (a : Nat) (v : Word) : (s.setHeld a v).boot = s.boot := rfl
@[simp] theorem State.setHeld_nvm (a : Nat) (v : Word) : (s.setHeld a v).nvm = s.nvm := rfl
@[simp] theorem State.setHeld_mc (a : Nat) (v : Word) : (s.setHeld a v).mc = s.mc := rfl
@[simp] theorem State.setHeld_msp (a : Nat) (v : Word) : (s.setHeld a v).msp = s.msp := rfl
@[simp] theorem State.setHeld_kl (a : Nat) (v : Word) : (s.setHeld a v).kl = s.kl := rfl
@[simp] theorem State.setHeld_pair (a : Nat) (v : Word) : (s.setHeld a v).pair = s.pair := rfl
@[simp] theorem State.setHeld_tel (a : Nat) (v : Word) : (s.setHeld a v).tel = s.tel := rfl
@[simp] theorem State.setHeld_tap (a : Nat) (v : Word) : (s.setHeld a v).tap = s.tap := rfl
@[simp] theorem State.setHeld_sram (a : Nat) (v : Word) : (s.setHeld a v).sram = s.sram := rfl
@[simp] theorem State.setHeld_draws (a : Nat) (v : Word) : (s.setHeld a v).draws = s.draws := rfl

@[simp] theorem State.answer_pending (v : Word) : (s.answer v).pending = s.pending := rfl
@[simp] theorem State.answer_esc (v : Word) : (s.answer v).esc = s.esc := rfl
@[simp] theorem State.answer_fus (v : Word) : (s.answer v).fus = s.fus := rfl
@[simp] theorem State.answer_groups (v : Word) : (s.answer v).groups = s.groups := rfl
@[simp] theorem State.answer_stores (v : Word) : (s.answer v).stores = s.stores := rfl
@[simp] theorem State.answer_streams (v : Word) : (s.answer v).streams = s.streams := rfl
@[simp] theorem State.answer_lines (v : Word) : (s.answer v).lines = s.lines := rfl
@[simp] theorem State.answer_rings (v : Word) : (s.answer v).rings = s.rings := rfl
@[simp] theorem State.answer_flt (v : Word) : (s.answer v).flt = s.flt := rfl
@[simp] theorem State.answer_thm (v : Word) : (s.answer v).thm = s.thm := rfl
@[simp] theorem State.answer_clk (v : Word) : (s.answer v).clk = s.clk := rfl
@[simp] theorem State.answer_sync (v : Word) : (s.answer v).sync = s.sync := rfl
@[simp] theorem State.answer_modes (v : Word) : (s.answer v).modes = s.modes := rfl
@[simp] theorem State.answer_boot (v : Word) : (s.answer v).boot = s.boot := rfl
@[simp] theorem State.answer_nvm (v : Word) : (s.answer v).nvm = s.nvm := rfl
@[simp] theorem State.answer_mc (v : Word) : (s.answer v).mc = s.mc := rfl
@[simp] theorem State.answer_msp (v : Word) : (s.answer v).msp = s.msp := rfl
@[simp] theorem State.answer_kl (v : Word) : (s.answer v).kl = s.kl := rfl
@[simp] theorem State.answer_pair (v : Word) : (s.answer v).pair = s.pair := rfl
@[simp] theorem State.answer_tel (v : Word) : (s.answer v).tel = s.tel := rfl
@[simp] theorem State.answer_tap (v : Word) : (s.answer v).tap = s.tap := rfl
@[simp] theorem State.answer_sram (v : Word) : (s.answer v).sram = s.sram := rfl
@[simp] theorem State.answer_draws (v : Word) : (s.answer v).draws = s.draws := rfl

@[simp] theorem State.modHdr_pending (p : Nat) (f : PageHdr → PageHdr) : (s.modHdr p f).pending = s.pending := rfl
@[simp] theorem State.modHdr_esc (p : Nat) (f : PageHdr → PageHdr) : (s.modHdr p f).esc = s.esc := rfl
@[simp] theorem State.modHdr_fus (p : Nat) (f : PageHdr → PageHdr) : (s.modHdr p f).fus = s.fus := rfl
@[simp] theorem State.modHdr_groups (p : Nat) (f : PageHdr → PageHdr) : (s.modHdr p f).groups = s.groups := rfl
@[simp] theorem State.modHdr_stores (p : Nat) (f : PageHdr → PageHdr) : (s.modHdr p f).stores = s.stores := rfl
@[simp] theorem State.modHdr_streams (p : Nat) (f : PageHdr → PageHdr) : (s.modHdr p f).streams = s.streams := rfl
@[simp] theorem State.modHdr_lines (p : Nat) (f : PageHdr → PageHdr) : (s.modHdr p f).lines = s.lines := rfl
@[simp] theorem State.modHdr_rings (p : Nat) (f : PageHdr → PageHdr) : (s.modHdr p f).rings = s.rings := rfl
@[simp] theorem State.modHdr_flt (p : Nat) (f : PageHdr → PageHdr) : (s.modHdr p f).flt = s.flt := rfl
@[simp] theorem State.modHdr_thm (p : Nat) (f : PageHdr → PageHdr) : (s.modHdr p f).thm = s.thm := rfl
@[simp] theorem State.modHdr_clk (p : Nat) (f : PageHdr → PageHdr) : (s.modHdr p f).clk = s.clk := rfl
@[simp] theorem State.modHdr_sync (p : Nat) (f : PageHdr → PageHdr) : (s.modHdr p f).sync = s.sync := rfl
@[simp] theorem State.modHdr_modes (p : Nat) (f : PageHdr → PageHdr) : (s.modHdr p f).modes = s.modes := rfl
@[simp] theorem State.modHdr_boot (p : Nat) (f : PageHdr → PageHdr) : (s.modHdr p f).boot = s.boot := rfl
@[simp] theorem State.modHdr_nvm (p : Nat) (f : PageHdr → PageHdr) : (s.modHdr p f).nvm = s.nvm := rfl
@[simp] theorem State.modHdr_mc (p : Nat) (f : PageHdr → PageHdr) : (s.modHdr p f).mc = s.mc := rfl
@[simp] theorem State.modHdr_msp (p : Nat) (f : PageHdr → PageHdr) : (s.modHdr p f).msp = s.msp := rfl
@[simp] theorem State.modHdr_kl (p : Nat) (f : PageHdr → PageHdr) : (s.modHdr p f).kl = s.kl := rfl
@[simp] theorem State.modHdr_pair (p : Nat) (f : PageHdr → PageHdr) : (s.modHdr p f).pair = s.pair := rfl
@[simp] theorem State.modHdr_tel (p : Nat) (f : PageHdr → PageHdr) : (s.modHdr p f).tel = s.tel := rfl
@[simp] theorem State.modHdr_tap (p : Nat) (f : PageHdr → PageHdr) : (s.modHdr p f).tap = s.tap := rfl
@[simp] theorem State.modHdr_sram (p : Nat) (f : PageHdr → PageHdr) : (s.modHdr p f).sram = s.sram := rfl
@[simp] theorem State.modHdr_draws (p : Nat) (f : PageHdr → PageHdr) : (s.modHdr p f).draws = s.draws := rfl

@[simp] theorem State.event_pending (p i : Nat) : (s.event p i).pending = s.pending := rfl
@[simp] theorem State.event_esc (p i : Nat) : (s.event p i).esc = s.esc := rfl
@[simp] theorem State.event_fus (p i : Nat) : (s.event p i).fus = s.fus := rfl
@[simp] theorem State.event_groups (p i : Nat) : (s.event p i).groups = s.groups := rfl
@[simp] theorem State.event_stores (p i : Nat) : (s.event p i).stores = s.stores := rfl
@[simp] theorem State.event_streams (p i : Nat) : (s.event p i).streams = s.streams := rfl
@[simp] theorem State.event_lines (p i : Nat) : (s.event p i).lines = s.lines := rfl
@[simp] theorem State.event_rings (p i : Nat) : (s.event p i).rings = s.rings := rfl
@[simp] theorem State.event_flt (p i : Nat) : (s.event p i).flt = s.flt := rfl
@[simp] theorem State.event_thm (p i : Nat) : (s.event p i).thm = s.thm := rfl
@[simp] theorem State.event_clk (p i : Nat) : (s.event p i).clk = s.clk := rfl
@[simp] theorem State.event_sync (p i : Nat) : (s.event p i).sync = s.sync := rfl
@[simp] theorem State.event_modes (p i : Nat) : (s.event p i).modes = s.modes := rfl
@[simp] theorem State.event_boot (p i : Nat) : (s.event p i).boot = s.boot := rfl
@[simp] theorem State.event_nvm (p i : Nat) : (s.event p i).nvm = s.nvm := rfl
@[simp] theorem State.event_mc (p i : Nat) : (s.event p i).mc = s.mc := rfl
@[simp] theorem State.event_msp (p i : Nat) : (s.event p i).msp = s.msp := rfl
@[simp] theorem State.event_kl (p i : Nat) : (s.event p i).kl = s.kl := rfl
@[simp] theorem State.event_pair (p i : Nat) : (s.event p i).pair = s.pair := rfl
@[simp] theorem State.event_tel (p i : Nat) : (s.event p i).tel = s.tel := rfl
@[simp] theorem State.event_tap (p i : Nat) : (s.event p i).tap = s.tap := rfl
@[simp] theorem State.event_sram (p i : Nat) : (s.event p i).sram = s.sram := rfl
@[simp] theorem State.event_draws (p i : Nat) : (s.event p i).draws = s.draws := rfl

@[simp] theorem State.refuse_pending (p : Nat) : (s.refuse p).pending = s.pending := rfl
@[simp] theorem State.refuse_esc (p : Nat) : (s.refuse p).esc = s.esc := rfl
@[simp] theorem State.refuse_fus (p : Nat) : (s.refuse p).fus = s.fus := rfl
@[simp] theorem State.refuse_groups (p : Nat) : (s.refuse p).groups = s.groups := rfl
@[simp] theorem State.refuse_stores (p : Nat) : (s.refuse p).stores = s.stores := rfl
@[simp] theorem State.refuse_streams (p : Nat) : (s.refuse p).streams = s.streams := rfl
@[simp] theorem State.refuse_lines (p : Nat) : (s.refuse p).lines = s.lines := rfl
@[simp] theorem State.refuse_rings (p : Nat) : (s.refuse p).rings = s.rings := rfl
@[simp] theorem State.refuse_flt (p : Nat) : (s.refuse p).flt = s.flt := rfl
@[simp] theorem State.refuse_thm (p : Nat) : (s.refuse p).thm = s.thm := rfl
@[simp] theorem State.refuse_clk (p : Nat) : (s.refuse p).clk = s.clk := rfl
@[simp] theorem State.refuse_sync (p : Nat) : (s.refuse p).sync = s.sync := rfl
@[simp] theorem State.refuse_modes (p : Nat) : (s.refuse p).modes = s.modes := rfl
@[simp] theorem State.refuse_boot (p : Nat) : (s.refuse p).boot = s.boot := rfl
@[simp] theorem State.refuse_nvm (p : Nat) : (s.refuse p).nvm = s.nvm := rfl
@[simp] theorem State.refuse_mc (p : Nat) : (s.refuse p).mc = s.mc := rfl
@[simp] theorem State.refuse_msp (p : Nat) : (s.refuse p).msp = s.msp := rfl
@[simp] theorem State.refuse_kl (p : Nat) : (s.refuse p).kl = s.kl := rfl
@[simp] theorem State.refuse_pair (p : Nat) : (s.refuse p).pair = s.pair := rfl
@[simp] theorem State.refuse_tel (p : Nat) : (s.refuse p).tel = s.tel := rfl
@[simp] theorem State.refuse_tap (p : Nat) : (s.refuse p).tap = s.tap := rfl
@[simp] theorem State.refuse_sram (p : Nat) : (s.refuse p).sram = s.sram := rfl
@[simp] theorem State.refuse_draws (p : Nat) : (s.refuse p).draws = s.draws := rfl

@[simp] theorem State.loseWrite_pending (p : Nat) : (s.loseWrite p).pending = s.pending := rfl
@[simp] theorem State.loseWrite_esc (p : Nat) : (s.loseWrite p).esc = s.esc := rfl
@[simp] theorem State.loseWrite_fus (p : Nat) : (s.loseWrite p).fus = s.fus := rfl
@[simp] theorem State.loseWrite_groups (p : Nat) : (s.loseWrite p).groups = s.groups := rfl
@[simp] theorem State.loseWrite_stores (p : Nat) : (s.loseWrite p).stores = s.stores := rfl
@[simp] theorem State.loseWrite_streams (p : Nat) : (s.loseWrite p).streams = s.streams := rfl
@[simp] theorem State.loseWrite_lines (p : Nat) : (s.loseWrite p).lines = s.lines := rfl
@[simp] theorem State.loseWrite_rings (p : Nat) : (s.loseWrite p).rings = s.rings := rfl
@[simp] theorem State.loseWrite_flt (p : Nat) : (s.loseWrite p).flt = s.flt := rfl
@[simp] theorem State.loseWrite_thm (p : Nat) : (s.loseWrite p).thm = s.thm := rfl
@[simp] theorem State.loseWrite_clk (p : Nat) : (s.loseWrite p).clk = s.clk := rfl
@[simp] theorem State.loseWrite_sync (p : Nat) : (s.loseWrite p).sync = s.sync := rfl
@[simp] theorem State.loseWrite_modes (p : Nat) : (s.loseWrite p).modes = s.modes := rfl
@[simp] theorem State.loseWrite_boot (p : Nat) : (s.loseWrite p).boot = s.boot := rfl
@[simp] theorem State.loseWrite_nvm (p : Nat) : (s.loseWrite p).nvm = s.nvm := rfl
@[simp] theorem State.loseWrite_mc (p : Nat) : (s.loseWrite p).mc = s.mc := rfl
@[simp] theorem State.loseWrite_msp (p : Nat) : (s.loseWrite p).msp = s.msp := rfl
@[simp] theorem State.loseWrite_kl (p : Nat) : (s.loseWrite p).kl = s.kl := rfl
@[simp] theorem State.loseWrite_pair (p : Nat) : (s.loseWrite p).pair = s.pair := rfl
@[simp] theorem State.loseWrite_tel (p : Nat) : (s.loseWrite p).tel = s.tel := rfl
@[simp] theorem State.loseWrite_tap (p : Nat) : (s.loseWrite p).tap = s.tap := rfl
@[simp] theorem State.loseWrite_sram (p : Nat) : (s.loseWrite p).sram = s.sram := rfl
@[simp] theorem State.loseWrite_draws (p : Nat) : (s.loseWrite p).draws = s.draws := rfl

@[simp] theorem State.post_pending (p : Nat) : (s.post p).pending = s.pending := rfl
@[simp] theorem State.post_esc (p : Nat) : (s.post p).esc = s.esc := rfl
@[simp] theorem State.post_fus (p : Nat) : (s.post p).fus = s.fus := rfl
@[simp] theorem State.post_groups (p : Nat) : (s.post p).groups = s.groups := rfl
@[simp] theorem State.post_stores (p : Nat) : (s.post p).stores = s.stores := rfl
@[simp] theorem State.post_streams (p : Nat) : (s.post p).streams = s.streams := rfl
@[simp] theorem State.post_lines (p : Nat) : (s.post p).lines = s.lines := rfl
@[simp] theorem State.post_rings (p : Nat) : (s.post p).rings = s.rings := rfl
@[simp] theorem State.post_flt (p : Nat) : (s.post p).flt = s.flt := rfl
@[simp] theorem State.post_thm (p : Nat) : (s.post p).thm = s.thm := rfl
@[simp] theorem State.post_clk (p : Nat) : (s.post p).clk = s.clk := rfl
@[simp] theorem State.post_sync (p : Nat) : (s.post p).sync = s.sync := rfl
@[simp] theorem State.post_modes (p : Nat) : (s.post p).modes = s.modes := rfl
@[simp] theorem State.post_boot (p : Nat) : (s.post p).boot = s.boot := rfl
@[simp] theorem State.post_nvm (p : Nat) : (s.post p).nvm = s.nvm := rfl
@[simp] theorem State.post_mc (p : Nat) : (s.post p).mc = s.mc := rfl
@[simp] theorem State.post_msp (p : Nat) : (s.post p).msp = s.msp := rfl
@[simp] theorem State.post_kl (p : Nat) : (s.post p).kl = s.kl := rfl
@[simp] theorem State.post_pair (p : Nat) : (s.post p).pair = s.pair := rfl
@[simp] theorem State.post_tel (p : Nat) : (s.post p).tel = s.tel := rfl
@[simp] theorem State.post_tap (p : Nat) : (s.post p).tap = s.tap := rfl
@[simp] theorem State.post_sram (p : Nat) : (s.post p).sram = s.sram := rfl
@[simp] theorem State.post_draws (p : Nat) : (s.post p).draws = s.draws := rfl

@[simp] theorem State.setWrap_pending (p : Nat) : (s.setWrap p).pending = s.pending := rfl
@[simp] theorem State.setWrap_esc (p : Nat) : (s.setWrap p).esc = s.esc := rfl
@[simp] theorem State.setWrap_fus (p : Nat) : (s.setWrap p).fus = s.fus := rfl
@[simp] theorem State.setWrap_groups (p : Nat) : (s.setWrap p).groups = s.groups := rfl
@[simp] theorem State.setWrap_stores (p : Nat) : (s.setWrap p).stores = s.stores := rfl
@[simp] theorem State.setWrap_streams (p : Nat) : (s.setWrap p).streams = s.streams := rfl
@[simp] theorem State.setWrap_lines (p : Nat) : (s.setWrap p).lines = s.lines := rfl
@[simp] theorem State.setWrap_rings (p : Nat) : (s.setWrap p).rings = s.rings := rfl
@[simp] theorem State.setWrap_flt (p : Nat) : (s.setWrap p).flt = s.flt := rfl
@[simp] theorem State.setWrap_thm (p : Nat) : (s.setWrap p).thm = s.thm := rfl
@[simp] theorem State.setWrap_clk (p : Nat) : (s.setWrap p).clk = s.clk := rfl
@[simp] theorem State.setWrap_sync (p : Nat) : (s.setWrap p).sync = s.sync := rfl
@[simp] theorem State.setWrap_modes (p : Nat) : (s.setWrap p).modes = s.modes := rfl
@[simp] theorem State.setWrap_boot (p : Nat) : (s.setWrap p).boot = s.boot := rfl
@[simp] theorem State.setWrap_nvm (p : Nat) : (s.setWrap p).nvm = s.nvm := rfl
@[simp] theorem State.setWrap_mc (p : Nat) : (s.setWrap p).mc = s.mc := rfl
@[simp] theorem State.setWrap_msp (p : Nat) : (s.setWrap p).msp = s.msp := rfl
@[simp] theorem State.setWrap_kl (p : Nat) : (s.setWrap p).kl = s.kl := rfl
@[simp] theorem State.setWrap_pair (p : Nat) : (s.setWrap p).pair = s.pair := rfl
@[simp] theorem State.setWrap_tel (p : Nat) : (s.setWrap p).tel = s.tel := rfl
@[simp] theorem State.setWrap_tap (p : Nat) : (s.setWrap p).tap = s.tap := rfl
@[simp] theorem State.setWrap_sram (p : Nat) : (s.setWrap p).sram = s.sram := rfl
@[simp] theorem State.setWrap_draws (p : Nat) : (s.setWrap p).draws = s.draws := rfl

@[simp] theorem State.modG_pending (g : GroupIx) (f : Group → Group) : (s.modG g f).pending = s.pending := rfl
@[simp] theorem State.modG_esc (g : GroupIx) (f : Group → Group) : (s.modG g f).esc = s.esc := rfl
@[simp] theorem State.modG_fus (g : GroupIx) (f : Group → Group) : (s.modG g f).fus = s.fus := rfl
@[simp] theorem State.modG_stores (g : GroupIx) (f : Group → Group) : (s.modG g f).stores = s.stores := rfl
@[simp] theorem State.modG_streams (g : GroupIx) (f : Group → Group) : (s.modG g f).streams = s.streams := rfl
@[simp] theorem State.modG_lines (g : GroupIx) (f : Group → Group) : (s.modG g f).lines = s.lines := rfl
@[simp] theorem State.modG_rings (g : GroupIx) (f : Group → Group) : (s.modG g f).rings = s.rings := rfl
@[simp] theorem State.modG_flt (g : GroupIx) (f : Group → Group) : (s.modG g f).flt = s.flt := rfl
@[simp] theorem State.modG_thm (g : GroupIx) (f : Group → Group) : (s.modG g f).thm = s.thm := rfl
@[simp] theorem State.modG_clk (g : GroupIx) (f : Group → Group) : (s.modG g f).clk = s.clk := rfl
@[simp] theorem State.modG_sync (g : GroupIx) (f : Group → Group) : (s.modG g f).sync = s.sync := rfl
@[simp] theorem State.modG_modes (g : GroupIx) (f : Group → Group) : (s.modG g f).modes = s.modes := rfl
@[simp] theorem State.modG_boot (g : GroupIx) (f : Group → Group) : (s.modG g f).boot = s.boot := rfl
@[simp] theorem State.modG_nvm (g : GroupIx) (f : Group → Group) : (s.modG g f).nvm = s.nvm := rfl
@[simp] theorem State.modG_mc (g : GroupIx) (f : Group → Group) : (s.modG g f).mc = s.mc := rfl
@[simp] theorem State.modG_msp (g : GroupIx) (f : Group → Group) : (s.modG g f).msp = s.msp := rfl
@[simp] theorem State.modG_kl (g : GroupIx) (f : Group → Group) : (s.modG g f).kl = s.kl := rfl
@[simp] theorem State.modG_pair (g : GroupIx) (f : Group → Group) : (s.modG g f).pair = s.pair := rfl
@[simp] theorem State.modG_tel (g : GroupIx) (f : Group → Group) : (s.modG g f).tel = s.tel := rfl
@[simp] theorem State.modG_tap (g : GroupIx) (f : Group → Group) : (s.modG g f).tap = s.tap := rfl
@[simp] theorem State.modG_rf (g : GroupIx) (f : Group → Group) : (s.modG g f).rf = s.rf := rfl
@[simp] theorem State.modG_sram (g : GroupIx) (f : Group → Group) : (s.modG g f).sram = s.sram := rfl
@[simp] theorem State.modG_draws (g : GroupIx) (f : Group → Group) : (s.modG g f).draws = s.draws := rfl

@[simp] theorem State.modC_pending (g : GroupIx) (l : LaneIx) (f : Channel → Channel) : (s.modC g l f).pending = s.pending := rfl
@[simp] theorem State.modC_esc (g : GroupIx) (l : LaneIx) (f : Channel → Channel) : (s.modC g l f).esc = s.esc := rfl
@[simp] theorem State.modC_fus (g : GroupIx) (l : LaneIx) (f : Channel → Channel) : (s.modC g l f).fus = s.fus := rfl
@[simp] theorem State.modC_stores (g : GroupIx) (l : LaneIx) (f : Channel → Channel) : (s.modC g l f).stores = s.stores := rfl
@[simp] theorem State.modC_streams (g : GroupIx) (l : LaneIx) (f : Channel → Channel) : (s.modC g l f).streams = s.streams := rfl
@[simp] theorem State.modC_lines (g : GroupIx) (l : LaneIx) (f : Channel → Channel) : (s.modC g l f).lines = s.lines := rfl
@[simp] theorem State.modC_rings (g : GroupIx) (l : LaneIx) (f : Channel → Channel) : (s.modC g l f).rings = s.rings := rfl
@[simp] theorem State.modC_flt (g : GroupIx) (l : LaneIx) (f : Channel → Channel) : (s.modC g l f).flt = s.flt := rfl
@[simp] theorem State.modC_thm (g : GroupIx) (l : LaneIx) (f : Channel → Channel) : (s.modC g l f).thm = s.thm := rfl
@[simp] theorem State.modC_clk (g : GroupIx) (l : LaneIx) (f : Channel → Channel) : (s.modC g l f).clk = s.clk := rfl
@[simp] theorem State.modC_sync (g : GroupIx) (l : LaneIx) (f : Channel → Channel) : (s.modC g l f).sync = s.sync := rfl
@[simp] theorem State.modC_modes (g : GroupIx) (l : LaneIx) (f : Channel → Channel) : (s.modC g l f).modes = s.modes := rfl
@[simp] theorem State.modC_boot (g : GroupIx) (l : LaneIx) (f : Channel → Channel) : (s.modC g l f).boot = s.boot := rfl
@[simp] theorem State.modC_nvm (g : GroupIx) (l : LaneIx) (f : Channel → Channel) : (s.modC g l f).nvm = s.nvm := rfl
@[simp] theorem State.modC_mc (g : GroupIx) (l : LaneIx) (f : Channel → Channel) : (s.modC g l f).mc = s.mc := rfl
@[simp] theorem State.modC_msp (g : GroupIx) (l : LaneIx) (f : Channel → Channel) : (s.modC g l f).msp = s.msp := rfl
@[simp] theorem State.modC_kl (g : GroupIx) (l : LaneIx) (f : Channel → Channel) : (s.modC g l f).kl = s.kl := rfl
@[simp] theorem State.modC_pair (g : GroupIx) (l : LaneIx) (f : Channel → Channel) : (s.modC g l f).pair = s.pair := rfl
@[simp] theorem State.modC_tel (g : GroupIx) (l : LaneIx) (f : Channel → Channel) : (s.modC g l f).tel = s.tel := rfl
@[simp] theorem State.modC_tap (g : GroupIx) (l : LaneIx) (f : Channel → Channel) : (s.modC g l f).tap = s.tap := rfl
@[simp] theorem State.modC_rf (g : GroupIx) (l : LaneIx) (f : Channel → Channel) : (s.modC g l f).rf = s.rf := rfl
@[simp] theorem State.modC_sram (g : GroupIx) (l : LaneIx) (f : Channel → Channel) : (s.modC g l f).sram = s.sram := rfl
@[simp] theorem State.modC_draws (g : GroupIx) (l : LaneIx) (f : Channel → Channel) : (s.modC g l f).draws = s.draws := rfl

@[simp] theorem State.modFe_pending (g : GroupIx) (l : LaneIx) (f : FrontEnd → FrontEnd) : (s.modFe g l f).pending = s.pending := rfl
@[simp] theorem State.modFe_esc (g : GroupIx) (l : LaneIx) (f : FrontEnd → FrontEnd) : (s.modFe g l f).esc = s.esc := rfl
@[simp] theorem State.modFe_fus (g : GroupIx) (l : LaneIx) (f : FrontEnd → FrontEnd) : (s.modFe g l f).fus = s.fus := rfl
@[simp] theorem State.modFe_stores (g : GroupIx) (l : LaneIx) (f : FrontEnd → FrontEnd) : (s.modFe g l f).stores = s.stores := rfl
@[simp] theorem State.modFe_streams (g : GroupIx) (l : LaneIx) (f : FrontEnd → FrontEnd) : (s.modFe g l f).streams = s.streams := rfl
@[simp] theorem State.modFe_lines (g : GroupIx) (l : LaneIx) (f : FrontEnd → FrontEnd) : (s.modFe g l f).lines = s.lines := rfl
@[simp] theorem State.modFe_rings (g : GroupIx) (l : LaneIx) (f : FrontEnd → FrontEnd) : (s.modFe g l f).rings = s.rings := rfl
@[simp] theorem State.modFe_flt (g : GroupIx) (l : LaneIx) (f : FrontEnd → FrontEnd) : (s.modFe g l f).flt = s.flt := rfl
@[simp] theorem State.modFe_thm (g : GroupIx) (l : LaneIx) (f : FrontEnd → FrontEnd) : (s.modFe g l f).thm = s.thm := rfl
@[simp] theorem State.modFe_clk (g : GroupIx) (l : LaneIx) (f : FrontEnd → FrontEnd) : (s.modFe g l f).clk = s.clk := rfl
@[simp] theorem State.modFe_sync (g : GroupIx) (l : LaneIx) (f : FrontEnd → FrontEnd) : (s.modFe g l f).sync = s.sync := rfl
@[simp] theorem State.modFe_modes (g : GroupIx) (l : LaneIx) (f : FrontEnd → FrontEnd) : (s.modFe g l f).modes = s.modes := rfl
@[simp] theorem State.modFe_boot (g : GroupIx) (l : LaneIx) (f : FrontEnd → FrontEnd) : (s.modFe g l f).boot = s.boot := rfl
@[simp] theorem State.modFe_nvm (g : GroupIx) (l : LaneIx) (f : FrontEnd → FrontEnd) : (s.modFe g l f).nvm = s.nvm := rfl
@[simp] theorem State.modFe_mc (g : GroupIx) (l : LaneIx) (f : FrontEnd → FrontEnd) : (s.modFe g l f).mc = s.mc := rfl
@[simp] theorem State.modFe_msp (g : GroupIx) (l : LaneIx) (f : FrontEnd → FrontEnd) : (s.modFe g l f).msp = s.msp := rfl
@[simp] theorem State.modFe_kl (g : GroupIx) (l : LaneIx) (f : FrontEnd → FrontEnd) : (s.modFe g l f).kl = s.kl := rfl
@[simp] theorem State.modFe_pair (g : GroupIx) (l : LaneIx) (f : FrontEnd → FrontEnd) : (s.modFe g l f).pair = s.pair := rfl
@[simp] theorem State.modFe_tel (g : GroupIx) (l : LaneIx) (f : FrontEnd → FrontEnd) : (s.modFe g l f).tel = s.tel := rfl
@[simp] theorem State.modFe_tap (g : GroupIx) (l : LaneIx) (f : FrontEnd → FrontEnd) : (s.modFe g l f).tap = s.tap := rfl
@[simp] theorem State.modFe_rf (g : GroupIx) (l : LaneIx) (f : FrontEnd → FrontEnd) : (s.modFe g l f).rf = s.rf := rfl
@[simp] theorem State.modFe_sram (g : GroupIx) (l : LaneIx) (f : FrontEnd → FrontEnd) : (s.modFe g l f).sram = s.sram := rfl
@[simp] theorem State.modFe_draws (g : GroupIx) (l : LaneIx) (f : FrontEnd → FrontEnd) : (s.modFe g l f).draws = s.draws := rfl

@[simp] theorem State.modMs_pending (g : GroupIx) (l : LaneIx) (f : Measure → Measure) : (s.modMs g l f).pending = s.pending := rfl
@[simp] theorem State.modMs_esc (g : GroupIx) (l : LaneIx) (f : Measure → Measure) : (s.modMs g l f).esc = s.esc := rfl
@[simp] theorem State.modMs_fus (g : GroupIx) (l : LaneIx) (f : Measure → Measure) : (s.modMs g l f).fus = s.fus := rfl
@[simp] theorem State.modMs_stores (g : GroupIx) (l : LaneIx) (f : Measure → Measure) : (s.modMs g l f).stores = s.stores := rfl
@[simp] theorem State.modMs_streams (g : GroupIx) (l : LaneIx) (f : Measure → Measure) : (s.modMs g l f).streams = s.streams := rfl
@[simp] theorem State.modMs_lines (g : GroupIx) (l : LaneIx) (f : Measure → Measure) : (s.modMs g l f).lines = s.lines := rfl
@[simp] theorem State.modMs_rings (g : GroupIx) (l : LaneIx) (f : Measure → Measure) : (s.modMs g l f).rings = s.rings := rfl
@[simp] theorem State.modMs_flt (g : GroupIx) (l : LaneIx) (f : Measure → Measure) : (s.modMs g l f).flt = s.flt := rfl
@[simp] theorem State.modMs_thm (g : GroupIx) (l : LaneIx) (f : Measure → Measure) : (s.modMs g l f).thm = s.thm := rfl
@[simp] theorem State.modMs_clk (g : GroupIx) (l : LaneIx) (f : Measure → Measure) : (s.modMs g l f).clk = s.clk := rfl
@[simp] theorem State.modMs_sync (g : GroupIx) (l : LaneIx) (f : Measure → Measure) : (s.modMs g l f).sync = s.sync := rfl
@[simp] theorem State.modMs_modes (g : GroupIx) (l : LaneIx) (f : Measure → Measure) : (s.modMs g l f).modes = s.modes := rfl
@[simp] theorem State.modMs_boot (g : GroupIx) (l : LaneIx) (f : Measure → Measure) : (s.modMs g l f).boot = s.boot := rfl
@[simp] theorem State.modMs_nvm (g : GroupIx) (l : LaneIx) (f : Measure → Measure) : (s.modMs g l f).nvm = s.nvm := rfl
@[simp] theorem State.modMs_mc (g : GroupIx) (l : LaneIx) (f : Measure → Measure) : (s.modMs g l f).mc = s.mc := rfl
@[simp] theorem State.modMs_msp (g : GroupIx) (l : LaneIx) (f : Measure → Measure) : (s.modMs g l f).msp = s.msp := rfl
@[simp] theorem State.modMs_kl (g : GroupIx) (l : LaneIx) (f : Measure → Measure) : (s.modMs g l f).kl = s.kl := rfl
@[simp] theorem State.modMs_pair (g : GroupIx) (l : LaneIx) (f : Measure → Measure) : (s.modMs g l f).pair = s.pair := rfl
@[simp] theorem State.modMs_tel (g : GroupIx) (l : LaneIx) (f : Measure → Measure) : (s.modMs g l f).tel = s.tel := rfl
@[simp] theorem State.modMs_tap (g : GroupIx) (l : LaneIx) (f : Measure → Measure) : (s.modMs g l f).tap = s.tap := rfl
@[simp] theorem State.modMs_rf (g : GroupIx) (l : LaneIx) (f : Measure → Measure) : (s.modMs g l f).rf = s.rf := rfl
@[simp] theorem State.modMs_sram (g : GroupIx) (l : LaneIx) (f : Measure → Measure) : (s.modMs g l f).sram = s.sram := rfl
@[simp] theorem State.modMs_draws (g : GroupIx) (l : LaneIx) (f : Measure → Measure) : (s.modMs g l f).draws = s.draws := rfl

@[simp] theorem State.modTd_pending (g : GroupIx) (l : LaneIx) (f : Stamper → Stamper) : (s.modTd g l f).pending = s.pending := rfl
@[simp] theorem State.modTd_esc (g : GroupIx) (l : LaneIx) (f : Stamper → Stamper) : (s.modTd g l f).esc = s.esc := rfl
@[simp] theorem State.modTd_fus (g : GroupIx) (l : LaneIx) (f : Stamper → Stamper) : (s.modTd g l f).fus = s.fus := rfl
@[simp] theorem State.modTd_stores (g : GroupIx) (l : LaneIx) (f : Stamper → Stamper) : (s.modTd g l f).stores = s.stores := rfl
@[simp] theorem State.modTd_streams (g : GroupIx) (l : LaneIx) (f : Stamper → Stamper) : (s.modTd g l f).streams = s.streams := rfl
@[simp] theorem State.modTd_lines (g : GroupIx) (l : LaneIx) (f : Stamper → Stamper) : (s.modTd g l f).lines = s.lines := rfl
@[simp] theorem State.modTd_rings (g : GroupIx) (l : LaneIx) (f : Stamper → Stamper) : (s.modTd g l f).rings = s.rings := rfl
@[simp] theorem State.modTd_flt (g : GroupIx) (l : LaneIx) (f : Stamper → Stamper) : (s.modTd g l f).flt = s.flt := rfl
@[simp] theorem State.modTd_thm (g : GroupIx) (l : LaneIx) (f : Stamper → Stamper) : (s.modTd g l f).thm = s.thm := rfl
@[simp] theorem State.modTd_clk (g : GroupIx) (l : LaneIx) (f : Stamper → Stamper) : (s.modTd g l f).clk = s.clk := rfl
@[simp] theorem State.modTd_sync (g : GroupIx) (l : LaneIx) (f : Stamper → Stamper) : (s.modTd g l f).sync = s.sync := rfl
@[simp] theorem State.modTd_modes (g : GroupIx) (l : LaneIx) (f : Stamper → Stamper) : (s.modTd g l f).modes = s.modes := rfl
@[simp] theorem State.modTd_boot (g : GroupIx) (l : LaneIx) (f : Stamper → Stamper) : (s.modTd g l f).boot = s.boot := rfl
@[simp] theorem State.modTd_nvm (g : GroupIx) (l : LaneIx) (f : Stamper → Stamper) : (s.modTd g l f).nvm = s.nvm := rfl
@[simp] theorem State.modTd_mc (g : GroupIx) (l : LaneIx) (f : Stamper → Stamper) : (s.modTd g l f).mc = s.mc := rfl
@[simp] theorem State.modTd_msp (g : GroupIx) (l : LaneIx) (f : Stamper → Stamper) : (s.modTd g l f).msp = s.msp := rfl
@[simp] theorem State.modTd_kl (g : GroupIx) (l : LaneIx) (f : Stamper → Stamper) : (s.modTd g l f).kl = s.kl := rfl
@[simp] theorem State.modTd_pair (g : GroupIx) (l : LaneIx) (f : Stamper → Stamper) : (s.modTd g l f).pair = s.pair := rfl
@[simp] theorem State.modTd_tel (g : GroupIx) (l : LaneIx) (f : Stamper → Stamper) : (s.modTd g l f).tel = s.tel := rfl
@[simp] theorem State.modTd_tap (g : GroupIx) (l : LaneIx) (f : Stamper → Stamper) : (s.modTd g l f).tap = s.tap := rfl
@[simp] theorem State.modTd_rf (g : GroupIx) (l : LaneIx) (f : Stamper → Stamper) : (s.modTd g l f).rf = s.rf := rfl
@[simp] theorem State.modTd_sram (g : GroupIx) (l : LaneIx) (f : Stamper → Stamper) : (s.modTd g l f).sram = s.sram := rfl
@[simp] theorem State.modTd_draws (g : GroupIx) (l : LaneIx) (f : Stamper → Stamper) : (s.modTd g l f).draws = s.draws := rfl

@[simp] theorem State.modE_pending (g : GroupIx) (f : Engine → Engine) : (s.modE g f).pending = s.pending := rfl
@[simp] theorem State.modE_esc (g : GroupIx) (f : Engine → Engine) : (s.modE g f).esc = s.esc := rfl
@[simp] theorem State.modE_fus (g : GroupIx) (f : Engine → Engine) : (s.modE g f).fus = s.fus := rfl
@[simp] theorem State.modE_stores (g : GroupIx) (f : Engine → Engine) : (s.modE g f).stores = s.stores := rfl
@[simp] theorem State.modE_streams (g : GroupIx) (f : Engine → Engine) : (s.modE g f).streams = s.streams := rfl
@[simp] theorem State.modE_lines (g : GroupIx) (f : Engine → Engine) : (s.modE g f).lines = s.lines := rfl
@[simp] theorem State.modE_rings (g : GroupIx) (f : Engine → Engine) : (s.modE g f).rings = s.rings := rfl
@[simp] theorem State.modE_flt (g : GroupIx) (f : Engine → Engine) : (s.modE g f).flt = s.flt := rfl
@[simp] theorem State.modE_thm (g : GroupIx) (f : Engine → Engine) : (s.modE g f).thm = s.thm := rfl
@[simp] theorem State.modE_clk (g : GroupIx) (f : Engine → Engine) : (s.modE g f).clk = s.clk := rfl
@[simp] theorem State.modE_sync (g : GroupIx) (f : Engine → Engine) : (s.modE g f).sync = s.sync := rfl
@[simp] theorem State.modE_modes (g : GroupIx) (f : Engine → Engine) : (s.modE g f).modes = s.modes := rfl
@[simp] theorem State.modE_boot (g : GroupIx) (f : Engine → Engine) : (s.modE g f).boot = s.boot := rfl
@[simp] theorem State.modE_nvm (g : GroupIx) (f : Engine → Engine) : (s.modE g f).nvm = s.nvm := rfl
@[simp] theorem State.modE_mc (g : GroupIx) (f : Engine → Engine) : (s.modE g f).mc = s.mc := rfl
@[simp] theorem State.modE_msp (g : GroupIx) (f : Engine → Engine) : (s.modE g f).msp = s.msp := rfl
@[simp] theorem State.modE_kl (g : GroupIx) (f : Engine → Engine) : (s.modE g f).kl = s.kl := rfl
@[simp] theorem State.modE_pair (g : GroupIx) (f : Engine → Engine) : (s.modE g f).pair = s.pair := rfl
@[simp] theorem State.modE_tel (g : GroupIx) (f : Engine → Engine) : (s.modE g f).tel = s.tel := rfl
@[simp] theorem State.modE_tap (g : GroupIx) (f : Engine → Engine) : (s.modE g f).tap = s.tap := rfl
@[simp] theorem State.modE_rf (g : GroupIx) (f : Engine → Engine) : (s.modE g f).rf = s.rf := rfl
@[simp] theorem State.modE_sram (g : GroupIx) (f : Engine → Engine) : (s.modE g f).sram = s.sram := rfl
@[simp] theorem State.modE_draws (g : GroupIx) (f : Engine → Engine) : (s.modE g f).draws = s.draws := rfl

@[simp] theorem State.modQ_pending (g : GroupIx) (j : QuadIx) (f : Quad → Quad) : (s.modQ g j f).pending = s.pending := rfl
@[simp] theorem State.modQ_esc (g : GroupIx) (j : QuadIx) (f : Quad → Quad) : (s.modQ g j f).esc = s.esc := rfl
@[simp] theorem State.modQ_fus (g : GroupIx) (j : QuadIx) (f : Quad → Quad) : (s.modQ g j f).fus = s.fus := rfl
@[simp] theorem State.modQ_stores (g : GroupIx) (j : QuadIx) (f : Quad → Quad) : (s.modQ g j f).stores = s.stores := rfl
@[simp] theorem State.modQ_streams (g : GroupIx) (j : QuadIx) (f : Quad → Quad) : (s.modQ g j f).streams = s.streams := rfl
@[simp] theorem State.modQ_lines (g : GroupIx) (j : QuadIx) (f : Quad → Quad) : (s.modQ g j f).lines = s.lines := rfl
@[simp] theorem State.modQ_rings (g : GroupIx) (j : QuadIx) (f : Quad → Quad) : (s.modQ g j f).rings = s.rings := rfl
@[simp] theorem State.modQ_flt (g : GroupIx) (j : QuadIx) (f : Quad → Quad) : (s.modQ g j f).flt = s.flt := rfl
@[simp] theorem State.modQ_thm (g : GroupIx) (j : QuadIx) (f : Quad → Quad) : (s.modQ g j f).thm = s.thm := rfl
@[simp] theorem State.modQ_clk (g : GroupIx) (j : QuadIx) (f : Quad → Quad) : (s.modQ g j f).clk = s.clk := rfl
@[simp] theorem State.modQ_sync (g : GroupIx) (j : QuadIx) (f : Quad → Quad) : (s.modQ g j f).sync = s.sync := rfl
@[simp] theorem State.modQ_modes (g : GroupIx) (j : QuadIx) (f : Quad → Quad) : (s.modQ g j f).modes = s.modes := rfl
@[simp] theorem State.modQ_boot (g : GroupIx) (j : QuadIx) (f : Quad → Quad) : (s.modQ g j f).boot = s.boot := rfl
@[simp] theorem State.modQ_nvm (g : GroupIx) (j : QuadIx) (f : Quad → Quad) : (s.modQ g j f).nvm = s.nvm := rfl
@[simp] theorem State.modQ_mc (g : GroupIx) (j : QuadIx) (f : Quad → Quad) : (s.modQ g j f).mc = s.mc := rfl
@[simp] theorem State.modQ_msp (g : GroupIx) (j : QuadIx) (f : Quad → Quad) : (s.modQ g j f).msp = s.msp := rfl
@[simp] theorem State.modQ_kl (g : GroupIx) (j : QuadIx) (f : Quad → Quad) : (s.modQ g j f).kl = s.kl := rfl
@[simp] theorem State.modQ_pair (g : GroupIx) (j : QuadIx) (f : Quad → Quad) : (s.modQ g j f).pair = s.pair := rfl
@[simp] theorem State.modQ_tel (g : GroupIx) (j : QuadIx) (f : Quad → Quad) : (s.modQ g j f).tel = s.tel := rfl
@[simp] theorem State.modQ_tap (g : GroupIx) (j : QuadIx) (f : Quad → Quad) : (s.modQ g j f).tap = s.tap := rfl
@[simp] theorem State.modQ_rf (g : GroupIx) (j : QuadIx) (f : Quad → Quad) : (s.modQ g j f).rf = s.rf := rfl
@[simp] theorem State.modQ_sram (g : GroupIx) (j : QuadIx) (f : Quad → Quad) : (s.modQ g j f).sram = s.sram := rfl
@[simp] theorem State.modQ_draws (g : GroupIx) (j : QuadIx) (f : Quad → Quad) : (s.modQ g j f).draws = s.draws := rfl

@[simp] theorem State.modS_pending (g : GroupIx) (f : GroupStores → GroupStores) : (s.modS g f).pending = s.pending := rfl
@[simp] theorem State.modS_esc (g : GroupIx) (f : GroupStores → GroupStores) : (s.modS g f).esc = s.esc := rfl
@[simp] theorem State.modS_fus (g : GroupIx) (f : GroupStores → GroupStores) : (s.modS g f).fus = s.fus := rfl
@[simp] theorem State.modS_groups (g : GroupIx) (f : GroupStores → GroupStores) : (s.modS g f).groups = s.groups := rfl
@[simp] theorem State.modS_streams (g : GroupIx) (f : GroupStores → GroupStores) : (s.modS g f).streams = s.streams := rfl
@[simp] theorem State.modS_lines (g : GroupIx) (f : GroupStores → GroupStores) : (s.modS g f).lines = s.lines := rfl
@[simp] theorem State.modS_rings (g : GroupIx) (f : GroupStores → GroupStores) : (s.modS g f).rings = s.rings := rfl
@[simp] theorem State.modS_flt (g : GroupIx) (f : GroupStores → GroupStores) : (s.modS g f).flt = s.flt := rfl
@[simp] theorem State.modS_thm (g : GroupIx) (f : GroupStores → GroupStores) : (s.modS g f).thm = s.thm := rfl
@[simp] theorem State.modS_clk (g : GroupIx) (f : GroupStores → GroupStores) : (s.modS g f).clk = s.clk := rfl
@[simp] theorem State.modS_sync (g : GroupIx) (f : GroupStores → GroupStores) : (s.modS g f).sync = s.sync := rfl
@[simp] theorem State.modS_modes (g : GroupIx) (f : GroupStores → GroupStores) : (s.modS g f).modes = s.modes := rfl
@[simp] theorem State.modS_boot (g : GroupIx) (f : GroupStores → GroupStores) : (s.modS g f).boot = s.boot := rfl
@[simp] theorem State.modS_nvm (g : GroupIx) (f : GroupStores → GroupStores) : (s.modS g f).nvm = s.nvm := rfl
@[simp] theorem State.modS_mc (g : GroupIx) (f : GroupStores → GroupStores) : (s.modS g f).mc = s.mc := rfl
@[simp] theorem State.modS_msp (g : GroupIx) (f : GroupStores → GroupStores) : (s.modS g f).msp = s.msp := rfl
@[simp] theorem State.modS_kl (g : GroupIx) (f : GroupStores → GroupStores) : (s.modS g f).kl = s.kl := rfl
@[simp] theorem State.modS_pair (g : GroupIx) (f : GroupStores → GroupStores) : (s.modS g f).pair = s.pair := rfl
@[simp] theorem State.modS_tel (g : GroupIx) (f : GroupStores → GroupStores) : (s.modS g f).tel = s.tel := rfl
@[simp] theorem State.modS_tap (g : GroupIx) (f : GroupStores → GroupStores) : (s.modS g f).tap = s.tap := rfl
@[simp] theorem State.modS_rf (g : GroupIx) (f : GroupStores → GroupStores) : (s.modS g f).rf = s.rf := rfl
@[simp] theorem State.modS_sram (g : GroupIx) (f : GroupStores → GroupStores) : (s.modS g f).sram = s.sram := rfl
@[simp] theorem State.modS_draws (g : GroupIx) (f : GroupStores → GroupStores) : (s.modS g f).draws = s.draws := rfl

@[simp] theorem State.modSt_pending (i : StreamIx) (f : Stream → Stream) : (s.modSt i f).pending = s.pending := rfl
@[simp] theorem State.modSt_esc (i : StreamIx) (f : Stream → Stream) : (s.modSt i f).esc = s.esc := rfl
@[simp] theorem State.modSt_fus (i : StreamIx) (f : Stream → Stream) : (s.modSt i f).fus = s.fus := rfl
@[simp] theorem State.modSt_groups (i : StreamIx) (f : Stream → Stream) : (s.modSt i f).groups = s.groups := rfl
@[simp] theorem State.modSt_stores (i : StreamIx) (f : Stream → Stream) : (s.modSt i f).stores = s.stores := rfl
@[simp] theorem State.modSt_lines (i : StreamIx) (f : Stream → Stream) : (s.modSt i f).lines = s.lines := rfl
@[simp] theorem State.modSt_rings (i : StreamIx) (f : Stream → Stream) : (s.modSt i f).rings = s.rings := rfl
@[simp] theorem State.modSt_flt (i : StreamIx) (f : Stream → Stream) : (s.modSt i f).flt = s.flt := rfl
@[simp] theorem State.modSt_thm (i : StreamIx) (f : Stream → Stream) : (s.modSt i f).thm = s.thm := rfl
@[simp] theorem State.modSt_clk (i : StreamIx) (f : Stream → Stream) : (s.modSt i f).clk = s.clk := rfl
@[simp] theorem State.modSt_sync (i : StreamIx) (f : Stream → Stream) : (s.modSt i f).sync = s.sync := rfl
@[simp] theorem State.modSt_modes (i : StreamIx) (f : Stream → Stream) : (s.modSt i f).modes = s.modes := rfl
@[simp] theorem State.modSt_boot (i : StreamIx) (f : Stream → Stream) : (s.modSt i f).boot = s.boot := rfl
@[simp] theorem State.modSt_nvm (i : StreamIx) (f : Stream → Stream) : (s.modSt i f).nvm = s.nvm := rfl
@[simp] theorem State.modSt_mc (i : StreamIx) (f : Stream → Stream) : (s.modSt i f).mc = s.mc := rfl
@[simp] theorem State.modSt_msp (i : StreamIx) (f : Stream → Stream) : (s.modSt i f).msp = s.msp := rfl
@[simp] theorem State.modSt_kl (i : StreamIx) (f : Stream → Stream) : (s.modSt i f).kl = s.kl := rfl
@[simp] theorem State.modSt_pair (i : StreamIx) (f : Stream → Stream) : (s.modSt i f).pair = s.pair := rfl
@[simp] theorem State.modSt_tel (i : StreamIx) (f : Stream → Stream) : (s.modSt i f).tel = s.tel := rfl
@[simp] theorem State.modSt_tap (i : StreamIx) (f : Stream → Stream) : (s.modSt i f).tap = s.tap := rfl
@[simp] theorem State.modSt_rf (i : StreamIx) (f : Stream → Stream) : (s.modSt i f).rf = s.rf := rfl
@[simp] theorem State.modSt_sram (i : StreamIx) (f : Stream → Stream) : (s.modSt i f).sram = s.sram := rfl
@[simp] theorem State.modSt_draws (i : StreamIx) (f : Stream → Stream) : (s.modSt i f).draws = s.draws := rfl

@[simp] theorem State.modL_pending (l : LineIx) (f : Line → Line) : (s.modL l f).pending = s.pending := rfl
@[simp] theorem State.modL_esc (l : LineIx) (f : Line → Line) : (s.modL l f).esc = s.esc := rfl
@[simp] theorem State.modL_fus (l : LineIx) (f : Line → Line) : (s.modL l f).fus = s.fus := rfl
@[simp] theorem State.modL_groups (l : LineIx) (f : Line → Line) : (s.modL l f).groups = s.groups := rfl
@[simp] theorem State.modL_stores (l : LineIx) (f : Line → Line) : (s.modL l f).stores = s.stores := rfl
@[simp] theorem State.modL_streams (l : LineIx) (f : Line → Line) : (s.modL l f).streams = s.streams := rfl
@[simp] theorem State.modL_rings (l : LineIx) (f : Line → Line) : (s.modL l f).rings = s.rings := rfl
@[simp] theorem State.modL_flt (l : LineIx) (f : Line → Line) : (s.modL l f).flt = s.flt := rfl
@[simp] theorem State.modL_thm (l : LineIx) (f : Line → Line) : (s.modL l f).thm = s.thm := rfl
@[simp] theorem State.modL_clk (l : LineIx) (f : Line → Line) : (s.modL l f).clk = s.clk := rfl
@[simp] theorem State.modL_sync (l : LineIx) (f : Line → Line) : (s.modL l f).sync = s.sync := rfl
@[simp] theorem State.modL_modes (l : LineIx) (f : Line → Line) : (s.modL l f).modes = s.modes := rfl
@[simp] theorem State.modL_boot (l : LineIx) (f : Line → Line) : (s.modL l f).boot = s.boot := rfl
@[simp] theorem State.modL_nvm (l : LineIx) (f : Line → Line) : (s.modL l f).nvm = s.nvm := rfl
@[simp] theorem State.modL_mc (l : LineIx) (f : Line → Line) : (s.modL l f).mc = s.mc := rfl
@[simp] theorem State.modL_msp (l : LineIx) (f : Line → Line) : (s.modL l f).msp = s.msp := rfl
@[simp] theorem State.modL_kl (l : LineIx) (f : Line → Line) : (s.modL l f).kl = s.kl := rfl
@[simp] theorem State.modL_pair (l : LineIx) (f : Line → Line) : (s.modL l f).pair = s.pair := rfl
@[simp] theorem State.modL_tel (l : LineIx) (f : Line → Line) : (s.modL l f).tel = s.tel := rfl
@[simp] theorem State.modL_tap (l : LineIx) (f : Line → Line) : (s.modL l f).tap = s.tap := rfl
@[simp] theorem State.modL_rf (l : LineIx) (f : Line → Line) : (s.modL l f).rf = s.rf := rfl
@[simp] theorem State.modL_sram (l : LineIx) (f : Line → Line) : (s.modL l f).sram = s.sram := rfl
@[simp] theorem State.modL_draws (l : LineIx) (f : Line → Line) : (s.modL l f).draws = s.draws := rfl

/-! ## Registers and headers -/

theorem State.reg_setReg (a b : Nat) (v : Word) : (s.setReg a v).reg b = if b = a then v else s.reg b := by
  by_cases h : b = a
  · subst h; simp [State.reg, State.setReg]
  · simp only [State.reg, State.setReg, h, if_false]
    exact tget_tset_default _ _ _ _ _ _ h

@[simp] theorem State.reg_setReg_same (a : Nat) (v : Word) : (s.setReg a v).reg a = v := by simp [State.reg_setReg]

theorem State.reg_setReg_ne {a b : Nat} (v : Word) (h : b ≠ a) : (s.setReg a v).reg b = s.reg b := by
  simp [State.reg_setReg, h]

@[simp] theorem State.hdr_setReg (a p : Nat) (v : Word) : (s.setReg a v).hdr p = s.hdr p := rfl
@[simp] theorem State.reg_modHdr (p a : Nat) (f : PageHdr → PageHdr) : (s.modHdr p f).reg a = s.reg a := rfl
@[simp] theorem State.reg_event (p i a : Nat) : (s.event p i).reg a = s.reg a := rfl

theorem State.hdr_modHdr (p q : Nat) (f : PageHdr → PageHdr) :
    (s.modHdr p f).hdr q = if q = p then f (s.hdr p) else s.hdr q := by
  simp [State.hdr, State.modHdr, tget_tset]

@[simp] theorem State.hdr_modHdr_same (p : Nat) (f : PageHdr → PageHdr) : (s.modHdr p f).hdr p = f (s.hdr p) := by
  simp [State.hdr_modHdr]

theorem State.hdr_modHdr_ne {p q : Nat} (f : PageHdr → PageHdr) (h : q ≠ p) : (s.modHdr p f).hdr q = s.hdr q := by
  simp [State.hdr_modHdr, h]

/-! ## Groups, channels, quads, stores, streams, lines -/

theorem vmod_get {α : Type} {n : Nat} (v : Vector α n) (i j : Fin n) (f : α → α) :
    (vmod v i f)[j] = if j = i then f v[i] else v[j] := by
  by_cases h : j = i
  · subst h; simp [vmod]
  · have : i.val ≠ j.val := fun e => h (Fin.ext e.symm)
    simp [vmod, h, this]

@[simp] theorem vmod_getElem {α : Type} {n : Nat} (v : Vector α n) (i : Fin n) (f : α → α) (k : Nat) (hk : k < n) :
    (vmod v i f)[k] = if k = i.val then f v[i.val] else v[k] := by
  by_cases h : k = i.val
  · subst h; simp [vmod]
  · have : i.val ≠ k := fun e => h e.symm
    simp [vmod, h, this]

theorem State.grp_modG (g h : GroupIx) (f : Group → Group) :
    (s.modG g f).grp h = if h = g then f (s.grp g) else s.grp h := vmod_get s.groups g h f

@[simp] theorem State.grp_modG_same (g : GroupIx) (f : Group → Group) : (s.modG g f).grp g = f (s.grp g) := by
  simp [State.grp_modG]

theorem State.grp_modG_ne {g h : GroupIx} (f : Group → Group) (n : h ≠ g) : (s.modG g f).grp h = s.grp h := by
  simp [State.grp_modG, n]

@[simp] theorem State.grp_setReg (a : Nat) (v : Word) (g : GroupIx) : (s.setReg a v).grp g = s.grp g := rfl
@[simp] theorem State.grp_modHdr (p : Nat) (f : PageHdr → PageHdr) (g : GroupIx) : (s.modHdr p f).grp g = s.grp g := rfl
@[simp] theorem State.grp_modS (k : GroupIx) (f : GroupStores → GroupStores) (g : GroupIx) :
    (s.modS k f).grp g = s.grp g := rfl

@[simp] theorem State.grp_modE_same (g : GroupIx) (f : Engine → Engine) :
    (s.modE g f).grp g = { s.grp g with eng := f (s.grp g).eng } := by simp [State.modE]

theorem State.grp_modE_ne {g h : GroupIx} (f : Engine → Engine) (n : h ≠ g) : (s.modE g f).grp h = s.grp h := by
  simp [State.modE, State.grp_modG_ne s _ n]

theorem State.chan_modC (g h : GroupIx) (l n : LaneIx) (f : Channel → Channel) :
    (s.modC g l f).chan h n = if h = g ∧ n = l then f (s.chan g l) else s.chan h n := by
  by_cases hg : h = g
  · subst hg
    by_cases hn : n = l
    · subst hn; simp [State.chan, State.modC, Group.modC, Group.ch]
    · simp [State.chan, State.modC, Group.modC, Group.ch, hn, Fin.val_inj]
  · simp [State.chan, State.modC, State.grp_modG_ne s _ hg, hg]

@[simp] theorem State.chan_modC_same (g : GroupIx) (l : LaneIx) (f : Channel → Channel) :
    (s.modC g l f).chan g l = f (s.chan g l) := by simp [State.chan_modC]

theorem State.quad_modQ (g h : GroupIx) (i j : QuadIx) (f : Quad → Quad) :
    (s.modQ g j f).quad h i = if h = g ∧ i = j then f (s.quad g j) else s.quad h i := by
  by_cases hg : h = g
  · subst hg
    by_cases hn : i = j
    · subst hn; simp [State.quad, State.modQ]
    · simp [State.quad, State.modQ, hn, Fin.val_inj]
  · simp [State.quad, State.modQ, State.grp_modG_ne s _ hg, hg]

theorem State.stores_modS_get (g h : GroupIx) (f : GroupStores → GroupStores) :
    (s.modS g f).stores[h] = if h = g then f s.stores[g] else s.stores[h] := vmod_get s.stores g h f

theorem State.streams_modSt_get (i j : StreamIx) (f : Stream → Stream) :
    (s.modSt i f).streams[j] = if j = i then f s.streams[i] else s.streams[j] := vmod_get s.streams i j f

theorem State.lines_modL_get (l k : LineIx) (f : Line → Line) :
    (s.modL l f).lines[k] = if k = l then f s.lines[l] else s.lines[k] := vmod_get s.lines l k f

end Sys2Proof.Machine
end

