-- ==== Sys2Proof/Laws/Operations.lean ====
section
/-! SUPPORT. Shared operations: for each, what it can change at most, and what it does where that is said in a line. -/

namespace Sys2Proof.Machine

open Sys2Proof

variable (s : State)

/-! ## Injection, SRAM, group stores -/

theorem State.takeInjection_frame (t : Nat) : (s.takeInjection t).2 = { s with rf := (s.takeInjection t).2.rf } := by
  unfold State.takeInjection; dsimp only; split <;> rfl

/-- A write of a word drops what waits to be written back to it, and counts that at most. -/
theorem State.skipBack_frame (a : Nat) :
    s.skipBack a = { s with sram := (s.skipBack a).sram, rf := (s.skipBack a).rf } := by
  unfold State.skipBack; split <;> rfl

/-- Dropping what waits leaves every cell as it is. -/
theorem State.skipBack_wf (a : Nat) (w : s.sram.wf = true) : (s.skipBack a).sram.wf = true := by
  unfold State.skipBack; split <;> exact w

/-- A word write of the unit changes the SRAM, a count and an injection register at most. -/
theorem State.sramWrite_frame (a : Nat) (v : Word) :
    s.sramWrite a v = { s with sram := (s.sramWrite a v).sram, rf := (s.sramWrite a v).rf } := by
  have h := (s.skipBack a).takeInjection_frame (sramTarget a)
  have h' := s.skipBack_frame a
  unfold State.sramWrite
  generalize hx : (s.skipBack a).takeInjection (sramTarget a) = x at h ⊢
  obtain ⟨i, t⟩ := x
  simp only at h
  cases i <;> (dsimp only; rw [h, h'])

/-- It keeps the canonical form of the cells. -/
theorem State.sramWrite_wf (a : Nat) (v : Word) (w : s.sram.wf = true) : (s.sramWrite a v).sram.wf = true := by
  have h := (s.skipBack a).takeInjection_frame (sramTarget a)
  have w' := s.skipBack_wf a w
  unfold State.sramWrite
  generalize hx : (s.skipBack a).takeInjection (sramTarget a) = x at h ⊢
  obtain ⟨i, t⟩ := x
  simp only at h
  have ht : t.sram = (s.skipBack a).sram := by rw [h]
  rw [← ht] at w'
  cases i with
  | none => exact Sram.setWord_wf _ _ _ w'
  | some p => exact Sram.setRaw_wf _ _ _ _ w'

/-- So does writing back what waits. -/
theorem State.writeBack_wf (w : s.sram.wf = true) : s.writeBack.sram.wf = true := by
  suffices h : ∀ (l : List (Nat × Word)) (t : State), t.sram.wf = true →
      (l.foldl (fun s e => s.sramWrite e.1 e.2) t).sram.wf = true by exact h _ _ w
  intro l
  induction l with
  | nil => exact fun _ h => h
  | cons e l ih => exact fun t h => ih _ (t.sramWrite_wf e.1 e.2 h)

theorem State.setCpm_frame (g : GroupIx) (a : Nat) (v : Word) :
    s.setCpm g a v = { s with stores := (s.setCpm g a v).stores, rf := (s.setCpm g a v).rf } := by
  have h := s.takeInjection_frame 4
  unfold State.setCpm
  generalize hx : s.takeInjection 4 = x at h ⊢
  obtain ⟨i, t⟩ := x
  simp only [State.modS] at h ⊢
  rw [h]

/-- A clear on its way to the tile changes the groups at most (R71). -/
theorem State.issueClear_frame (g : GroupIx) (hi lo : LaneMask) :
    s.issueClear g hi lo = { s with groups := (s.issueClear g hi lo).groups } := rfl

/-- With no clear due at the tile nothing changes (R71). -/
theorem State.clearsArrive_none (g : GroupIx) (h : (s.grp g).clears = []) : s.clearsArrive g = s := by
  simp [State.clearsArrive, h]

/-- An operation on its way to the tile changes its group's list of them, and nothing else (01 R6). -/
theorem State.send_frame (g : GroupIx) (m : LaneMask) (op : TileOp) :
    s.send g m op = { s with groups := (s.send g m op).groups } := rfl

@[simp] theorem State.grp_send_same (g : GroupIx) (m : LaneMask) (op : TileOp) :
    (s.send g m op).grp g = { s.grp g with
      sends := (s.grp g).sends ++ (lanesOf m).map fun l => ⟨s.rootNow + linkDelay, l, op⟩ } := by
  simp [State.send]

theorem State.grp_send_ne {g h : GroupIx} (m : LaneMask) (op : TileOp) (hn : h ≠ g) :
    (s.send g m op).grp h = s.grp h := s.grp_modG_ne _ hn

/-- With no operation on its way nothing arrives at the tile. -/
theorem State.sendsArrive_none (g : GroupIx) (h : (s.grp g).sends = []) : s.sendsArrive g = s := by
  simp [State.sendsArrive, h]

theorem State.setTbl_frame (g : GroupIx) (a : Nat) (v : Word) :
    s.setTbl g a v = { s with stores := (s.setTbl g a v).stores, rf := (s.setTbl g a v).rf } := by
  have h := s.takeInjection_frame 6
  unfold State.setTbl
  generalize hx : s.takeInjection 6 = x at h ⊢
  obtain ⟨i, t⟩ := x
  simp only [State.modS] at h ⊢
  rw [h]

theorem State.setUcPart_frame (g : GroupIx) (a p : Nat) (v : Word) :
    s.setUcPart g a p v = { s with stores := (s.setUcPart g a p v).stores, rf := (s.setUcPart g a p v).rf } := by
  have h := s.takeInjection_frame 3
  unfold State.setUcPart
  generalize hx : s.takeInjection 3 = x at h ⊢
  obtain ⟨i, t⟩ := x
  simp only [State.modS] at h ⊢
  rw [h]

/-! ## Fault messages and events -/

/-- A message changes its source's queue, or the loss marks and their count. -/
theorem State.sendMsg_frame (src : Nat) (m : Msg) :
    s.sendMsg src m = { s with flt := (s.sendMsg src m).flt, rf := (s.sendMsg src m).rf } := by
  unfold State.sendMsg; dsimp only; split <;> rfl

theorem State.raise_frame (src kind a : Nat) :
    s.raise src kind a = { s with flt := (s.raise src kind a).flt, rf := (s.raise src kind a).rf } :=
  s.sendMsg_frame src _

/-- A source with room takes the message; nothing else changes. -/
theorem State.sendMsg_room (src : Nat) (m : Msg) (h : (tget [] s.flt.queues src).length < 8) :
    s.sendMsg src m = { s with flt := { s.flt with
      queues := tset [] s.flt.queues src (tget [] s.flt.queues src ++ [m]) } } := by
  simp [State.sendMsg, h]

@[simp] theorem State.hdr_event_same (p i : Nat) :
    (s.event p i).hdr p = { s.hdr p with evt := (s.hdr p).evt ||| (1#16 <<< i), seq := (s.hdr p).seq + 1 } := by
  simp [State.event]

theorem State.hdr_event_ne {p q : Nat} (i : Nat) (h : q ≠ p) : (s.event p i).hdr q = s.hdr q := by
  simp [State.event, State.hdr_modHdr_ne s _ h]

/-! ## The engine's word (05 R123) -/

/-- In the cycle of the word it stands at, a running engine has nothing to wait for. -/
theorem State.nextCycle_ready (g : GroupIx) (h : (s.grp g).eng.ready = true) : s.nextCycle g = s := by
  simp only [Engine.ready, Bool.and_eq_true, Bool.not_eq_true'] at h
  simp [State.nextCycle, h.1.2, h.2, b2n]

/-- A field of a word acts at once where the engine stands at a word that it has not executed. -/
theorem State.field_ready (g : GroupIx) (f : State → State) (h : (s.grp g).eng.ready = true) : s.field g f = f s := by
  simp [State.field, s.nextCycle_ready g h, h]

/-- A field of a word acts only in a group whose engine runs a routine. -/
theorem State.field_stopped (g : GroupIx) (f : State → State) (h : (s.grp g).eng.running = false) : s.field g f = s := by
  simp [State.field, State.nextCycle, Engine.ready, h]

theorem State.latchView_frame (g : GroupIx) : s.latchView g = { s with groups := (s.latchView g).groups } := rfl

/-- A branch condition reads the state; a free value of CLAMP_ANY is the only thing it can take. -/
theorem State.clampAct_frame (g : GroupIx) : (s.clampAct g).2 = { s with draws := (s.clampAct g).2.draws } := rfl

theorem State.draw_frame : s.draw.2 = { s with draws := s.draws + 1 } := rfl

/-! ## Kwenlink and the root (13 R323), mode entries (14 R357) -/

/-- What a packet does, it does while the root runs. -/
theorem State.carried_runs (f : State → State) (h : s.rootRuns = true) : s.carried f = f s := by simp [State.carried, h]

theorem State.carried_lost (f : State → State) (h : s.rootRuns = false) : s.carried f = s := by simp [State.carried, h]

/-- An entry of an earlier SEQ cycle stands. -/
theorem State.undoEntry_later (h : s.modes.entryAt ≠ some s.rootNow) : s.undoEntry = s := by
  simp [State.undoEntry, h]

/-- A forwarded block goes to KL_TX, and changes nothing else (16 R395). -/
theorem State.forwardBlock_frame (b : KlBlock) :
    s.forwardBlock b = { s with kl := { s.kl with blocks := (s.forwardBlock b).kl.blocks } } := by
  unfold State.forwardBlock; split <;> rfl

/-! ## The step -/

@[simp] theorem step_cons (c : Instr) (rest : List Instr) (h : s.pending = c :: rest) :
    step s = exec c (s.withPending rest) := by simp [step, h]

@[simp] theorem step_nil (h : s.pending = []) : step s = .next s.seqCycle := by simp [step, h]

end Sys2Proof.Machine
end

