-- ==== Sys2Proof/Machine/Analog.lean ====
section
/-! DEFINITION. The physical quantities that codes stand for (03 R54 to R58, R65, R67, R68; 04 R114): exact numbers
in the units each definition names, with VREF = 5 V. -/

namespace Sys2Proof.Machine

open Sys2Proof

/-! ## Scales (R54, R55, R65, R67) -/

/-- Voltage of a force code, in VREF / 262,144 (R54). -/
def forceVolts (v : BitVec 18) : Int := 2 * (v.toNat : Int) - 131072

/-- Full scale of a range in nA (R55). -/
def fullScale (range : BitVec 3) : Nat :=
  match (rangeCode range).toNat with
  | 0 => 2000
  | 1 => 20000
  | 2 => 200000
  | 3 => 2000000
  | _ => 32000000

/-- Current of a force code on a full scale in nA, in nA / 131,072 (R55). -/
def forceAmps (scale : Nat) (i : BitVec 18) : Int := scale * ((i.toNat : Int) - 131072)

/-- Voltage of a threshold code, in VREF / 65,536 (R67). -/
def thrVolts (h : BitVec 16) : Int := 2 * (h.toNat : Int) - 32768

/-- Current of a threshold code on a full scale in nA, in nA / 32,768 (R67). -/
def thrAmps (scale : Nat) (h : BitVec 16) : Int := scale * ((h.toNat : Int) - 32768)

/-- Driver level of a code in µV (R65). -/
def levelVolts (u : BitVec 16) : Int := 125 * ((levelCode u).toNat : Int) - 1500000

/-- Voltage of a waveform DAC code, in VREF / 16,384 (08 R218). -/
def dacVolts (c : BitVec 14) : Int := 2 * (c.toNat : Int) - 8192

/-- What a waveform DAC puts out, in VREF / 16,384: nothing where its output is disabled (14 R341). -/
def WavSrc.dacOutput (w : WavSrc) : Option Int := if w.off then none else some (dacVolts w.out)

/-- A driver level linked to a DAC code, in nV / 32: its voltage within -1.5 V and +6.0 V (08 R220). A step of VREF / 16,384 is
9,765,625 of them. -/
def linkedVolts (c : BitVec 14) : Int := clampInt (-48000000000) 192000000000 (9765625 * dacVolts c)

/-- A driver level in nV / 32: linked to the group's DAC, or of its own code (03 R65, 08 R220). -/
def driverVolts (dac : BitVec 14) (linked : Bool) (u : BitVec 16) : Int :=
  if linked then linkedVolts dac else 32000 * levelVolts u

/-- The driver that acts on a lane, and the DAC code its linked levels take: those at the beginning of a hold while the
output is kept (04 R111). -/
def State.driverNow (s : State) (g : GroupIx) (l : LaneIx) : Driver × BitVec 14 :=
  let h := (s.grp g).holdOut
  match s.keepsOutput g l, h.driver with
  | true, some d => (d, h.wav)
  | _, _ => ((s.chan g l).fe.driver, (s.grp g).wav.out)

/-- VIH of a lane's driver, in nV / 32. -/
def State.vihVolts (s : State) (g : GroupIx) (l : LaneIx) : Int :=
  let (d, dac) := s.driverNow g l
  driverVolts dac d.linkVih d.vih

/-- VIL of a lane's driver, in nV / 32. -/
def State.vilVolts (s : State) (g : GroupIx) (l : LaneIx) : Int :=
  let (d, dac) := s.driverNow g l
  driverVolts dac d.linkVil d.vil

/-- Full scale of a lane's comparators in nA: its range's; for a gang's leader the gang's total (R67). -/
def State.cmpScale (s : State) (g : GroupIx) (l : LaneIx) : Nat :=
  if s.ganged g l && s.leader g l == l then countLanes (s.gang g l) * 32000000 else fullScale (s.chan g l).fe.stage.range

/-- Full scale of a lane's output in nA: its range's; for n ganged channels n × 32 mA (R55, R60). -/
def State.scale (s : State) (g : GroupIx) (l : LaneIx) : Nat :=
  if s.ganged g l then countLanes (s.gang g l) * 32000000 else fullScale (s.chan g l).fe.stage.range

/-! ## What a stage forces (R53 to R58, R60, 04 R114) -/

/-- What a stage does to the channel node: nothing; a voltage, in VREF / 262,144 / 2^30, with its current limit in nA /
65,536; a current in nA / 131,072, with the voltage limits in VREF / 65,536. -/
inductive Output where
  | off
  | volts (v : Int) (limit : Nat)
  | amps (i lo hi : Int)
  deriving DecidableEq, Repr

/-- A voltage code as the force DAC's coefficients correct it, in 1 / 2^30 of a code: y of R114, with 65,536, the code of
0 V, as the zero code (log entry 78). -/
def correctForce (gain ofs : BitVec 24) (v : BitVec 18) : Int :=
  65536 * 2 ^ 30 + (16 * ((v.toNat : Int) - 65536) - ofs.toInt) * (2 ^ 26 + gain.toInt)

/-- Whether a change of range is still going on: 1 µs, 3,200 root cycles (R58). DESIGN CHOICE (log entry 98): in FV, where R58
says at most 1 µs, it takes the whole of it. -/
def Stage.moving (now : Nat) (st : Stage) : Bool :=
  match st.moved with
  | some t => decide (now - t < 3200)
  | none => false

/-- Current clamp of a lane in nA / 65,536: during a change of range in FV that of the lower range (R56, R58, R60). -/
def State.clampLimit (s : State) (g : GroupIx) (l : LaneIx) : Nat :=
  let st := (s.chan g l).fe.stage
  let full := s.scale g l
  let scale := if st.moving s.rootNow then min full (fullScale st.was) else full
  scale * (magCode st.mag).toNat

/-- A value held between two limits; at the lower one where they cross (R56). -/
def holdBetween (lo hi x : Int) : Int := if hi < lo then lo else clampInt lo hi x

/-- Voltage limits of a stage in FI, in VREF / 65,536: LO and HI of VCLAMP (R56). -/
def Stage.voltLimits (st : Stage) : Int × Int := (thrVolts (st.vclamp.setWidth 16), thrVolts (st.vclamp.extractLsb' 16 16))

/-- What a stage of a lane forces with a code (R54 to R58, R114). A change of range in FI passes through HIZ. DESIGN CHOICE (log
entry 120): the active coefficient pair corrects a standing output too, so that a committed pair moves it at the tick. -/
def State.outputOf (s : State) (g : GroupIx) (l : LaneIx) (st : Stage) (code : BitVec 18) : Output :=
  let k := s.leader g l
  match st.st with
  | .hiz => .off
  | .fv =>
    let y := correctForce ((s.coef g k 0x20).setWidth 24) ((s.coef g k 0x21).setWidth 24) code
    .volts (2 * y - 131072 * 2 ^ 30) (s.clampLimit g l)
  | .fi =>
    if st.moving s.rootNow then .off
    else .amps (forceAmps (s.scale g l) code) st.voltLimits.1 st.voltLimits.2

/-- What a lane's stage forces now; a gang's members force with their leader's code (R58, R60). -/
def State.laneOutput (s : State) (g : GroupIx) (l : LaneIx) : Output :=
  s.outputOf g l (s.chan g l).fe.stage (s.stageCode g l)

/-- What has the channel node: the driver, or the stage with what it forces (R66). -/
inductive NodeOwner where
  | driver (d : Driver)
  | stage (o : Output)
  deriving DecidableEq, Repr

/-- What the channel node is given. In a force-path hold the auxiliary buffer keeps what the node had as the hold began,
whatever is loaded since, until the safe path acts (04 R111, R112, 12 R301). -/
def State.node (s : State) (g : GroupIx) (l : LaneIx) : NodeOwner :=
  let fe := (s.chan g l).fe
  if s.keepsOutput g l then
    let h := (s.grp g).holdOut
    match h.driver with
    | some _ => .driver (s.driverNow g l).1
    | none => .stage (s.outputOf g l h.stage h.code)
  else if fe.outSel then .driver fe.driver
  else .stage (s.laneOutput g l)

/-- The voltage a stage in FI holds where its load would take it to `v`, in VREF / 65,536 (R56). -/
def Output.held (o : Output) (v : Int) : Int :=
  match o with
  | .amps _ lo hi => holdBetween lo hi v
  | .off => v
  | .volts .. => v

/-! ## Comparators (R67, R68) -/

/-- Hysteresis code acting (R68): above 100 acts as 100. -/
def Comparator.band (c : Comparator) : Nat := min c.hyst.toNat 100

/-- How a comparator measures its input: factor on the input, threshold and hysteresis in the same unit. The input is in nV,
or from the current monitor in nA on a full scale in nA. -/
def Comparator.marks (c : Comparator) (scale : Nat) : Int × Int × Int :=
  if c.fromI then (327680000, 10000 * thrAmps scale c.thr, (32768 * scale * c.band : Nat))
  else (65536, 5000000000 * thrVolts c.thr, (500000 * 65536 * c.band : Nat))

/-- The raw output at an input (R68): tripped past the threshold, released past the hysteresis, held between. -/
def Comparator.output (low : Bool) (scale : Nat) (x : Int) (c : Comparator) : Bool :=
  let (k, t, h) := c.marks scale
  if low then (if k * x < t then true else if t + h < k * x then false else c.tripped)
  else (if t < k * x then true else if k * x < t - h then false else c.tripped)

/-- Whether an input lies outside the hysteresis band (R72). -/
def Comparator.outside (low : Bool) (scale : Nat) (x : Int) (c : Comparator) : Bool :=
  let (k, t, h) := c.marks scale
  if low then decide (k * x < t) || decide (t + h < k * x) else decide (t < k * x) || decide (k * x < t - h)

end Sys2Proof.Machine
end

