-- ==== Sys2Proof/WellFormed.lean ====
section
/-! DEFINITION. When a command's operands belong to its row: a frame's opcode is the row's, counts agree with the data
they count, pages exist. A command that is not well formed still has a meaning; no signal spells it. -/

namespace Sys2Proof

/-- The data of a STRM packet: whole 8-byte blocks after the sub-header, at most 512 blocks in all (07 R211, 16 R390). -/
def strmData (data : List Byte) : Bool := data.length % 8 == 0 && decide (data.length ≤ 4088)

/-- A request's data words are the words its payload blocks hold, at most k (16 R403). -/
def requestShape (r : RegRequest) : Bool :=
  r.data.length == min r.k.toNat (2 * r.len - 1) && decide (r.len < 1024)

/-- A frame's payload is the words between its header and its trailer (15 R364, R365). -/
def frameShape (f : MspFrame) : Bool := f.payload.length == f.bits / 32 - 3

/-- OP of a micro-operation lies in its row's class (05 R156). -/
def mcClass (lo hi : Nat) (w : Word) : Bool :=
  decide (lo ≤ (w.extractLsb' 26 6).toNat) && decide ((w.extractLsb' 26 6).toNat ≤ hi)

/-- Whether a command is well formed. -/
def Instr.wf : Instr → Bool
  | .imageFrame x bytes => decide (8 * bytes.length = (x.bits + 7) / 8 * 8)
  | .mcArith w => mcClass 0x00 0x07 w
  | .mcRegMap w => mcClass 0x08 0x0B w
  | .mcFlow w => mcClass 0x0C 0x0F w
  | .mcWait w => mcClass 0x10 0x13 w
  | .mcMessage w => mcClass 0x14 0x17 w
  | .mcGroupControl w => mcClass 0x18 0x1B w
  | .mcMode w => mcClass 0x1C 0x1F w
  | .mcReservedOp w => mcClass 0x20 0x3F w
  | .tbShadowDone _ n live spare lost _ => live.length == n && spare.length == n && lost.all fun i => decide (i < n)
  | .refill _ _ _ data => strmData data
  | .residentLoad _ _ _ data => strmData data
  | .klForward (.packet p) => decide (p.payload.length < 1024)
  | .klForward (.block _) => true
  | .regw r => requestShape r && decide (1 ≤ r.len)
  | .regr r => requestShape r && decide (1 ≤ r.len)
  | .enumAssign from_ w => from_ != .mcQueue || decide (w.toNat < 16777216)
  | .mspWrite f => f.op == 0x1 && frameShape f
  | .mspRead f => f.op == 0x2 && frameShape f
  | .mspBurstRead f => f.op == 0x4 && frameShape f
  | .mspBurstWrite f => f.op == 0x5 && frameShape f
  | .mspNop f => f.op == 0xF && frameShape f
  | .rawFrame x bytes => decide (8 * bytes.length = (x.bits + 7) / 8 * 8)
  | .snapshotReceive p => p.chans.length == 1024 && p.quads.length == 256 && p.sliceInt.length == 16 && p.sliceQ.length == 4
  | .postedWriteComplete page => decide (page < 512)
  | .evtClr page _ => decide (page < 512)
  | .snapWrite page => decide (page < 512)
  | .busyFlagClear page _ => decide (page < 512)
  | .bypass code => code != 0x0 && code != 0x1
  | .supplyRise .. | .supplyMonitorRelease .. | .supplyOutOfRange .. | .rstNAssert .. | .rstNRelease ..
  | .bootMram .. | .bootRefWindow .. | .noReference .. | .bootClock .. | .bootImage .. | .bootImageTimeout ..
  | .bootImgDataWrite .. | .bootVerify .. | .bootLoad .. | .bootCompat .. | .bootBist .. | .masterArbitration ..
  | .arbitrationSeen .. | .rcoReady .. | .xoReady .. | .refReady .. | .rootLock .. | .readyLoss ..
  | .refHoldoverMove .. | .clockMonitorTrip .. | .clockReturn .. | .domainSwitchDone .. | .forcedSwitch ..
  | .regulatorInterval .. | .hsLock .. | .hsUnlock .. | .frameTick .. | .syncHold .. | .admissionCutoff ..
  | .routineRelease .. | .cycleGuardExpiry .. | .commitLen .. | .interrupt .. | .linkXfer .. | .tileLink ..
  | .timerExpire .. | .resultArrival .. | .next .. | .branch .. | .call .. | .return .. | .wait .. | .waitTo ..
  | .loop .. | .endSeq .. | .commit .. | .mov .. | .movi .. | .moviu .. | .add .. | .addi .. | .sub .. | .and ..
  | .or .. | .xor .. | .shl .. | .shr .. | .sar .. | .cmp .. | .cmpi .. | .ldlc .. | .mul .. | .mulh .. | .ldcpm ..
  | .stcpm .. | .ldres .. | .ldtbl .. | .sttbl .. | .ldfrm .. | .ldpos .. | .timerLoadVal .. | .timerLoadReg ..
  | .timerStop .. | .forceHiz .. | .forceFv .. | .forceFi .. | .forceRange .. | .rlyClose .. | .rlyOpen ..
  | .forceSafe .. | .levelLoad .. | .adcStart .. | .adcUrgent .. | .adcArmPw .. | .adcDisarmPw .. | .adcStop ..
  | .adcRead .. | .intCapture .. | .intCaptureClear .. | .cmpClear .. | .cmpOff .. | .cmpThrSel .. | .patStart ..
  | .patStop .. | .jumpReq .. | .failRead .. | .failClr .. | .tdcOpen .. | .tdcClose .. | .tdcRead ..
  | .tdcClear .. | .recWrite .. | .evtWrite .. | .fpCommit .. | .fpReq .. | .tbMatch .. | .thrCheck ..
  | .wearFlush .. | .telGather .. | .scheduledStartEffect .. | .urgentStartEffect .. | .pwPulseQualified ..
  | .pwStartEffect .. | .slicePowerUp .. | .conversionComplete .. | .tbHandover .. | .tbRecalDone ..
  | .wdacCalDone .. | .holdBegin .. | .fpPointDone .. | .holdEnd .. | .fpTimeout .. | .comparatorChange ..
  | .tripQualified .. | .relaySettled .. | .limitRestore .. | .piBoundary .. | .holdoffExpiry ..
  | .quadTermination .. | .pulsePeriodEnd .. | .quadSatTimeout .. | .tempLaneTimeout .. | .quadStepStart ..
  | .periodicRecordDue .. | .vectorBoundary .. | .segmentEnd .. | .underrun .. | .patDone .. | .ingressWrite ..
  | .wavArm .. | .wavArmCheck .. | .wavStart .. | .wavStop .. | .wavStopEffect .. | .wavEnd .. | .tdcTimedClose ..
  | .arm .. | .armPacket .. | .trgFire .. | .firePacket .. | .fireIssue .. | .trigPulseEnd .. | .trigEdge ..
  | .autoTimeout .. | .captureDone .. | .drainPacket .. | .replayTimeout .. | .creditResult .. | .resultNak ..
  | .klRxUp .. | .klRxDown .. | .tickMark .. | .urgentStop .. | .start .. | .runEntry .. | .stop ..
  | .configureEntry .. | .configureRelayStep .. | .configureValuesStep .. | .powerupValuesApply .. | .recover ..
  | .calNow .. | .resume .. | .snapAll .. | .factory .. | .factoryEntry .. | .enumInRise .. | .enumInFall ..
  | .enumOutRaise .. | .syncEdge .. | .pacingTimeout .. | .heartbeatReceive .. | .ownInChange .. | .takeover ..
  | .takeoverComplete .. | .ownConflict .. | .release .. | .releaseEffect .. | .faultMessage .. | .faultPulseEnd ..
  | .wearMcFlush .. | .sensorReading .. | .graceEnd .. | .stepIntTimer .. | .telCycle .. | .telRecordWrite ..
  | .descWriteEffect .. | .nvmCommitDone .. | .factTestDone .. | .frameLenWrite .. | .shareWrite ..
  | .hostStepWrite .. | .grpArm .. | .armAdmission .. | .grpDisarm .. | .cpmDataWrite .. | .cpmDataRead ..
  | .ucDataWrite .. | .ucDataRead .. | .tblDataWrite .. | .tblDataRead .. | .cmpClrWrite .. | .gangWrite ..
  | .intSelWrite .. | .coefCommitWrite .. | .geIrqEnWrite .. | .gstopClr .. | .descSubmit .. | .descLoad ..
  | .descStepRead .. | .fmtDataWrite .. | .fmtDataRead .. | .maskDataWrite .. | .maskDataRead .. | .rdRst ..
  | .streamFlush .. | .tbEnable .. | .refSelWrite .. | .rcoTrimWrite .. | .firstClr .. | .faultPinAssert ..
  | .injMsg .. | .injMem .. | .sevDataRead .. | .logLoad .. | .logStepRead .. | .thmLimitWrite ..
  | .rawCountWrite .. | .drainRsvWrite .. | .pairEnWrite .. | .tokDataRead .. | .nvmDataWrite .. | .nvmDataRead ..
  | .nvmCommit .. | .factTestRun .. | .registerWrite .. | .extest .. | .samplePreload ..
  | .groupConversionClockEdge .. | .klBlockLock .. | .klAlignFound .. | .pairLinkUp .. | .pairLinkDown ..
  | .wavOutputSample .. | .enumOutFollow .. => true

end Sys2Proof
end

