-- ==== Sys2Proof/Tests/Slice0.lean ====
section
/-! SUPPORT. Tests: what the well-formedness checks refuse, figures that the spec's own examples state, and for every
statement of the obligations with hypotheses the states and operands that meet the hypotheses of each of its clauses. -/

namespace Sys2Proof.Tests

-- One theorem at a time: the states are large, and many kernel evaluations at once fill the memory.
set_option Elab.async false

open Sys2Proof Sys2Proof.Machine

/-- A code lies above a high limit of 0 or below a low limit of 1 or more, whatever the code is: the corrected samples of a
point are free values. -/
theorem two_limits {P Q : Fin 32 → Prop} {a b : Fin 32 → Nat} (x : Nat) (e h : Fin 32) (hp : P e) (hq : Q h) (ha : a e = 0)
    (hb : 0 < b h) : (∃ e, P e ∧ a e < x) ∨ ∃ e, Q e ∧ x < b e := by
  rcases Nat.eq_zero_or_pos x with rfl | hx
  · exact .inr ⟨h, hq, hb⟩
  · exact .inl ⟨e, hp, by rw [ha]; exact hx⟩

/-- A step table is sound where every block of 64 of its words is. -/
theorem table_sound {s : State} {g : GroupIx} (h : ∀ i j : Fin 64, s.tblBad g (64 * i.val + j.val) = false) (n : Fin 4096) :
    s.tblBad g n = false := by
  have := h ⟨n / 64, by omega⟩ ⟨n % 64, by omega⟩
  rwa [show 64 * (n.val / 64) + n.val % 64 = n from Nat.div_add_mod _ _] at this

/-! ## States -/

/-- RUN with the root locked and running the domains, BOOT done, address 5, Kwenlink up. -/
def wRun : State :=
  { State.reset with
    modes := { mode := .run, prev := .configure },
    clk := { lock := true, rco := true, ref := true, domRco := false },
    kl := { rx := .up, addr := 5, forward := true }, boot := { stage := 7, done := true } }

/-- The same unit in another mode. -/
def inMode (m : Mode) : State := { wRun with modes := { wRun.modes with mode := m } }

/-- Group 0 runs a routine of 16 words at 0x100, now at 0x101; X2 holds 0x80000007 and LC 3. -/
def wEng : State :=
  wRun.modE 0 fun e =>
    let r : Regs := { x := e.regs.x.set 2 0x80000007, lc := 3 }
    { e with running := true, pc := 0x101, entry := 0x100, len := 16, rst := 2, w := 1000, regs := r, view := { regs := r } }

/-- Its return stack holds one entry, or eight. -/
def wStack : State := wEng.modE 0 fun e => { e with stack := [0x107] }
def wFull : State := wEng.modE 0 fun e => { e with stack := List.replicate 8 0x107 }

/-- The engine is idle, and the program of slot 3 is due. -/
def wDue : State := wRun.modG 0 fun g => { g with due := [(3, { entry := 0x200, len := 5 })] }

/-- An interrupt is pending on the routine of group 0. -/
def wIrq : State :=
  (wStack.modFe 0 2 fun f => { f with hi := { f.hi with latch := true } }).setReg (adr (pGRP 0) 0x34) 0xFFFFFFFF

/-- The routine has committed and stands at its last word; a value is on its way to lane 3. -/
def wDone : State :=
  (wEng.modE 0 fun e => { e with pc := 0x10F, committed := true }).modMs 0 3 fun m =>
    { m with arrivals := [{ l0 := 5, l1 := some 7, ovr := true }] }

/-- A word whose cycle began with the flags set and T3 expired, in a lane that forces. -/
def wView : State :=
  (wEng.modE 0 fun e => { e with view := { e.view with
    fresh := 3, hiL := 1, patDone := false, fails := 2, irq := true, hold := 8, timers := e.view.timers.set 3 .expired } }).modFe 0 1
    fun f => { f with stage := { f.stage with st := .fv } }

/-- Lane 0 forces and is free, the CPM of lane 0 holds setpoints. -/
def wForce : State :=
  ((wEng.setCpm 0 0 0x12345).setCpm 0 6 0x3).modFe 0 0 fun f => { f with stage := { f.stage with st := .fv, code := 7 } }

/-- The relay of lane 0 is closed and cold; or closed with the stage on. -/
def wClosed : State := ({ wEng with esc := { wEng.esc with root := 1000000 } }).modFe 0 0 fun f => { f with relay := { f.relay with st := .closed }, idleFrom := some 0, rlyIdle := 0 }
def wHot : State := wClosed.modFe 0 0 fun f => { f with stage := { f.stage with st := .fv }, idleFrom := none }
def wOpen : State := ({ wEng with esc := { wEng.esc with root := 1000000 } }).modFe 0 0 fun f => { f with idleFrom := some 0, rlyIdle := 0 }

/-- A tripped high comparator of lane 0 in the mode given, its blanking running. -/
def wTrip (mode : BitVec 3) : State :=
  wEng.modFe 0 0 fun f => { f with
    stage := { f.stage with st := .fv }, relay := { f.relay with st := .closed },
    hi := { f.hi with mode := mode, tripped := true, blanking := true, qualified := true } }

/-- A conversion job. -/
def wJob (k : StartKind) (mode : BitVec 2) : Job := { kind := k, src := 0, mode := mode, k := 0, prog := 0x100, pass := 0 }

/-- The routine of group 0 has committed. -/
def wCommitted : State := wEng.modE 0 fun e => { e with committed := true }

/-- The slice of lane 3 runs a job, or is warming up. -/
def wBusy (j : Job) (s : State) : State := s.modG 0 fun g => { g with slices := g.slices.set 3 { powered := true, job := some j } }
def wWarm : State := wRun.modG 0 fun g => { g with slices := g.slices.set 3 { powered := true, warming := true } }

/-- An arm for a pulse width. -/
def wPwArm : PwArm := { evt := 0, width := 0x00050002, job := wJob .pulse 0 }

/-- Starts wait at lane 3; a pulse-width arm waits there. -/
def wWaits (s : State) : State := s.modMs 0 3 fun m => { m with
  waitS := [wJob .scheduled 0], waitU := [wJob .urgent 0], waitP := [wJob .pulse 0] }
def wArmed : State := (wRun.modFe 0 3 fun f => { f with hi := { f.hi with mode := 4 } }).modMs 0 3 fun m => { m with
  pw := some wPwArm }

/-- A sampling instant off the clock edges; a single conversion of lane 3 whose sample is being converted. -/
def wInstant : Sampling := { edge := none, src := 0, range := 0, gain := 0, ofs := 0, cg := 0, co := 0 }
def wTake : Job := { wJob .scheduled 0 with take := some wInstant }
def wSample : State := wBusy wTake wRun

/-- A capture with clear is due at the next clock edge of lane 3. -/
def wCapture : State := wRun.modMs 0 3 fun m => { m with
  integ := { m.integ with q := 9, e := 5, s := 2 }, capPend := .captureClear }

/-- The rotation of group 0 in a state. -/
def wTb (st : TbState) : State := wRun.modG 0 fun g => { g with tb := { g.tb with st := st, wdac := true } }

/-- Lane 3 of group 0 is held, or a hold is requested. -/
def wHold : State := wRun.modG 0 fun g => { g with hold := 8, holdEnd := some 2, holdFrames := 65535, holdSlots := 512 }
def wHoldPoint : State := ({ wHold with esc := { wRun.esc with len := 200000, pos := 900 } }).setReg (adr pFUS 0x0B) 512
def wHoldOld : State := wHold.modG 0 fun g => { g with holdEnd := none }
def wHoldReq : State := wRun.modG 0 fun g => { g with holdReq := some 3 }

/-- The stamper of lane 3 has a window open and a stamp. -/
def wStamp : State := wEng.modTd 0 3 fun d => { d with opened := true, len := 5, fifo := [⟨0, 5, 0x123456789⟩] }

/-- Group 0 is on stream 2 in the site map; the owner of stream 2 is the group given, the stream in the state given. -/
def wMap (owner : Word) (st : StreamState) (s : State) : State :=
  ((s.sramWrite 0x00600000 0x12).setReg (adr (pSTRM 2) 0x08) owner).modSt 2 fun x => { x with st := st }

/-- Group 0 is attached to stream 2, whose owner is the group given. -/
def wAttached (owner : GroupIx) (st : StreamState) (s : State) : State :=
  (s.modG 0 fun g => { g with pat := { g.pat with att := .attached, stream := 2, done := false, underrun := true } }).modSt 2
    fun x => { x with st := st, owner := owner }

/-- Stream 2 runs a resident segment of 3 vectors; it is to stop, or stands past its last vector. -/
def wVectors (f : Stream → Stream) : State :=
  (wAttached 0 .running wRun).modSt 2 fun x => f { x with desc := [0, 2, 0, 0, 0x00010000, 0, 0, 0], pass := 0, first := false }

/-- Stream 2 has a word waiting for the store. -/
def wIngress : State := wRun.modSt 2 fun x => { x with ingress := [{ at_ := 0, data := [1, 2, 3, 4] }] }

/-- The MC stands at word w of its store. -/
def wMc (w : Word) : State := { wRun with mc := { wRun.mc with store := [(9, mcWord w)], pc := 9, m := wRun.mc.m.set 2 7, stack := [4] } }

/-- RUN with frames of 1 ms and a reserve on Kwenlink. -/
def wLong : State :=
  { wRun with esc := { wRun.esc with len := 200000, pos := 100 }, kl := { wRun.kl with drainRsv := 1000000 } }

/-- A program header with its CRC at 0x100: two words, one cycle, no bytes. -/
def wHeader : BitVec 192 :=
  let w : BitVec 192 := BitVec.ofNat 192 (0x4E56 * 2 ^ 176 + 2 * 2 ^ 156 + 2 ^ 124)
  let chk := (List.range 176).foldl (fun c i => crc16Bit c (w.getLsbD (191 - i))) 0xFFFF#16
  w ||| chk.setWidth 192

/-- A vendor routine of two words and one cycle at 0xC10 in group 0's store: header and directory entry `order`. -/
def wVSlot : Slot := { entry := 0xC10, len := 2, w := 1 }
def wVend (order : Nat) (s : State) : State :=
  { s with stores := vmod s.stores 0 fun t =>
      { t with uc := [(0xC00, ucWord (0xC10#192 <<< (168 - 12 * order))), (0xC10, ucWord wHeader)] } }

/-- Work of the vendor routines of group 0: a completed hold, hold calibration enabled, a match, closes to flush, telemetry. -/
def wFpDone : State := wVend 1 <| wLong.modG 0 fun g => { g with holdRes := some (3, [1, 2]) }
def wFpOn : State := wVend 2 <| { wLong.setReg (adr pCAL 0x10) 1 with esc := { wLong.esc with root := 10 ^ 15 } }
def wMatch : State := wVend 3 <| wLong.modG 0 fun g => { g with tb := { g.tb with st := .match, pairs := { n := 4, sumL := 1, sqL := 2, sumS := 3, sqS := 4 } } }
def wWear : State := wVend 5 <| wLong.modFe 0 3 fun f => { f with relay := { f.relay with pendA := 5, pendB := 6 } }
def wTel : State := wVend 6 <| { wLong with tel := { wLong.tel with ctrl := 0x3F, pend := [(3, 0)] } }

/-- A telemetry cycle is due. -/
def wTelDue : State := { wRun with tel := { wRun.tel with ctrl := 0x3F } }

/-- A flush of the wear counts is due in CONFIGURE. -/
def wFlush : State := { wWear with modes := { mode := .configure, flush := true } }

def wTelOut : State := { wLong with tel := { wLong.tel with pend := [(2, 0)] } }
def wThr : State := wVend 4 <| wLong.modFe 0 3 fun f => { f with lo := { f.lo with mode := 1, thr := 0x100 } }

/-- Quad 1 of group 0, as a function leaves it, running a step of zero words. -/
def wQuad (f : Quad → Quad) (s : State) : State := s.modQ 0 1 fun q => f { q with st := .running, words := List.replicate 12 0 }

/-- Its time is n PI cycles; the step is a pulse step. -/
def wTime (n : Word) (q : Quad) : Quad := { q with stats := q.stats.set 0 n }
def wPulse (b : Bool) (n : Word) (q : Quad) : Quad := wTime n { q with words := 5 :: List.replicate 11 0, pulse := b }

/-- A start of quad 1 is due in RUN, with everything its checks ask for; word 0 of its step is as given. -/
def wStart (w : Word) : State :=
  let s := (((wLong.setTbl 0 1024 w).modFe 0 4 fun f => { f with stage := { f.stage with st := .fv, link := .pi }, relay := { f.relay with st := .closed } }).modFe 0 7
    fun f => { f with hi := { f.hi with mode := 4, swClear := true } }).modQ 0 1 fun q => { q with due := true }
  s.modG 0 fun g => { g with edges := 4, piAt := 4, slots := g.slots.set 0 { st := .repeat, cur := true, d := 64 } }

/-- The step of quad 1 has ended, with its successor. -/
def wEnding (n : BitVec 7) : State :=
  (wQuad (fun q => { q with st := .ending, due := true, succ := some n }) wLong).modG 0 fun g => { g with edges := 4, piAt := 4 }

/-- Quad 1 regulates at a clamp, with SAT_MS 1 and its thermistor enabled. -/
def wClamped : State :=
  (wQuad (fun q => { q with sat := 250, tMiss := 250, cfg := [0, 0, 0, 0, 0, 0x01100000] }) wRun).modG 0 fun g => { g with edges := 4 }
/-- Group 0 at the fourth clock edge. -/
def wFourth : State := wRun.modG 0 fun g => { g with edges := 4 }

/-- The waveform source of group 0 in a state. -/
def wWav (f : WavSrc → WavSrc) (s : State) : State := s.modG 0 fun g => { g with wav := f g.wav }

/-- Trigger line 1 as a function leaves it, group 0 capturing on it. -/
def wLine (f : Line → Line) : State :=
  (wRun.modL 1 fun x => f { x with f := 1 }).modG 0 fun g => { g with acq := { g.acq with st := .pre, line := 1 } }
def wPost : State := wRun.modG 0 fun g => { g with acq := { g.acq with st := .post, post := 1, stored := 1 } }

/-- RESET with RST_n held, or released; the supply monitor released or not. -/
def wReset (rel mon : Bool) : State :=
  { State.reset with modes := { mode := .reset }, boot := { rstRel := rel, monitor := mon, supplies := Vector.replicate 6 true } }

/-- A halted BOOT; BOOT at a stage. -/
def atStage (n : BitVec 3) (src : BitVec 2) : State :=
  { State.reset with boot := { stage := n, src := src }, clk := { rco := true, xo := true, ref := true, lock := true } }

/-- The shortest image: one MC word, one hardware version, whose entry is 0. -/
def wImage : List Byte :=
  [0x4E, 0x56, 0x49, 0x4D, 0, 0, 0, 0, 0, 1, 0, 0, 0, 0, 0, 1] ++ List.replicate 24756 0

/-- BOOT with that image at a stage. -/
def withImage (n : BitVec 3) (src : BitVec 2) : State :=
  { atStage n src with boot := { stage := n, src := src, image := wImage } }
def wLocked (src : BitVec 2) : State := { atStage 2 src with clk := { (atStage 2 src).clk with hs := Vector.replicate 4 true } }

/-- A BIST result: what fails of the main store, the descriptors and the step tables by group. -/
def wBist (sram desc : Bool) (step : BitVec 64) : BistResult := ⟨sram, desc, 0, 0, 0, 0, step, 0, 0, 0⟩

/-- SYNC steering, in a mode and a lock state. -/
def wSync (m : Mode) (st : SyncState) (ctrl : Word) : State :=
  let s := (({ inMode m with sync := { st := st, miss := 9 } }).setReg (adr pSYNC 0x08) ctrl).setReg (adr pSYNC 0x0A) 100
  s.setReg (adr pSYNC 0x0F) 3

/-- An arm of that program waits, in slot 3, which is free or not. -/
def wArm (st : SlotState) (w : BitVec 192) : State :=
  let s := ({ wLong with modes := { wLong.modes with compat := true } }).modG 0 fun g =>
    { g with arms := [{ entry := 0x100, rep := true, slot := 3, late := false }], slots := g.slots.set 3 { st := st } }
  { s with stores := vmod s.stores 0 fun t => { t with uc := [(0x100, ucWord w)] } }

/-- Kwenlink at a receiver state, forwarding. -/
def wKl (r : KlRx) : State := { wRun with kl := { wRun.kl with rx := r } }

/-- A TIME packet of one block, or as changed. -/
def wPacket (dest hop : Byte) (f : KlPacket → KlPacket) : KlPacket :=
  { mkPacket dest 0xFE 1 false false 7 [1] with hop := hop } |> fun p => f { p with crc := klCrc p }

/-- An entry published and not sent, credit for it. -/
def wDrain : State :=
  { wLong with
    rings := { wLong.rings with unsent := [{ sel := 0, slot := 0, slots := 1, frame := 0, ready := true }] }
    kl := { wLong.kl with limit := 4096 } }

/-- Two packets held for replay. -/
def wReplay : State := { wLong with kl := { wLong.kl with replay := [⟨5, [1, 2], 0⟩, ⟨6, [3, 4], 0⟩] } }

/-- A register request. -/
def wReq (a : BitVec 16) (k : Byte) : RegRequest := ⟨false, 9, a, true, false, false, k, 1, [5]⟩

/-- A reply to it is kept. -/
def wCached : State := { wRun with kl := { wRun.kl with cache := [(9, mkPacket 0xFE 5 4 false true 9 [0])] } }

/-- The MC with its queue. -/
def wQueue (s : State) : State := { s with mc := { s.mc with queue := [⟨1, 0⟩] } }

/-- CONFIGURE with the identity, and START at frame 5. -/
def wReady : State := ({ inMode .configure with modes := { mode := .configure, compat := true, fuse := true } }).setReg (adr pESC 0x0B) 5

/-- Trigger master in CONFIGURE, line frame 7. -/
def wTrig : State := ((inMode .configure).setReg (adr pTRG 0x08) 1).setReg (adr pTRG 0x09) 7

/-- SAFE, its causes cleared, the domains on the RCO. -/
def wSafe : State := { inMode .safe with
  modes := { mode := .safe }, clk := { lock := true, rco := true, ref := true, domRco := true, hs := Vector.replicate 4 true } }

def wEnum (b : Bool) : State := { inMode .enumerate with kl := { enumIn := b, enumDue := true } }
def wHalt : State := { State.reset with boot := { failed := true } }

/-- CONFIGURE at a step of its entry. -/
def wCfg (c : CfgStep) : State := { inMode .configure with modes := { mode := .configure, cfg := c, factory := true } }
def wToSafe : State := { inMode .safe with modes := { mode := .safe, recover := true } }
def wAssigned : State := { inMode .enumerate with modes := { mode := .enumerate, assigned := true } }

/-- A port that expects 3, and a frame with the right CRC. -/
def wPort : State := { wRun with msp := { ucSync := true, uc := 3 } }
def wFrame (op alive : BitVec 4) (n : Byte) (pl : List Word) : MspFrame :=
  let f : MspFrame := ⟨true, 32 * (3 + n.toNat), 5, op, alive, 0x1009, n, 0, false, 0, pl, 0⟩
  { f with crc := frameCrc f }
def wBadCrc : MspFrame := { wFrame 1 3 2 [7, 8] with crc := 0 }
def wRaw (m : Option (Nat × List Byte)) : State := ({ wRun with msp := { raw := 2, mbox := m } }).setReg (adr pMSP 0x0A) 8

/-- A pair with EN set, as a function leaves it, in a mode. -/
def wPair (m : Mode) (f : Pair → Pair) : State := { inMode m with pair := f { en := true, linkUp := true } }
def wBeat (ok : Bool) (n : FrameNo) : Heartbeat := ⟨ok, n, true, 1, .run, false, true, 1, 2, 2000, 1, false⟩
def wSnap (ok : Bool) : Snapshot := ⟨ok, 0, 0, 4, 0, 0, [], [], [], []⟩

/-- A message of source 8. -/
def wNote : Msg := ⟨0x02140005, false, false⟩
def wStopNote : Msg := ⟨0x10010005, false, false⟩
def wPlainNote : Msg := ⟨0x10140005, false, true⟩
def wSafeNote : Msg := ⟨BitVec.ofNat 32 (8 * 2 ^ 22 + kTHM_CRITICAL * 2 ^ 16), false, false⟩

/-- A message of source 8 waits; its severity is n. -/
def wMsg (m : Msg) (n : Word) : State :=
  { wRun with flt := { wRun.flt with queues := [(8, [m])], sev := [(1, n)] } }

/-- The same of a group's source, with its severity. -/
def wGrpMsg (m : Msg) (n : Word) : State := { wRun with flt := { wRun.flt with queues := [(0x40, [m])], sev := [(8, n)] } }

/-- A message has been injected. -/
def wInjected : State := { wRun with flt := { wRun.flt with injected := [{ wNote with inj := true }], sev := [(1, 2)] } }

/-- FACTORY with every permission. -/
def wFactory : State := { inMode .factory with modes := { mode := .factory, perm := 15 } }

/-- The thermal block with its limits, sensor values, and as a function leaves it. -/
def wThm (v : BitVec 16) (f : Thermal → Thermal) : State :=
  { wRun with thm := f { sensors := Vector.replicate 5 { value := v, lastGood := v, seen := true } } }

/-- Busy pages; indirect addresses at the end of their spaces. -/
def wBusyAt (p : Nat) : State := wRun.modHdr p fun h => { h with busy := true }
def wEnds : State :=
  let s := ((((wRun.setReg (adr (pGRP 0) 0x10) 1023).setReg (adr (pGRP 0) 0x3A) 4095).setReg (adr (pGRP 0) 0x30) 0x7FFD).setReg
    (adr (pACQ 0) 0x0F) 127).setReg (adr pRING 0x13) 63
  ((((s.setReg (adr pFLT 0x15) 127).setReg (adr pNVM 0x08) 32767).setReg (adr pMODE 0x0E) 21).setReg (adr pRING 0x08) 262215).setReg (adr pFLT 0x0E) 255
def wAt (m : Mode) : State :=
  ((((((inMode m).setReg (adr (pGRP 0) 0x10) 5).setReg (adr (pGRP 0) 0x3A) 0x500).setReg (adr (pGRP 0) 0x30) 0x802).setReg
    (adr (pACQ 0) 0x0F) 5).setReg (adr pRING 0x13) 5).setReg (adr pNVM 0x08) 0xC1
def wAcq : State := (wAt .run).modG 0 fun g => { g with acq := { g.acq with st := .pre } }

/-- DESC_SEL 9 with DESC_DATA0 to 2 written. -/
def wDesc (m : Mode) (size : Word) : State :=
  { (inMode m).setReg (adr pRING 0x08) 9 with rings := { fill := [100, size, 0] } }
def wDescWait : State := { wRun with rings := { pending := some (9, 100, 10, 5) } }
def wNvmBusy : State := { (inMode .configure).modHdr pNVM (fun h => { h with busy := true }) with
  nvm := { a := [(0xC0, 7)], b := [(0xC1, 8)], crcA := [(3, regionCrc [(0xC0, 7)] 3)], commit := some 3 } }
def wBurst : State := { wRun with msp := { burst := [(0x109, 5)] } }
def wTest (item : Word) (t : Option (BitVec 4 × GroupIx)) : State :=
  { wFactory with modes := { mode := .factory, perm := 15, test := t } }.setReg (adr pFACT 0x09) item
def wTested (item : BitVec 4) : State := { wFactory with modes := { mode := .factory, perm := 15, test := some (item, 0) } }

/-- Timer T3 of the routine counts 5. -/
def wTimer : State := wEng.modE 0 fun e => { e with timers := e.timers.set 3 (.running 5) }

/-- The word of this cycle has been executed; or an abandonment is due at its end. -/
def wSpent : State := wIrq.modE 0 fun e => { e with spent := true }
def wAbDue : State := wIrq.modE 0 fun e => { e with abDue := true }

/-- An urgent, or a pulse-width, request reaches lane 3 with no scheduled start before it. -/
def wOnly (u p : List Job) : State := wRun.modMs 0 3 fun m => { m with waitU := u, waitP := p }

/-- Lane 3 is held with a conversion running and an earlier result. -/
def wHeldLane : State := ((wBusy (wJob .scheduled 0) wRun).modG 0 fun g => { g with hold := 8 }).modMs 0 3 fun m => { m with lastRes := some (77, true) }

/-- The rotation takes pairs on its first lane. -/
def wPairs : State := wLong.modG 0 fun g => { g with tb := { g.tb with st := .shadow, pairs := { key := some (0, 0) } } }

/-- A hold of lane 3 is requested while its quad runs. -/
def wNotFree : State := wHoldReq.modQ 0 0 fun q => { q with st := .running }

/-- The HOST class has used the store words of the frame. -/
def wPoor (s : State) : State := { s with fus := { s.fus with spent := (List.range 32).map fun k => (k, 10 ^ 9) } }

/-- The frame is past its cut-off; the root is lost; the domains are gated. -/
def wCut : State := { wRun with esc := { wRun.esc with cut := true, pos := 1990 } }
def wLost : State := { wRun with clk := { wRun.clk with lock := false } }
def wGated : State := { wRun with clk := { wRun.clk with gated := true } }

/-- A request waits for BUSY. -/
def wBehind : State := { wRun with kl := { wRun.kl with burst := [(0x109, 5)] } }

/-- Windows: one with no length, and an earlier opening. -/
def wLater (n : BitVec 24) : State := ({ wStamp with esc := { wStamp.esc with root := 1600, pos := 100 } }).modTd 0 3 fun d => { d with len := n }


/-- CPM and step-table words 0x345 of group 0 have wrong parity. -/
def wBadWords : State := { wEng with stores := vmod wEng.stores 0 fun t => { t with cpmBad := [0x345], tblBad := [0x345] } }

/-- Every page has a posted write under way. -/
def wAllBusy : State := { wRun with rf := { wRun.rf with hdr := (List.range 512).map fun p => (p, { busy := true }) } }

/-- KL_RX in a packet, with suspended contexts. -/
def wCtx (c : KlCtx) (l : List KlCtx) : State := { wKl .up with kl := { (wKl .up).kl with ctx := c, susp := l } }

/-- Staging buffers of group 0: 1 KiB of records, sixteen events. -/
def wStaged (l : List Staged) : State := wEng.modG 0 fun g => { g with staging := l }
def wRecord : Staged := .record { chan := 0, tag := 0, words := List.replicate 16 0 }

/-- The routine has committed, and the ring and the queue it writes have room. -/
def wRings : State := { wCommitted with rings := { wCommitted.rings with
  desc := tset {} (tset {} [] (3 * 256 + 0x55) { base := 100, size := 10 }) (selGroup 0) { base := 200, size := 10 } } }

/-- The unit's event queues have room. -/
def wUnitQueues (s : State) : State := { s with rings := { s.rings with
  desc := (List.range 8).foldl (fun l k => tset {} l (selUnit k) { base := BitVec.ofNat 19 (300 + 10 * k), size := 10 }) [] } }

/-- The routine of group 0 has restarted as often as it may; its first word, or its next one, has wrong parity; it has committed
and lost a transfer. -/
def wLast (s : State) : State := s.modE 0 fun e => { e with restarts := 2 }
def wBadUc (n : Nat) (s : State) : State := { s with stores := vmod s.stores 0 fun t => { t with uc := [(n, 1)] } }
def wPostLoss : State := wCommitted.modE 0 fun e => { e with postLoss := true }

/-- An operation is on its way to lane 3 of group 0, n SEQ cycles from its tile. -/
def wSend (op : TileOp) (n : Nat) (s : State) : State :=
  s.modG 0 fun g => { g with sends := [⟨s.rootNow + 16 * n, 3, op⟩] }

/-- The relay of lane 0 moves; both its beams are retired; lane 0 is held by its LIMIT latch, or by a force-path hold. -/
def wMoving : State := wClosed.modFe 0 0 fun f => { f with relay := { f.relay with st := .closing } }
def wRetired : State := wOpen.modFe 0 0 fun f => { f with relay := { f.relay with retA := true, retB := true } }
def wNoIdle : State := wOpen.modFe 0 0 fun f => { f with idleFrom := none }
def wLimited : State := wOpen.modFe 0 0 fun f => { f with hi := { f.hi with latch := true, limit := true } }

/-- Room in group 0's event queue. -/
def wEvents (s : State) : State := { s with rings := { s.rings with desc := tset {} [] (selGroup 0) { base := 200, size := 10 } } }

/-- A tripped comparator of lane 1 in mode CUTOFF. -/
def wCutoff (m : Mode) : State :=
  ((wEng.modFe 0 1 fun f => { f with hi := { f.hi with mode := 4, tripped := true, blanking := true, qualified := true } }).modFe 0 0
    fun f => { f with stage := { f.stage with st := .fv }, safeRec := 0x81 }) |> fun s => { s with modes := { s.modes with mode := m } }

/-- Jobs whose sample is being converted. -/
def wTaken (src : Nat) (edge : Option Nat) (j : Job) : Job := { j with take := some { wInstant with src := src, edge := edge } }
def wCont (n : Nat) : Job := { wJob .scheduled 2 with k := 1, n := n }
def wOther : Job := { wCont 0 with mode := 1 }
def wHeldFirst : State :=
  let s := wBusy (wTaken 1 none (wJob .scheduled 0)) wRun
  { s with stores := vmod s.stores 0 fun t => { t with cpm := [(64 * 3 + 0x14, 0x41)] } }

/-- A capture of lane 1 of group 0, as a function leaves it; its sample is being converted; its upper mask is 0 from point 0. -/
def wCaptured (f : Capture → Capture) : State := wRun.modG 0 fun g => { g with acq := f { g.acq with st := .pre, lanes := 2, line := 1 } }
def wCapTake (f : Capture → Capture) : State := (wCaptured f).modG 0 fun g =>
  { g with slices := g.slices.set 1 { powered := true, job := some (wTaken 1 (some 4) (wJob .scheduled 0)) } }
def wCapMask (s : State) : State :=
  { s.setReg (adr (pACQ 0) 0x08) 0x00020203 with stores := vmod s.stores 0 fun t => { t with mask := [(0, 0x80000000), (64, 0x80000000), (65, 1)] } }

/-- A packet with its CRC. -/
def wPk (dest src : Byte) (kind : BitVec 4) (urg resp : Bool) (hop : Byte) (pay : List (BitVec 64)) : KlPacket :=
  let p := { mkPacket dest src kind urg resp 7 pay with hop := hop }
  { p with crc := klCrc p }

/-- A state for the witness of `TripsAndComparatorEvents`. -/
def wTripsAndComparatorEvents1 : State := { wTrip 3 with modes := { mode := .mirror } }
/-- A state for the witness of `TripsAndComparatorEvents`. -/
def wTripsAndComparatorEvents2 : State := { wTrip 3 with modes := { mode := .configure } }
/-- A state for the witness of `TripsAndComparatorEvents`. -/
def wTripsAndComparatorEvents3 : State := ({ wTrip 3 with modes := { mode := .configure } }).modFe 0 0 fun f => { f with restore := true }
/-- A state for the witness of `TripsAndComparatorEvents`. -/
def wTripsAndComparatorEvents4 : State := ({ wTrip 3 with modes := { mode := .configure } }).modFe 0 0 fun f => { f with restore := true, puRec := 0xFFFFFFFFFFFFFFFF, relay := { f.relay with st := .opened } }
/-- A state for the witness of `StreamBoundariesAndData`. -/
def wStreamBoundariesAndData1 : State := wVectors fun x => { x with stop := true }
/-- A state for the witness of `StreamBoundariesAndData`. -/
def wStreamBoundariesAndData2 : State := wVectors fun x => { x with vec := 3 }
/-- A state for the witness of `StreamBoundariesAndData`. -/
def wStreamBoundariesAndData3 : State := wVectors fun x => { x with need := 9 }
/-- A state for the witness of `StreamBoundariesAndData`. -/
def wStreamBoundariesAndData4 : State := wVectors fun x => { x with poison := true }
/-- A state for the witness of `QuadConditions`. -/
def wQuadConditions1 : State := wQuad (fun q => { wTime 0 q with qual := q.qual.set 2 1 }) wRun
/-- A state for the witness of `QuadConditions`. -/
def wQuadConditions2 : State := wQuad (fun q => { q with period := 1 }) wRun
/-- A state for the witness of `QuadStartsBoundariesAndFaults`. -/
def wQuadStartsBoundariesAndFaults1 : State := { wStart 0 with modes := { mode := .configure } }
/-- A state for the witness of `WaveformSources`. -/
def wWaveformSources1 : State := wWav (fun w => { w with armReq := some true }) wRun
/-- A state for the witness of `WaveformSources`. -/
def wWaveformSources2 : State := wWav (fun w => { w with armReq := some false }) wRun
/-- A state for the witness of `WaveformSources`. -/
def wWaveformSources3 : State := wWav (fun w => { w with st := .armed }) wRun
/-- A state for the witness of `WaveformSources`. -/
def wWaveformSources4 : State := wWav (fun w => { w with st := .armed }) (inMode .safe)
/-- A state for the witness of `WaveformSources`. -/
def wWaveformSources5 : State := wWav (fun w => { w with st := .playing }) wRun
/-- A state for the witness of `WaveformSources`. -/
def wWaveformSources6 : State := wWav (fun w => { w with st := .playing, stopAt := some 0 }) wRun
/-- A state for the witness of `WaveformSources`. -/
def wWaveformSources7 : State := wWav (fun w => { w with st := .playing, stored := true, k := 7, ended := some 0 }) (wRun.setReg (adr (pWAV 0) 0x10) 0x00010001)
/-- A state for the witness of `TriggersAndCaptures`. -/
def wTriggersAndCaptures1 : State := { wLine id with esc := { wRun.esc with frame := 1 } }
/-- A state for the witness of `TriggersAndCaptures`. -/
def wTriggersAndCaptures2 : State := wLine fun x => { x with pend := 1, st := .live }
/-- A state for the witness of `TriggersAndCaptures`. -/
def wTriggersAndCaptures3 : State := wLine fun x => { x with pend := 1, st := .armed }
/-- A state for the witness of `TriggersAndCaptures`. -/
def wTriggersAndCaptures4 : State := wLine fun x => { x with st := .triggered }
/-- A state for the witness of `TriggersAndCaptures`. -/
def wTriggersAndCaptures5 : State := { (wLine fun x => { x with st := .live, auto := 1 }) with esc := { wRun.esc with frame := 2 } }
/-- A state for the witness of `BootStagesToImage`. -/
def wBootStagesToImage1 : State := { atStage 1 0 with nvm := { crcA := [(1, 5)] } }
/-- A state for the witness of `BootStagesToImage`. -/
def wBootStagesToImage2 : State := { atStage 1 0 with nvm := { crcA := [(1, 5)], crcB := [(1, 6)] } }
/-- A state for the witness of `BootStagesToImage`. -/
def wBootStagesToImage3 : State := { atStage 3 0 with msp := { mastering := true } }
/-- A state for the witness of `BootStagesToImage`. -/
def wBootStagesToImage4 : State := { atStage 3 1 with boot := { stage := 3, src := 1, fallback := true } }
/-- A state for the witness of `BootStagesToImage`. -/
def wBootStagesToImage5 : State := { atStage 3 0 with msp := { mmWait := true } }
/-- A state for the witness of `ClockSources`. -/
def wClockSources1 : State := { State.reset with clk := { rco := true }, boot := { refWait := true } }
/-- A state for the witness of `ClockSources`. -/
def wClockSources2 : State := { State.reset with clk := { rco := true, xo := true } }
/-- A state for the witness of `ClockSources`. -/
def wClockSources3 : State := { State.reset with clk := { rco := true, ref := true, lost := true } }
/-- A state for the witness of `ClockSources`. -/
def wClockSources4 : State := ({ wRun with clk := { rco := true, ref := true, xo := true, lock := true } }).setReg (adr pCLK 0x08) 2
/-- A state for the witness of `ClockSources`. -/
def wClockSources5 : State := { wRun with clk := { rco := true, xo := true, lock := true, holdover := true } }
/-- A state for the witness of `ClockSources`. -/
def wClockSources6 : State := { wRun with clk := { gated := true, hs := Vector.replicate 4 true } }
/-- A state for the witness of `ClockSources`. -/
def wClockSources7 : State := { wRun with clk := { rco := true, lock := true, domRco := false, target := some true } }
/-- A state for the witness of `ClockSelectionAndMarks`. -/
def wClockSelectionAndMarks1 : State := ({ inMode .configure with clk := { rco := true, xo := true, lock := true } })
/-- A state for the witness of `ModeEntries`. -/
def wModeEntries1 : State := { wForce with modes := { wForce.modes with mode := .configure }, esc := { wForce.esc with startAt := some 0 } }
/-- A state for the witness of `ModeEntries`. -/
def wModeEntries2 : State := { wForce with esc := { wForce.esc with stopAt := some 0 } }
/-- A state for the witness of `ModeEntries`. -/
def wModeEntries3 : State := (wCfg .relays).modFe 0 0 (fun f => { f with relay := { f.relay with st := .closed } })
/-- A state for the witness of `PairOperation`. -/
def wPairOperation1 : State := wPair .configure fun p => { p with en := false }
/-- A state for the witness of `PairOperation`. -/
def wPairOperation2 : State := wPair .configure fun p => { p with ownOut := true, ownIn := true, id := true }
/-- A state for the witness of `PairOperation`. -/
def wPairOperation3 : State := { wForce with pair := { en := true, relPend := true, ownOut := true } }
/-- A state for the witness of `PairOperation`. -/
def wPairOperation4 : State := wPair .mirror fun p => { p with miss := 3, ownLow := 3, snap := some (wSnap true), takeAt := some 0 }
/-- A state for the witness of `ThermalManagement`. -/
def wThermalManagement1 : State := wThm 3000 fun t => { t with req := true, grace := true }
/-- A state for the witness of `ThermalManagement`. -/
def wThermalManagement2 : State := wThm 12000 fun t => { t with enforced := true, step := 3 }
/-- A state for the witness of `ThermalManagement`. -/
def wThermalManagement3 : State := wThm 3000 fun t => { t with enforced := true, step := 3 }
/-- A state for the witness of `ThermalManagement`. -/
def wThermalManagement4 : State := wThm 3000 fun t => { t with enforced := true, step := 1 }
/-- A state for the witness of `EngineGroupStops`. -/
def wEngineGroupStops1 : State := wEng.modE 0 fun e => { e with len := 2 }
/-- A state for the witness of `TripsAndComparatorEvents`. -/
def wTripsAndComparatorEvents5 : State := (wTrip 3).modFe 0 0 fun f => { f with hi := { f.hi with tripped := false } }
/-- A state for the witness of `TourbillonRotation`. -/
def wTourbillonRotation1 : State := wPairs.modG 0 fun g => { g with tb := { g.tb with pairs := { n := 100000 } } }
/-- A state for the witness of `TriggersAndCaptures`. -/
def wTriggersAndCaptures6 : State := wLine fun x => { x with pendForced := true, st := .live }
/-- A state for the witness of `LevelsAndComparators`. -/
def wLevelsAndComparators1 : State := (wForce.modG 0 fun gr => { gr with clears := [⟨wForce.rootNow / 16 + 2, 1, 0⟩, ⟨wForce.rootNow / 16 + 6, 3, 3⟩] }).modFe 0 0 fun f => { f with hi := { f.hi with latch := true }, lo := { f.lo with latch := true } }
/-- A state for the witness of `TripsAndComparatorEvents`. -/
def wTripsAndComparatorEvents6 : State := ({ wTrip 3 with modes := { mode := .configure } }).modFe 0 0 fun f => { f with hi := { f.hi with latch := true, limit := true } }
/-- A state for the witness of `WordsWaitForTheirCycle`. -/
def wWordsWaitForTheirCycle1 : State := (wEng.modE 0 fun e => { e with spent := true })
/-- A state for the witness of `ClockSources`. -/
def wClockSources8 : State := { wReset true true with clk := { gated := true } }
/-- A state for the witness of `ManagementPortFrames`. -/
def wManagementPortFrames1 : State := { wPort with msp := { wPort.msp with quiet := false } }
/-- A state for the witness of `McMessagesAndModes`. -/
def wMcMessagesAndModes1 : State := { wMc (20#32 <<< 26) with kl := { wRun.kl with addr := 254 } }
/-- A state for the witness of `ThermalManagement`. -/
def wThermalManagement5 : State := { wThm 3000 id with clk := { wRun.clk with gated := true } }
/-- A state for the witness of `QuadStartsBoundariesAndFaults`. -/
def wQuadStartsBoundariesAndFaults2 : State := { wStart 0 with modes := { mode := .mirror } }
/-- A state for the witness of `TripsAndComparatorEvents`. -/
def wTripsAndComparatorEvents7 : State := { wTrip 3 with clk := { wRun.clk with lock := false } }
/-- A state for the witness of `PairOperation`. -/
def wPairOperation5 : State := { wPair .run id with clk := { wRun.clk with lock := false } }
/-- A state for the witness of `RelayCommands`. -/
def wRelayCommands1 : State := wOpen.modG 0 (fun g => { g with hold := 1 })
/-- A state for the witness of `RelayCommands`. -/
def wRelayCommands2 : State := wOpen.modFe 0 0 (fun f => { f with outSel := true })
/-- A state for the witness of `ForcePathHolds`. -/
def wForcePathHolds1 : State := (wHold.modE 0 fun e => { e with running := true, pc := 0x10F, entry := 0x100, len := 16, committed := true, postLoss := true, w := 1000 })
/-- A state for the witness of `ConversionsAtTheSlice`. -/
def wConversionsAtTheSlice1 : State := (wWaits (wBusy (wJob .scheduled 0) wRun)).modG 0 (fun g => { g with slices := g.slices.set 3 { (g.slice 3) with next := some (wJob .scheduled 0) } })
/-- A state for the witness of `ConversionsAtTheSlice`. -/
def wConversionsAtTheSlice2 : State := wBusy (wTaken 3 none { wCont 1 with mode := 1 }) wRun
/-- A state for the witness of `ConversionsAtTheSlice`. -/
def wConversionsAtTheSlice3 : State := (wBusy (wTaken 1 (some 4) (wJob .scheduled 0)) wHeldFirst).modMs 0 4 (fun m => { m with vAt := some (4, 0x100) })
/-- A state for the witness of `ConversionsAtTheSlice`. -/
def wConversionsAtTheSlice4 : State := (wBusy (wTaken 0 (some 4) (wJob .scheduled 0)) wRun).modMs 0 4 (fun m => { m with ePend := some (4, 0x100, 3) })
/-- A state for the witness of `ConversionsAtTheSlice`. -/
def wConversionsAtTheSlice5 : State := wRun.modMs 0 3 (fun m => { m with ePend := some (4, 0x100, 3), capPend := .capture, integ := { m.integ with q := 5 } })
/-- A state for the witness of `ConversionsAtTheSlice`. -/
def wConversionsAtTheSlice6 : State := wRun.modMs 0 3 (fun m => { m with clrPend := some 0, integ := { m.integ with q := 5 } })
/-- A state for the witness of `AbandonedRoutineRestarts`. -/
def wAbandonedRoutineRestarts1 : State := wIrq.modE 0 (fun e => { e with committed := true })
/-- A state for the witness of `TdcOperations`. -/
def wTdcOperations1 : State := wSend .tdcClose 4 (wStamp.modTd 0 3 fun d => { d with openAt := 64 })
/-- A state for the witness of `TriggersAndCaptures`. -/
def wTriggersAndCaptures7 : State := { wLine id with esc := { wRun.esc with pos := 5 } }
/-- A state for the witness of `TriggersAndCaptures`. -/
def wTriggersAndCaptures8 : State := wRun.modG 0 fun g => { g with acq := { g.acq with st := .post, line := 2 } }
/-- A state for the witness of `TriggersAndCaptures`. -/
def wTriggersAndCaptures9 : State := (wRun.modG 0 fun g => { g with acq := { g.acq with st := .post, line := 1 } })
/-- A state for the witness of `TriggersAndCaptures`. -/
def wTriggersAndCaptures10 : State := wCaptured (fun a => a)
/-- A state for the witness of `TriggersAndCaptures`. -/
def wTriggersAndCaptures11 : State := wCaptured (fun a => { a with sums := [(1, 0, 0, false)], edgeN := 0, j := 1 })
/-- A state for the witness of `TriggersAndCaptures`. -/
def wTriggersAndCaptures12 : State := wCaptured (fun a => { a with sums := [(1, 0, 0, false)], edgeN := 2, j := 1 })
/-- A state for the witness of `TriggersAndCaptures`. -/
def wTriggersAndCaptures13 : State := wCapTake (fun a => { a with sums := [(1, 0, 0, false)], edgeN := 1, j := 1 })
/-- A state for the witness of `TriggersAndCaptures`. -/
def wTriggersAndCaptures14 : State := wCapTake (fun a => { a with sums := [(1, 0, 0, false)], edgeN := 1, j := 0 })
/-- A state for the witness of `TriggersAndCaptures`. -/
def wTriggersAndCaptures15 : State := wCapTake (fun a => { a with sums := [(1, 0, 0, false)], edgeN := 1, j := 0, trigPt := some 0, st := .post, post := 9 })
/-- A state for the witness of `TriggersAndCaptures`. -/
def wTriggersAndCaptures16 : State := wEvents (wCapMask (wCapTake (fun a => { a with sums := [(1, 16000, 0, false)], edgeN := 1, j := 0, trigPt := some 0, st := .post, post := 9 })))
/-- A state for the witness of `KwenlinkReceiver`. -/
def wKwenlinkReceiver1 : State := { wReplay with kl := { wReplay.kl with rx := .up } }
/-- A state for the witness of `KwenlinkReceiver`. -/
def wKwenlinkReceiver2 : State := { inMode .enumerate with kl := (wKl .up).kl }
/-- A state for the witness of `DrainAndReplay`. -/
def wDrainAndReplay1 : State := { wReplay with clk := wLost.clk }
/-- A state for the witness of `RegisterRequests`. -/
def wRegisterRequests1 : State := { wRun with kl := { wRun.kl with due := some (mkPacket 0xFE 5 4 false true 9 [0]) } }
/-- A state for the witness of `Commands`. -/
def wCommands1 : State := { wRun with mc := { wRun.mc with queue := List.replicate 16 ⟨1, 0⟩ } }
/-- A state for the witness of `Commands`. -/
def wCommands2 : State := { wRun with mc := { wRun.mc with stopped := true } }
/-- A state for the witness of `Commands`. -/
def wCommands3 : State := { inMode .configure with mc := { wRun.mc with queue := [⟨1, 0⟩, ⟨2, 5⟩] } }
/-- A state for the witness of `Commands`. -/
def wCommands4 : State := { inMode .run with mc := { wRun.mc with queue := [⟨2, 0⟩, ⟨2, 5⟩] } }
/-- A state for the witness of `Commands`. -/
def wCommands5 : State := { inMode .run with mc := { wRun.mc with queue := [⟨8, 0⟩, ⟨2, 5⟩] } }
/-- A state for the witness of `Commands`. -/
def wCommands6 : State := { wReady with mc := { wRun.mc with queue := [⟨9, 0⟩, ⟨2, 5⟩] } }
/-- A state for the witness of `Commands`. -/
def wCommands7 : State := wTrig.modL 1 (fun x => { x with st := .live })
/-- A state for the witness of `CrownAndUrgentStop`. -/
def wCrownAndUrgentStop1 : State := { wForce with modes := { wForce.modes with mode := .safe } }
/-- A state for the witness of `CrownAndUrgentStop`. -/
def wCrownAndUrgentStop2 : State := { wForce with modes := { wForce.modes with mode := .factory } }
/-- A state for the witness of `CrownAndUrgentStop`. -/
def wCrownAndUrgentStop3 : State := { wForce with clk := wLost.clk }
/-- A state for the witness of `ModeEntries`. -/
def wModeEntries4 : State := { wAssigned with clk := wLost.clk }
/-- A state for the witness of `ModeEntries`. -/
def wModeEntries5 : State := (wCfg .relays).modFe 0 0 (fun f => { f with puRec := 1 <<< 4, relay := { f.relay with st := .opened } })
/-- A state for the witness of `ModeEntries`. -/
def wModeEntries6 : State := (wCfg .relays).modFe 0 0 (fun f => { f with puRec := 0xFFFFFFFFFFFFFFFF, relay := { f.relay with st := .opened } })
/-- A state for the witness of `ModeEntries`. -/
def wModeEntries7 : State := (wCfg .relays).modFe 0 0 (fun f => { f with puRec := 0xFFFFFFFFFFFFFFFF, relay := { f.relay with st := .opening, retA := true } })
/-- A state for the witness of `ModeEntries`. -/
def wModeEntries8 : State := (wCfg .relays).modFe 0 0 (fun f => { f with puRec := 0xFFFFFFFFFFFFFFFF, relay := { f.relay with st := .opened, retA := true, retB := true } })
/-- A state for the witness of `ModeEntries`. -/
def wModeEntries9 : State := (wCfg .relays).modFe 0 0 (fun f => { f with puRec := 0xFFFFFFFFFFFFFFFF, relay := { f.relay with st := .closed } })
/-- A state for the witness of `ModeEntries`. -/
def wModeEntries10 : State := { wCfg .values with pair := { en := true } }
/-- A state for the witness of `DescriptorsAndCompletions`. -/
def wDescriptorsAndCompletions1 : State := { wDescWait with rings := { wDescWait.rings with unsent := [{ sel := 9, slot := 0, slots := 1, frame := 0, ready := true }] } }
/-- A state for the witness of `WaveformSources`. -/
def wWaveformSources8 : State := wWav (fun w => { w with stopReq := some 0 }) wRun
/-- A state for the witness of `WaveformSources`. -/
def wWaveformSources9 : State := wWav (fun w => { w with st := .armed, at_ := 5 }) wRun
/-- A state for the witness of `WaveformSources`. -/
def wWaveformSources10 : State := { wWav (fun w => { w with st := .armed }) wRun with esc := { wRun.esc with pos := 70 } }
/-- A state for the witness of `McOperations`. -/
def wMcOperations1 : State := (wMc (8#32 <<< 26 ||| 0x00424031)).modHdr (pGRP 0) (fun h => { h with busy := true })
/-- A state for the witness of `McMessagesAndModes`. -/
def wMcMessagesAndModes2 : State := let s := wUnitQueues (wMc (22#32 <<< 26)); { s with mc := { s.mc with cmd := some ⟨3, 5⟩ } }
/-- A state for the witness of `DescriptorsAndCompletions`. -/
def wDescriptorsAndCompletions2 : State := ({ wDescWait with rings := { wDescWait.rings with unsent := [{ sel := 9, slot := 0, slots := 1, frame := 0, ready := true }] } }).modHdr pRING (fun h => { h with busy := true })
/-- A state for the witness of `TriggersAndCaptures`. -/
def wTriggersAndCaptures17 : State := wRun.modG 0 (fun g => { g with acq := { g.acq with st := .post, line := 1 } })
/-- A state for the witness of `StreamBoundariesAndData`. -/
def wStreamBoundariesAndData5 : State := { wRun with clk := { wRun.clk with lock := false } }

/-! ## Well-formedness: a term that each check refuses -/

/-- A snapshot with no channel in it. -/
def shortSnap : Snapshot := wSnap true

/-- A packet whose payload no LEN field can count. -/
def longPacket : KlPacket := ⟨.whole, 5, 0xFE, 1, false, false, 0, 1, 0, List.replicate 1024 0, 0⟩

theorem test_wf_image_frame : (Instr.imageFrame ⟨true, 9⟩ [1]).wf = false ∧ (Instr.imageFrame ⟨true, 9⟩ [1, 2]).wf = true := by decide
theorem test_wf_raw_frame : (Instr.rawFrame ⟨true, 9⟩ [1]).wf = false ∧ (Instr.rawFrame ⟨true, 8⟩ [1]).wf = true := by decide
theorem test_wf_mc_low : (Instr.mcArith 0x20000000).wf = false ∧ (Instr.mcRegMap 0).wf = false ∧ (Instr.mcFlow 0).wf = false ∧
    (Instr.mcWait 0).wf = false ∧ (Instr.mcArith 0x1C000000).wf = true := by decide
theorem test_wf_mc_high : (Instr.mcMessage 0).wf = false ∧ (Instr.mcGroupControl 0).wf = false ∧ (Instr.mcMode 0).wf = false ∧
    (Instr.mcReservedOp 0x7C000000).wf = false ∧ (Instr.mcReservedOp 0x80000000).wf = true := by decide
theorem test_wf_stream_data : (Instr.refill 0 0 0 [1, 2, 3]).wf = false ∧ (Instr.residentLoad 0 0 0 [1]).wf = false ∧
    (Instr.refill 0 0 0 [1, 2, 3, 4, 5, 6, 7, 8]).wf = true := by decide
theorem test_wf_packet : (Instr.klForward (.packet longPacket)).wf = false := by decide +kernel
theorem test_wf_requests : (Instr.regw { wReq 0x109 1 with data := [] }).wf = false ∧
    (Instr.regr { wReq 0x109 1 with len := 0 }).wf = false ∧ (Instr.regw (wReq 0x109 1)).wf = true := by decide
theorem test_wf_enum_assign : (Instr.enumAssign .mcQueue 0x01000000).wf = false ∧
    (Instr.enumAssign .kwenlink 0x01000000).wf = true := by decide
theorem test_wf_opcodes : (Instr.mspWrite (wFrame 2 3 2 [7, 8])).wf = false ∧ (Instr.mspRead (wFrame 1 3 1 [0])).wf = false ∧
    (Instr.mspBurstRead (wFrame 1 3 1 [4])).wf = false ∧ (Instr.mspBurstWrite (wFrame 1 3 2 [7, 8])).wf = false ∧
    (Instr.mspNop (wFrame 1 3 0 [])).wf = false ∧ (Instr.mspNop (wFrame 15 3 0 [])).wf = true := by decide +kernel
theorem test_wf_frame_length : (Instr.mspWrite (wFrame 1 3 2 [7])).wf = false ∧
    (Instr.mspWrite (wFrame 1 3 2 [7, 8])).wf = true := by decide +kernel
theorem test_wf_snapshot : (Instr.snapshotReceive shortSnap).wf = false := by decide
theorem test_wf_pages : (Instr.postedWriteComplete 512).wf = false ∧ (Instr.evtClr 512 0).wf = false ∧
    (Instr.snapWrite 512).wf = false ∧ (Instr.busyFlagClear 512 0).wf = false ∧ (Instr.evtClr 511 0).wf = true := by decide
theorem test_wf_bypass : (Instr.bypass 0).wf = false ∧ (Instr.bypass 1).wf = false ∧ (Instr.bypass 15).wf = true := by decide

/-! ## Figures of the spec's examples -/

/-- The state after a command. -/
def after (c : Instr) (s : State) : State :=
  match exec c s with
  | .next t => t
  | .fault _ => s
  | .refused _ => s

/-- FRAME_LEN 10,000 with the reset shares, at a throttle step (02, 18: the examples of P1). -/
def throttled (n : BitVec 3) : State := { State.reset with esc := { len := 10000 }, thm := { step := n } }

/-- 02 Example: a wafer-test group under throttle. -/
theorem test_budgets : (throttled 0).budget 0 0 = 8582 ∧ (throttled 0).budget 1 0 = 750 ∧ (throttled 0).budget 2 0 = 5000 ∧
    (throttled 2).budget 0 0 = 6436 ∧ (throttled 2).budget 1 0 = 562 := by decide +kernel

/-- 18 Example: a failed sensor during throttling. -/
theorem test_budgets_hot : (throttled 3).budget 0 0 = 5363 ∧ (throttled 3).budget 1 0 = 468 ∧
    (throttled 3).budget 2 0 = 3125 ∧ (throttled 4).budget 0 0 = 4291 ∧ (throttled 7).budget 0 0 = 1072 := by decide +kernel

/-- 04 Example: coulomb and energy counting on cell quad 153. -/
theorem test_energy : ({} : Integ).addE (131072 * 387973) = { e := 775946 } ∧
    ({} : Integ).addQ 131072 = { q := 131072, s := 1 } := by decide +kernel

/-- 11 Example: a stalled drain on one ring. -/
theorem test_ring_slots : ({ base := 12288, size := 4 } : Desc).cap = 8 ∧
    ({ base := 12288, size := 4 } : Desc).slotAdr 48 = 0x020C0000 ∧
    ({ base := 12288, size := 4 } : Desc).slotAdr 49 = 0x020C0020 := by decide

/-- 11 R290: x^3 mod g(x) is the check polynomial of the word 1. -/
theorem test_check_symbols : rsCheck 1 = 0xEDC ∧ rsCheck 0 = 0 := by decide

/-- 13 Example: pulling a unit onto the chain's timeline: S - 8T = 150 and SKEW 138 give e = 12. -/
theorem test_sync_error : (({ wLong with esc := { len := 2000 } } : State).setReg (adr pSYNC 0x09) 138).syncError 150 = 12 := by
  decide +kernel

/-- 15 Example: reading every register of one unit. -/
theorem test_header_words :
    let f : MspFrame := ⟨true, 32 * 67, 0x11, 4, 5, 0x4980, 64, 0, false, 0, 64 :: List.replicate 63 0, 0⟩
    frameWord0 f = 0x11454980 ∧ frameWord1 f = 0x40000000 ∧ adr (pGRP 38) 0 = 0x4980 ∧
      burstWraps 0x49BC false 8 = true ∧ burstAdr 0x49BC false 3 = 0x49BF ∧ burstAdr 0x49BC false 4 = 0x4980 := by
  decide +kernel

/-- 19: ESC.EVT at 0x0103, 0x0123, 0x8103 and 0x8123; 0x04C0 lies in a page that is not listed. -/
theorem test_addresses : decodeAdr 0x0103 = some (4, 3) ∧ decodeAdr 0x0123 = some (4, 3) ∧ decodeAdr 0x8103 = some (4, 3) ∧
    decodeAdr 0x8123 = some (4, 3) ∧ decodeAdr 0x04C0 = none := by decide +kernel

/-- 05 R131, R539: 0x80000007 + 0x80000007 carries out and overflows; X0 is never written. -/
theorem test_add : ((after (.add 0 2 2) wEng).grp 0).eng.regs.x[2] = 14 ∧
    ((after (.add 0 2 2) wEng).grp 0).eng.regs.flags = { c := true, v := true } ∧
    ((after (.addi 0 0 5) wEng).grp 0).eng.regs.x[0] = 0 := by decide +kernel

/-- 05 R131: SAR copies the sign, SHR shifts zeros in. -/
theorem test_shifts : ((after (.sar 0 2 4) wEng).grp 0).eng.regs.x[2] = 0xF8000000 ∧
    ((after (.shr 0 2 4) wEng).grp 0).eng.regs.x[2] = 0x08000000 := by decide +kernel

/-- 19 R463: a clear with a stale SEQ clears nothing. -/
theorem test_stale_clear : ((after (.evtClr pRING 0x00000001) (wRun.event pRING 0)).hdr pRING).evt = 1 ∧
    ((after (.evtClr pRING 0x00010001) (wRun.event pRING 0)).hdr pRING).evt = 0 := by decide +kernel

/-- 14 R359, R360: right after reset MODE.STATE shows BOOT. -/
theorem test_reset_mode : State.reset.modes.mode = .boot ∧ (State.reset.modeView).extractLsb' 0 4 = 1 := by decide +kernel

/-- 05 R128: CALL pushes the next address and goes to its target. -/
theorem test_call : ((after (.call 0 0 0x10F 0 0) wEng).grp 0).eng.pc = 0x10F ∧
    ((after (.call 0 0 0x10F 0 0) wEng).grp 0).eng.stack = [0x102] := by decide +kernel

/-! ## Hypotheses that can be met, statement by statement -/

theorem witness_CommandsKeepTheQueue : ∃ t, exec (Instr.add 0 2 3) wRun = .next t := ⟨_, rfl⟩

theorem witness_StepsKeepSramCanonical : wRun.sram.wf = true ∧ ∃ t, step wRun = .next t := ⟨by decide +kernel, _, rfl⟩

theorem witness_StepsKeepQueueBounds :
    ((∀ g : GroupIx, (wRun.grp g).eng.stack.length ≤ 8) ∧ wRun.mc.queue.length ≤ 16) ∧ ∃ t, step wRun = .next t :=
  ⟨by decide +kernel, _, rfl⟩
theorem test_wf_pairs : (Instr.tbShadowDone 0 2 [5] [5, 6] [] 0).wf = false ∧ (Instr.tbShadowDone 0 1 [5] [6] [1] 0).wf = false ∧
    (Instr.tbShadowDone 0 1 [5] [6] [0] 0).wf = true := by decide

theorem witness_WordsWaitForTheirCycle :
    (Instr.next 0 ∈ Micro.commands 0 (Micro.ofBits 0) ∧
      (wRun.grp 0).eng.running = false) ∧
    (Instr.next 0 ∈ Micro.commands 0 (Micro.ofBits 0) ∧
      (wWordsWaitForTheirCycle1.grp 0).eng.running = true ∧
      (wWordsWaitForTheirCycle1.grp 0).eng.spent = true ∧
      (wWordsWaitForTheirCycle1.grp 0).eng.restoring = false ∧
      (wWordsWaitForTheirCycle1.grp 0).eng.abDue = false ∧
      wWordsWaitForTheirCycle1.esc.pos.toNat + 1 < wWordsWaitForTheirCycle1.frameCycles) := by
  decide +kernel

theorem witness_EngineArithmetic :
    Runs wEng 0 := by
  unfold Runs; decide +kernel

theorem witness_EngineSumFlags :
    Runs wEng 0 := by
  unfold Runs; decide +kernel

theorem witness_EngineLoadsAndStores :
    (Runs wEng (0 : GroupIx) ∧
      wEng.cpmBad (0 : GroupIx) (BitVec.extractLsb' (0 : ℕ) (10 : ℕ) (837 : BitVec 24)).toNat = false ∧
      wEng.tblBad (0 : GroupIx) (BitVec.extractLsb' (0 : ℕ) (12 : ℕ) (837 : BitVec 24)).toNat = false ∧
      tblWritable (BitVec.extractLsb' (0 : ℕ) (12 : ℕ) (837 : BitVec 24)).toNat = true) ∧
    (Runs wBadWords (0 : GroupIx) ∧
      wBadWords.cpmBad (0 : GroupIx) (BitVec.extractLsb' (0 : ℕ) (10 : ℕ) (837 : BitVec 24)).toNat = true ∧
      wBadWords.tblBad (0 : GroupIx) (BitVec.extractLsb' (0 : ℕ) (12 : ℕ) (837 : BitVec 24)).toNat = true) ∧
    (Runs wEng (0 : GroupIx) ∧
      tblWritable (BitVec.extractLsb' (0 : ℕ) (12 : ℕ) (800 : BitVec 24)).toNat = false) := by
  unfold Runs; decide +kernel

theorem witness_EngineTimers :
    Runs wEng (0 : GroupIx) ∧
      (∀ (n : Word), (wEng.grp (0 : GroupIx)).eng.timers[(3 : Fin (4 : ℕ))] ≠ Timer.running n) := by
  have e : (wEng.grp 0).eng.timers[3] = Timer.stopped := by decide +kernel
  exact ⟨by unfold Runs; decide +kernel, fun n h => nomatch e.symm.trans h⟩

theorem witness_EngineTimers_2 :
    (wTimer.grp (0 : GroupIx)).eng.running = true ∧
      (wTimer.grp (0 : GroupIx)).eng.timers[(3 : Fin (4 : ℕ))] = Timer.running (5 : Word) ∧
      (5 : Word) ≠ (0 : Word) ∧
      Undisturbed wTimer (BitVec.toNat (5 : Word)) ∧
      wTimer.esc.pos.toNat + BitVec.toNat (5 : Word) < wTimer.frameCycles ∧
      wTimer.frameCycles ≤ (2 : ℕ) ^ (28 : ℕ) := by
  unfold Undisturbed; decide +kernel

theorem witness_BranchConditions :
    (∀ (l : LaneIx), lane 3 l = true → (wEng.grp 0).eng.view.chans[l].fe.stage.st = StageState.hiz) := by
  decide +kernel

theorem witness_SequencingGoesOn :
    Runs wEng (0 : GroupIx) ∧
      (wEng.grp (0 : GroupIx)).eng.abDue = false ∧
      Fetchable wEng (0 : GroupIx) ((wEng.grp (0 : GroupIx)).eng.pc.toNat + (1 : ℕ)) ∧
      (Fetchable wEng (0 : GroupIx) (if (wEng.cond (0 : GroupIx) (0 : BitVec 6) (0 : LaneMask) (2 : RegIx)).1 =
        true then BitVec.toNat (271 : BitVec 12) else (wEng.grp (0 : GroupIx)).eng.pc.toNat + (1 : ℕ))) ∧
      (Fetchable wEng (0 : GroupIx) (if (wEng.cond (0 : GroupIx) (0 : BitVec 6) (0 : LaneMask) (2 : RegIx)).1 =
        true then (wEng.grp (0 : GroupIx)).eng.pc.toNat + (1 : ℕ) else (wEng.grp (0 : GroupIx)).eng.pc.toNat)) ∧
      (Fetchable wEng (0 : GroupIx) (if (wEng.cond (0 : GroupIx) (0 : BitVec 6) (0 : LaneMask) (2 : RegIx)).1 =
        true then (wEng.grp (0 : GroupIx)).eng.pc.toNat + (1 : ℕ) else if (wEng.grp
        (0 : GroupIx)).eng.view.timers[(3 : ℕ)] = Timer.expired then BitVec.toNat (271 : BitVec 12) else (wEng.grp
        (0 : GroupIx)).eng.pc.toNat)) ∧
      (Fetchable wEng (0 : GroupIx) (if (wEng.grp (0 : GroupIx)).eng.view.regs.lc = (0 : Word) then (wEng.grp
        (0 : GroupIx)).eng.pc.toNat + (1 : ℕ) else BitVec.toNat (271 : BitVec 12))) := by
  unfold Runs Fetchable; decide +kernel

theorem witness_ReturnStack :
    (Runs wEng (0 : GroupIx) ∧
      (wEng.grp (0 : GroupIx)).eng.abDue = false ∧
      (wEng.cond (0 : GroupIx) (0 : BitVec 6) (0 : LaneMask) (2 : RegIx)).1 = true ∧
      (wEng.grp (0 : GroupIx)).eng.stack.length < (8 : ℕ) ∧
      Fetchable wEng (0 : GroupIx) (BitVec.toNat (271 : BitVec 12)) ∧
      (wEng.grp (0 : GroupIx)).eng.stack = []) ∧
    (Runs wEng (0 : GroupIx) ∧
      (wEng.grp (0 : GroupIx)).eng.abDue = false ∧
      (wEng.cond (0 : GroupIx) (1 : BitVec 6) (0 : LaneMask) (2 : RegIx)).1 = false ∧
      Fetchable wEng (0 : GroupIx) ((wEng.grp (0 : GroupIx)).eng.pc.toNat + (1 : ℕ))) ∧
    (Runs wFull (0 : GroupIx) ∧
      (wFull.grp (0 : GroupIx)).eng.abDue = false ∧
      (wFull.cond (0 : GroupIx) (0 : BitVec 6) (0 : LaneMask) (2 : RegIx)).1 = true ∧
      (wFull.grp (0 : GroupIx)).eng.stack = (263 : BitVec 12) :: List.replicate (7 : ℕ) (263 : BitVec 12) ∧
      Fetchable wFull (0 : GroupIx) (BitVec.toNat (263 : BitVec 12)) ∧
      (8 : ℕ) ≤ (wFull.grp (0 : GroupIx)).eng.stack.length) ∧
    ((wDue.grp (0 : GroupIx)).eng.running = false) := by
  unfold Runs Fetchable; decide +kernel

theorem witness_EngineGroupStops :
    ((wDue.grp 0).eng.running = false) ∧
    (Runs wDone 0 ∧
      ((wDone.grp 0).eng.pc.toNat + 1 < (wDone.grp 0).eng.entry.toNat ∨ (wDone.grp 0).eng.entry.toNat +
        (wDone.grp 0).eng.len.toNat ≤ (wDone.grp 0).eng.pc.toNat + 1) ∧
      (wDone.grp 0).eng.running = true ∧
      (wDone.grp 0).eng.committed = true ∧
      (0 < (wDone.grp 0).eng.toCommitLen ∧ Undisturbed wDone ((wDone.grp 0).eng.toCommitLen - 1) ∧
        wDone.esc.pos.toNat + (wDone.grp 0).eng.toCommitLen < wDone.frameCycles) ∧
      (wDone.grp 0).eng.toCommitLen < (wDone.grp 0).eng.toGuard) ∧
    ((wEng.grp 0).eng.running = true ∧
      (0 < (wEng.grp 0).eng.toGuard ∧ Undisturbed wEng ((wEng.grp 0).eng.toGuard - 1) ∧ wEng.esc.pos.toNat +
        (wEng.grp 0).eng.toGuard < wEng.frameCycles)) := by
  unfold Runs Undisturbed; decide +kernel

theorem witness_ReleaseCommitEnd :
    (((wDone.grp (0 : GroupIx)).due = [] ∨ ¬((wDone.grp (0 : GroupIx)).eng.running = false ∧ (wDone.grp
      (0 : GroupIx)).gstop = false ∧ (wDone.modes.mode = Mode.run ∨ wDone.modes.mode = Mode.mirror) ∧ (64 : ℕ) ≤
      (wDone.grp (0 : GroupIx)).nextAt ∧ wDone.esc.pos.toNat ≤ (wDone.grp (0 : GroupIx)).nextAt ∧ (wDone.grp
      (0 : GroupIx)).nextAt < wDone.frameCycles - (128 : ℕ))) ∧
      Runs wDone (0 : GroupIx)) ∧
    (((wDue.grp (0 : GroupIx)).due = [((3 : Fin (8 : ℕ)),
      { entry := (512 : BitVec 12), len := (5 : BitVec 12) : Slot })]) ∧
      ((wDue.grp (0 : GroupIx)).eng.running = false ∧ (wDue.grp (0 : GroupIx)).gstop = false ∧ (wDue.modes.mode =
        Mode.run ∨ wDue.modes.mode = Mode.mirror) ∧ (64 : ℕ) ≤ (wDue.grp (0 : GroupIx)).nextAt ∧ wDue.esc.pos.toNat ≤
        (wDue.grp (0 : GroupIx)).nextAt ∧ (wDue.grp (0 : GroupIx)).nextAt < wDue.frameCycles - (128 : ℕ)) ∧
      Undisturbed wDue ((wDue.grp (0 : GroupIx)).nextAt - wDue.esc.pos.toNat) ∧
      (wDue.ucBad (0 : GroupIx) ({ entry := (512 : BitVec 12), len := (5 : BitVec 12) : Slot }.entry +
        (1 : BitVec 12)).toNat = false)) := by
  unfold Runs Undisturbed; decide +kernel

theorem witness_AbandonedRoutineRestarts :
    ((wAbDue.grp 0).eng.running = true ∧
      (wAbDue.grp 0).eng.committed = false ∧
      (wAbDue.grp 0).eng.restoring = false ∧
      (wAbDue.grp 0).eng.vendor = false ∧
      (wAbDue.grp 0).eng.spent = false ∧
      wAbDue.irqPend 0 &&& ~~~(wAbDue.grp 0).irqSeen ≠ 0 ∧
      (wAbDue.grp 0).eng.restarts.toNat < (wAbDue.grp 0).eng.rst.toNat ∧
      wAbDue.ucBad 0 ((wAbDue.grp 0).eng.entry + 1).toNat = false ∧
      (wAbDue.grp 0).eng.abDue = true ∧
      (wAbDue.grp 0).eng.entry.toNat ≤ (wAbDue.grp 0).eng.pc.toNat + 1 ∧
      (wAbDue.grp 0).eng.pc.toNat + 1 < (wAbDue.grp 0).eng.entry.toNat + (wAbDue.grp 0).eng.len.toNat) ∧
    ((wPostLoss.grp 0).eng.running = true ∧
      (wPostLoss.grp 0).eng.committed = true ∧
      (wPostLoss.grp 0).eng.restoring = false ∧
      (wPostLoss.grp 0).eng.vendor = false ∧
      (wPostLoss.grp 0).eng.spent = false ∧
      (wPostLoss.grp 0).eng.postLoss = true) ∧
    ((wSpent.grp 0).eng.running = true ∧
      (wSpent.grp 0).eng.committed = false ∧
      (wSpent.grp 0).eng.restoring = false ∧
      (wSpent.grp 0).eng.vendor = false ∧
      (wSpent.grp 0).eng.restarts.toNat < (wSpent.grp 0).eng.rst.toNat ∧
      wSpent.ucBad 0 ((wSpent.grp 0).eng.entry + 1).toNat = false ∧
      (wSpent.grp 0).eng.spent = true ∧
      wSpent.irqPend 0 &&& ~~~(wSpent.grp 0).irqSeen ≠ 0) ∧
    (((wLast wSpent).grp 0).eng.running = true ∧
      ((wLast wSpent).grp 0).eng.committed = false ∧
      ((wLast wSpent).grp 0).eng.restoring = false ∧
      ((wLast wSpent).grp 0).eng.vendor = false ∧
      ((wLast wSpent).grp 0).eng.rst.toNat ≤ ((wLast wSpent).grp 0).eng.restarts.toNat ∧
      ((wLast wSpent).grp 0).eng.spent = true ∧
      (wLast wSpent).irqPend 0 &&& ~~~((wLast wSpent).grp 0).irqSeen ≠ 0) ∧
    ((wAbandonedRoutineRestarts1.grp 0).eng.running = true ∧
      (wAbandonedRoutineRestarts1.grp 0).eng.committed = true ∧
      (wAbandonedRoutineRestarts1.grp 0).eng.restoring = false ∧
      (wAbandonedRoutineRestarts1.grp 0).eng.vendor = false ∧
      wAbandonedRoutineRestarts1.irqPend 0 &&& ~~~(wAbandonedRoutineRestarts1.grp 0).irqSeen ≠ 0) ∧
    (Runs (wBadUc 258 wEng) 0 ∧
      ((wBadUc 258 wEng).grp 0).eng.abDue = false ∧
      ((wBadUc 258 wEng).grp 0).eng.entry.toNat ≤ ((wBadUc 258 wEng).grp 0).eng.pc.toNat + 1 ∧
      ((wBadUc 258 wEng).grp 0).eng.pc.toNat + 1 < ((wBadUc 258 wEng).grp 0).eng.entry.toNat +
        ((wBadUc 258 wEng).grp 0).eng.len.toNat ∧
      (wBadUc 258 wEng).ucBad 0 (((wBadUc 258 wEng).grp 0).eng.pc.toNat + 1) = true) ∧
    (((wBadUc 257 wSpent).grp 0).eng.running = true ∧
      ((wBadUc 257 wSpent).grp 0).eng.committed = false ∧
      ((wBadUc 257 wSpent).grp 0).eng.restoring = false ∧
      ((wBadUc 257 wSpent).grp 0).eng.vendor = false ∧
      ((wBadUc 257 wSpent).grp 0).eng.restarts.toNat < ((wBadUc 257 wSpent).grp 0).eng.rst.toNat ∧
      (wBadUc 257 wSpent).ucBad 0 (((wBadUc 257 wSpent).grp 0).eng.entry + 1).toNat = true ∧
      ((wBadUc 257 wSpent).grp 0).eng.spent = true ∧
      (wBadUc 257 wSpent).irqPend 0 &&& ~~~((wBadUc 257 wSpent).grp 0).irqSeen ≠ 0) ∧
    (((wLast wAbDue).grp 0).eng.running = true ∧
      ((wLast wAbDue).grp 0).eng.committed = false ∧
      ((wLast wAbDue).grp 0).eng.restoring = false ∧
      ((wLast wAbDue).grp 0).eng.vendor = false ∧
      ((wLast wAbDue).grp 0).eng.rst.toNat ≤ ((wLast wAbDue).grp 0).eng.restarts.toNat ∧
      ((wLast wAbDue).grp 0).eng.spent = false ∧
      ((wLast wAbDue).grp 0).eng.abDue = true ∧
      ((wLast wAbDue).grp 0).eng.entry.toNat ≤ ((wLast wAbDue).grp 0).eng.pc.toNat + 1 ∧
      ((wLast wAbDue).grp 0).eng.pc.toNat + 1 < ((wLast wAbDue).grp 0).eng.entry.toNat +
        ((wLast wAbDue).grp 0).eng.len.toNat) := by
  unfold Runs; decide +kernel

theorem witness_TileLinkAndArrivals :
    ((wDone.chan 0 3).ms.arrivals = [{ l0 := 5, l1 := some 7, ovr := true }]) := by
  decide +kernel

theorem witness_ForceStage :
    Runs wForce 0 ∧
      (∀ (l : LaneIx), lane 1 l = true → LaneFree wForce 0 l ∧ (wForce.chan 0 l).fe.outSel = false) ∧
      (∀ (l : LaneIx), lane 1 l = true → LaneFree wForce 0 l) ∧
      (∀ (l : LaneIx), lane 1 l = true → (wForce.chan 0 l).fe.outSel = false) := by
  unfold Runs LaneFree QuadsQuiet; decide +kernel

theorem witness_RelayCommands :
    Runs wLimited 0 ∧
      wLimited.modes.mode ≠ Mode.mirror ∧
      ((wLimited.leader 0 0 ≠ 0 ∨ wLimited.limitHeld 0 0 = true ∨ lane (wLimited.grp 0).hold 0 = true) ∨
        (wLimited.chan 0 0).fe.outSel = true) ∧
      (wLimited.leader 0 0 ≠ 0 ∨ wLimited.limitHeld 0 0 = true ∨ lane (wLimited.grp 0).hold 0 = true) ∧
      wLimited.gang 0 0 = 1#16 <<< ↑0 ∧
      (wLimited.chan 0 0).fe.limitHeld = true ∧
      (wLimited.chan 0 0).fe.relay.st ≠ RelayState.closed := by
  unfold Runs; and_intros <;> decide +kernel

theorem witness_RelayCommands_2 :
    Runs wHot 0 ∧
      LaneFree wHot 0 0 ∧
      (wHot.chan 0 0).fe.relay.st = RelayState.closed ∧
      FrontEnd.cold wHot.rootNow (wHot.chan 0 0).fe = false := by
  unfold Runs LaneFree QuadsQuiet; and_intros <;> decide +kernel

theorem witness_RelayCommands_3 :
    Runs (wEvents wRetired) 0 ∧
      LaneFree (wEvents wRetired) 0 0 ∧
      ((wEvents wRetired).chan 0 0).fe.relay.st = RelayState.opened ∧
      (wEvents wRetired).nextBeam 0 0 = none := by
  unfold Runs LaneFree QuadsQuiet; and_intros <;> decide +kernel

theorem witness_RelayCommands_4 :
    Runs (wEvents wMoving) 0 ∧
      LaneFree (wEvents wMoving) 0 0 ∧
      (((wEvents wMoving).chan 0 0).fe.relay.st = RelayState.closing ∨ ((wEvents wMoving).chan 0 0).fe.relay.st =
        RelayState.opening) := by
  unfold Runs LaneFree QuadsQuiet; and_intros <;> decide +kernel

theorem witness_RelayCommands_5 :
    Runs wClosed 0 ∧
      LaneFree wClosed 0 0 ∧
      (wClosed.chan 0 0).fe.relay.st = RelayState.closed ∧
      FrontEnd.cold wClosed.rootNow (wClosed.chan 0 0).fe = true := by
  unfold Runs LaneFree QuadsQuiet; and_intros <;> decide +kernel

theorem witness_RelayCommands_6 :
    Runs (wEvents wNoIdle) 0 ∧
      LaneFree (wEvents wNoIdle) 0 0 ∧
      ((wEvents wNoIdle).chan 0 0).fe.relay.st = RelayState.opened ∧
      FrontEnd.cold (wEvents wNoIdle).rootNow ((wEvents wNoIdle).chan 0 0).fe = false ∧
      (wEvents wNoIdle).nextBeam 0 0 ≠ none := by
  unfold Runs LaneFree QuadsQuiet; and_intros <;> decide +kernel

theorem witness_RelayCommands_7 :
    Runs wOpen 0 ∧
      LaneFree wOpen 0 0 ∧
      (wOpen.chan 0 0).fe.relay.st = RelayState.opened ∧
      FrontEnd.cold wOpen.rootNow (wOpen.chan 0 0).fe = true ∧
      wOpen.nextBeam 0 0 = some false ∧
      ((if false = true then (wOpen.chan 0 0).fe.relay.pendB else (wOpen.chan 0 0).fe.relay.pendA) < 4294967294) := by
  unfold Runs LaneFree QuadsQuiet; and_intros <;> decide +kernel

theorem witness_LevelsAndComparators :
    Runs wForce 0 ∧
      (∀ (l : LaneIx), lane 17 l = true → LaneFree wForce 0 l) ∧
      (∀ (k : Fin 1024), wForce.cpmBad 0 ↑k = false) := by
  unfold Runs LaneFree QuadsQuiet; decide +kernel

theorem witness_TripsAndComparatorEvents :
    QuadsQuiet wTripsAndComparatorEvents3 (0 : GroupIx) ∧
      (wTripsAndComparatorEvents3.grp (0 : GroupIx)).failed = false ∧
      wTripsAndComparatorEvents3.gang (0 : GroupIx) (0 : LaneIx) &&& (wTripsAndComparatorEvents3.grp
        (0 : GroupIx)).hold = (0 : LaneMask) ∧
      (wTripsAndComparatorEvents3.rootRuns = true → Undisturbed wTripsAndComparatorEvents3
        (if wTripsAndComparatorEvents3.rootRuns = true then wTripsAndComparatorEvents3.cyclesTo
        ((wTripsAndComparatorEvents3.chan (0 : GroupIx) (0 : LaneIx)).fe.cmp false).blankTo else (0 : ℕ)) ∧
        (wTripsAndComparatorEvents3.esc.pos.toNat + if wTripsAndComparatorEvents3.rootRuns =
        true then wTripsAndComparatorEvents3.cyclesTo ((wTripsAndComparatorEvents3.chan (0 : GroupIx)
        (0 : LaneIx)).fe.cmp false).blankTo else (0 : ℕ)) < wTripsAndComparatorEvents3.frameCycles ∧
        (wTripsAndComparatorEvents3.rootNow + (16 : ℕ) * if wTripsAndComparatorEvents3.rootRuns =
        true then wTripsAndComparatorEvents3.cyclesTo ((wTripsAndComparatorEvents3.chan (0 : GroupIx)
        (0 : LaneIx)).fe.cmp false).blankTo else (0 : ℕ)) < (2 : ℕ) ^ (64 : ℕ) ∧ (wTripsAndComparatorEvents3.grp
        (0 : GroupIx)).sends = [] ∧ (wTripsAndComparatorEvents3.grp (0 : GroupIx)).clears = []) ∧
      ((wTripsAndComparatorEvents3.chan (0 : GroupIx) (0 : LaneIx)).fe.cmp false).tripped = true ∧
      ((wTripsAndComparatorEvents3.chan (0 : GroupIx) (0 : LaneIx)).fe.cmp false).blanking = true ∧
      ((wTripsAndComparatorEvents3.chan (0 : GroupIx) (0 : LaneIx)).fe.cmp false).qualified = true ∧
      ((wTripsAndComparatorEvents3.chan (0 : GroupIx) (0 : LaneIx)).fe.cmp false).mode = (3 : BitVec 3) ∧
      wTripsAndComparatorEvents3.modes.mode ≠ Mode.mirror ∧
      ((wTripsAndComparatorEvents3.chan (0 : GroupIx) (0 : LaneIx)).fe.cmp false).acting ≠ (0 : ℕ) ∧
      ((wTripsAndComparatorEvents3.chan (0 : GroupIx) (0 : LaneIx)).fe.cmp false).tripped ≠ false ∧
      wTripsAndComparatorEvents3.modes.mode = Mode.configure ∧
      (wTripsAndComparatorEvents3.chan (0 : GroupIx) (0 : LaneIx)).fe.restore = true ∧
      wTripsAndComparatorEvents3.limitHeld (0 : GroupIx) (0 : LaneIx) = false ∧
      (wTripsAndComparatorEvents3.chan (0 : GroupIx) (0 : LaneIx)).fe.relay.st.moving = false ∧
      (wTripsAndComparatorEvents3.grp (0 : GroupIx)).clears = [] ∧
      (wTripsAndComparatorEvents3.modes.mode = Mode.configure ∧ countLanes (BitVec.setWidth (16 : ℕ)
        (65535 : Word)) ≠ (1 : ℕ) ∧ ∀ (i : Fin (4 : ℕ)), i ≠ (2 : Fin (4 : ℕ)) → BitVec.setWidth (16 : ℕ)
        (wTripsAndComparatorEvents3.reg (adr (pGRP (0 : GroupIx)) ((24 : ℕ) + (↑i : ℕ)))) &&& BitVec.setWidth
        (16 : ℕ) (65535 : Word) = (0 : LaneMask)) := by
  unfold QuadsQuiet Undisturbed; and_intros <;> decide +kernel

theorem witness_TripsAndComparatorEvents_2 :
    (((wRun.chan (0 : GroupIx) (0 : LaneIx)).fe.cmp false).mode = (0 : BitVec 3) ∨ ((wRun.chan (0 : GroupIx)
      (0 : LaneIx)).fe.cmp false).mode = (1 : BitVec 3) ∨ (4 : ℕ) < ((wRun.chan (0 : GroupIx)
      (0 : LaneIx)).fe.cmp false).mode.toNat) ∧
      ((wRun.chan (0 : GroupIx) (0 : LaneIx)).fe.cmp false).blankTo ≤ wRun.rootNow ∧
      ((wRun.chan (0 : GroupIx) (0 : LaneIx)).fe.cmp false).tripped = false ∧
      (¬(wRun.modes.mode = Mode.configure ∧ countLanes (BitVec.setWidth (16 : ℕ) (15 : Word)) ≠ (1 : ℕ) ∧ ∀
        (i : Fin (4 : ℕ)), i ≠ (2 : Fin (4 : ℕ)) → BitVec.setWidth (16 : ℕ) (wRun.reg (adr (pGRP (0 : GroupIx))
        ((24 : ℕ) + (↑i : ℕ)))) &&& BitVec.setWidth (16 : ℕ) (15 : Word) = (0 : LaneMask))) := by
  and_intros <;> decide +kernel

theorem witness_TripsAndComparatorEvents_3 :
    QuadsQuiet wTripsAndComparatorEvents1 (0 : GroupIx) ∧
      (wTripsAndComparatorEvents1.grp (0 : GroupIx)).failed = false ∧
      wTripsAndComparatorEvents1.gang (0 : GroupIx) (0 : LaneIx) &&& (wTripsAndComparatorEvents1.grp
        (0 : GroupIx)).hold = (0 : LaneMask) ∧
      (wTripsAndComparatorEvents1.rootRuns = true → Undisturbed wTripsAndComparatorEvents1
        (if wTripsAndComparatorEvents1.rootRuns = true then wTripsAndComparatorEvents1.cyclesTo
        ((wTripsAndComparatorEvents1.chan (0 : GroupIx) (0 : LaneIx)).fe.cmp false).blankTo else (0 : ℕ)) ∧
        (wTripsAndComparatorEvents1.esc.pos.toNat + if wTripsAndComparatorEvents1.rootRuns =
        true then wTripsAndComparatorEvents1.cyclesTo ((wTripsAndComparatorEvents1.chan (0 : GroupIx)
        (0 : LaneIx)).fe.cmp false).blankTo else (0 : ℕ)) < wTripsAndComparatorEvents1.frameCycles ∧
        (wTripsAndComparatorEvents1.rootNow + (16 : ℕ) * if wTripsAndComparatorEvents1.rootRuns =
        true then wTripsAndComparatorEvents1.cyclesTo ((wTripsAndComparatorEvents1.chan (0 : GroupIx)
        (0 : LaneIx)).fe.cmp false).blankTo else (0 : ℕ)) < (2 : ℕ) ^ (64 : ℕ) ∧ (wTripsAndComparatorEvents1.grp
        (0 : GroupIx)).sends = [] ∧ (wTripsAndComparatorEvents1.grp (0 : GroupIx)).clears = []) ∧
      ((wTripsAndComparatorEvents1.chan (0 : GroupIx) (0 : LaneIx)).fe.cmp false).tripped = true ∧
      ((wTripsAndComparatorEvents1.chan (0 : GroupIx) (0 : LaneIx)).fe.cmp false).blanking = true ∧
      ((wTripsAndComparatorEvents1.chan (0 : GroupIx) (0 : LaneIx)).fe.cmp false).qualified = true ∧
      (((wTripsAndComparatorEvents1.chan (0 : GroupIx) (0 : LaneIx)).fe.cmp false).mode = (2 : BitVec 3) ∨
        ((wTripsAndComparatorEvents1.chan (0 : GroupIx) (0 : LaneIx)).fe.cmp false).mode = (3 : BitVec 3) ∧
        wTripsAndComparatorEvents1.modes.mode = Mode.mirror ∨ ((wTripsAndComparatorEvents1.chan (0 : GroupIx)
        (0 : LaneIx)).fe.cmp false).mode = (4 : BitVec 3) ∧ (wTripsAndComparatorEvents1.modes.mode = Mode.mirror ∨
        (↑(0 : LaneIx) : ℕ) % (4 : ℕ) = (0 : ℕ))) := by
  unfold QuadsQuiet Undisturbed; and_intros <;> decide +kernel

theorem witness_TripsAndComparatorEvents_4 :
    QuadsQuiet (wCutoff Mode.run) (0 : GroupIx) ∧
      ((wCutoff Mode.run).grp (0 : GroupIx)).failed = false ∧
      (wCutoff Mode.run).gang (0 : GroupIx) (1 : LaneIx) &&& ((wCutoff Mode.run).grp (0 : GroupIx)).hold =
        (0 : LaneMask) ∧
      ((wCutoff Mode.run).rootRuns = true → Undisturbed (wCutoff Mode.run) (if (wCutoff Mode.run).rootRuns =
        true then (wCutoff Mode.run).cyclesTo (((wCutoff Mode.run).chan (0 : GroupIx)
        (1 : LaneIx)).fe.cmp false).blankTo else (0 : ℕ)) ∧ ((wCutoff Mode.run).esc.pos.toNat + if
        (wCutoff Mode.run).rootRuns = true then (wCutoff Mode.run).cyclesTo (((wCutoff Mode.run).chan (0 : GroupIx)
        (1 : LaneIx)).fe.cmp false).blankTo else (0 : ℕ)) < (wCutoff Mode.run).frameCycles ∧
        ((wCutoff Mode.run).rootNow + (16 : ℕ) * if (wCutoff Mode.run).rootRuns = true then
        (wCutoff Mode.run).cyclesTo (((wCutoff Mode.run).chan (0 : GroupIx)
        (1 : LaneIx)).fe.cmp false).blankTo else (0 : ℕ)) < (2 : ℕ) ^ (64 : ℕ) ∧ ((wCutoff Mode.run).grp
        (0 : GroupIx)).sends = [] ∧ ((wCutoff Mode.run).grp (0 : GroupIx)).clears = []) ∧
      (((wCutoff Mode.run).chan (0 : GroupIx) (1 : LaneIx)).fe.cmp false).tripped = true ∧
      (((wCutoff Mode.run).chan (0 : GroupIx) (1 : LaneIx)).fe.cmp false).blanking = true ∧
      (((wCutoff Mode.run).chan (0 : GroupIx) (1 : LaneIx)).fe.cmp false).qualified = true ∧
      ((((wCutoff Mode.run).chan (0 : GroupIx) (1 : LaneIx)).fe.cmp false).mode = (4 : BitVec 3) ∧
        (wCutoff Mode.run).modes.mode ≠ Mode.mirror ∧ (↑(1 : LaneIx) : ℕ) % (4 : ℕ) ≠ (0 : ℕ) ∧
        (((wCutoff Mode.run).quad (0 : GroupIx) (quadOf (1 : LaneIx))).st = QuadState.idle ∨
        ((wCutoff Mode.run).quad (0 : GroupIx) (quadOf (1 : LaneIx))).st = QuadState.done ∨
        ((wCutoff Mode.run).quad (0 : GroupIx) (quadOf (1 : LaneIx))).st = QuadState.refused)) ∧
      (wCutoff Mode.run).gang (0 : GroupIx) (quadLane (quadOf (1 : LaneIx)) (0 : Fin (4 : ℕ))) = BitVec.ofNat
        (16 : ℕ) (1 : ℕ) <<< (↑(quadLane (quadOf (1 : LaneIx)) (0 : Fin (4 : ℕ))) : ℕ) ∧
      ((wCutoff Mode.run).chan (0 : GroupIx) (quadLane (quadOf (1 : LaneIx)) (0 : Fin (4 : ℕ)))).fe.action =
        SafeAction.none ∧
      (wCutoff Mode.run).drives = true := by
  unfold QuadsQuiet Undisturbed; and_intros <;> decide +kernel

theorem witness_ConverterOperations :
    (Runs (wBusy (wJob StartKind.scheduled 2) wEng) 0 ∧
      (∀ (k : Fin 1024), (wBusy (wJob StartKind.scheduled 2) wEng).cpmBad 0 ↑k = false) ∧
      ((wBusy (wJob StartKind.scheduled 2) wEng).grp 0).eng.committed = false ∧
      (((wBusy (wJob StartKind.scheduled 2) wEng).grp 0).slice 3).job = some (wJob StartKind.scheduled 2) ∧
      (wJob StartKind.scheduled 2).mode = 2 ∧
      (wJob StartKind.scheduled 2).kind = StartKind.scheduled ∧
      (((wBusy (wJob StartKind.scheduled 2) wEng).grp 0).slice 3).next = none) ∧
    (OnItsWay (wSend TileOp.adcRead 4 wRun) 0 3 TileOp.adcRead 4) ∧
    (OnItsWay (wSend TileOp.disarmPw 4 wArmed) 0 3 TileOp.disarmPw 4) ∧
    (Runs wCommitted 0 ∧
      (∀ (k : Fin 1024), wCommitted.cpmBad 0 ↑k = false) ∧
      (wCommitted.grp 0).eng.committed = true) ∧
    ((∀ (k : Fin 1024), ((wSend (TileOp.armPw (wJob StartKind.pulse 0)) 4 wRun).flow 4).cpmBad 0 ↑k = false) ∧
      OnItsWay (wSend (TileOp.armPw (wJob StartKind.pulse 0)) 4 wRun) 0 3 (TileOp.armPw
        (wJob StartKind.pulse 0)) 4) := by
  unfold OnItsWay Runs; decide +kernel

theorem witness_ConversionsAtTheSlice :
    ((wWarm.grp (0 : GroupIx)).slice (3 : LaneIx)).warming = true ∧
      wWarm.modes.mode ≠ Mode.reset ∧
      wWarm.modes.mode ≠ Mode.boot ∧
      wWarm.clk.gated = false ∧
      (∀ (i : Fin (17 : ℕ)), (wWarm.grp (0 : GroupIx)).slices[i].job = none) := by
  and_intros <;> decide +kernel

theorem witness_ConversionsAtTheSlice_2 :
    (((wBusy (wTaken (3 : ℕ) none (wCont (0 : ℕ))) wRun).grp (0 : GroupIx)).slice (3 : LaneIx)).job = some (wTaken
      (3 : ℕ) none (wCont (0 : ℕ))) ∧
      (((wBusy (wTaken (3 : ℕ) none (wCont (0 : ℕ))) wRun).grp (0 : GroupIx)).slice (3 : LaneIx)).warming = false ∧
      (wTaken (3 : ℕ) none (wCont (0 : ℕ))).mode = (2 : BitVec 2) ∧
      (wTaken (3 : ℕ) none (wCont (0 : ℕ))).kind = StartKind.scheduled ∧
      ((wTaken (3 : ℕ) none (wCont (0 : ℕ))).take =
        some { edge := none, src := (3 : ℕ), range := (0 : BitVec 3), gain := (0 : BitVec 24), ofs := (0 : BitVec 24), cg := (0 : BitVec 24), co := (0 : BitVec 24) : Sampling }) ∧
      (wTaken (3 : ℕ) none (wCont (0 : ℕ))).n + (1 : ℕ) < (2 : ℕ) ^ (wTaken (3 : ℕ) none (wCont (0 : ℕ))).k ∧
      (wBusy (wTaken (3 : ℕ) none (wCont (0 : ℕ))) wRun).cpmBad (0 : GroupIx) ((64 : ℕ) * (↑(3 : LaneIx) : ℕ) +
        (20 : ℕ)) = false ∧
      ({ edge := none, src := (3 : ℕ), range := (0 : BitVec 3), gain := (0 : BitVec 24), ofs := (0 : BitVec 24), cg := (0 : BitVec 24), co := (0 : BitVec 24) : Sampling }.src = (3 : ℕ) ∨ { edge := none, src := (3 : ℕ), range := (0 : BitVec 3), gain := (0 : BitVec 24), ofs := (0 : BitVec 24), cg := (0 : BitVec 24), co := (0 : BitVec 24) : Sampling }.src = (4 : ℕ)) := by
  and_intros <;> decide +kernel

theorem witness_ConversionsAtTheSlice_3 :
    ((wHeldFirst.grp (0 : GroupIx)).slice (3 : LaneIx)).job = some (wTaken (1 : ℕ) none (wJob StartKind.scheduled
      (0 : BitVec 2))) ∧
      ((wHeldFirst.grp (0 : GroupIx)).slice (3 : LaneIx)).warming = false ∧
      (wTaken (1 : ℕ) none (wJob StartKind.scheduled (0 : BitVec 2))).mode ≠ (2 : BitVec 2) ∧
      ((wHeldFirst.grp (0 : GroupIx)).slice (3 : LaneIx)).next = none ∧
      lane (wHeldFirst.grp (0 : GroupIx)).hold (3 : LaneIx) = false ∧
      ((wTaken (1 : ℕ) none (wJob StartKind.scheduled (0 : BitVec 2))).take =
        some { edge := none, src := (1 : ℕ), range := (0 : BitVec 3), gain := (0 : BitVec 24), ofs := (0 : BitVec 24), cg := (0 : BitVec 24), co := (0 : BitVec 24) : Sampling }) ∧
      (2 : ℕ) ^ (wTaken (1 : ℕ) none (wJob StartKind.scheduled (0 : BitVec 2))).k ≤ (wTaken (1 : ℕ) none
        (wJob StartKind.scheduled (0 : BitVec 2))).n + (1 : ℕ) ∧
      wHeldFirst.cpmBad (0 : GroupIx) ((64 : ℕ) * (↑(3 : LaneIx) : ℕ) + (20 : ℕ)) = false ∧
      ({ edge := none, src := (1 : ℕ), range := (0 : BitVec 3), gain := (0 : BitVec 24), ofs := (0 : BitVec 24), cg := (0 : BitVec 24), co := (0 : BitVec 24) : Sampling }.src = (1 : ℕ) ∨ { edge := none, src := (1 : ℕ), range := (0 : BitVec 3), gain := (0 : BitVec 24), ofs := (0 : BitVec 24), cg := (0 : BitVec 24), co := (0 : BitVec 24) : Sampling }.src = (2 : ℕ)) ∧
      BitVec.getLsbD (wHeldFirst.cpmL (0 : GroupIx) (3 : LaneIx) (20 : ℕ)) (0 : ℕ) = true ∧
      ({ edge := none, src := (1 : ℕ), range := (0 : BitVec 3), gain := (0 : BitVec 24), ofs := (0 : BitVec 24), cg := (0 : BitVec 24), co := (0 : BitVec 24) : Sampling }.edge = none) := by
  and_intros <;> decide +kernel

theorem witness_ConversionsAtTheSlice_4 :
    ((wWaits wRun).chan (0 : GroupIx) (3 : LaneIx)).ms.waitP = [wJob StartKind.pulse (0 : BitVec 2)] ∧
      ((((wWaits wRun).grp (0 : GroupIx)).slice (3 : LaneIx)).job.isSome = true ∨ ((wWaits wRun).chan (0 : GroupIx)
        (3 : LaneIx)).ms.waitS ≠ []) := by
  and_intros <;> decide +kernel

theorem witness_ConversionsAtTheSlice_5 :
    ((wWaits wRun).chan (0 : GroupIx) (3 : LaneIx)).ms.waitU = [wJob StartKind.urgent (0 : BitVec 2)] ∧
      ((((wWaits wRun).grp (0 : GroupIx)).slice (3 : LaneIx)).job.isSome = true ∨ ((wWaits wRun).chan (0 : GroupIx)
        (3 : LaneIx)).ms.waitS ≠ []) := by
  and_intros <;> decide +kernel

theorem witness_ConversionsAtTheSlice_6 :
    ((wWaits wRun).chan (0 : GroupIx) (3 : LaneIx)).ms.waitS = [wJob StartKind.scheduled (0 : BitVec 2)] ∧
      ((((wWaits wRun).grp (0 : GroupIx)).slice (3 : LaneIx)).job = none ∧ (((wWaits wRun).grp (0 : GroupIx)).slice
        (3 : LaneIx)).next = none ∧ (((wWaits wRun).grp (0 : GroupIx)).slice (3 : LaneIx)).warming = false ∧ lane
        ((wWaits wRun).grp (0 : GroupIx)).hold (3 : LaneIx) = false) := by
  and_intros <;> decide +kernel

theorem witness_ConversionsAtTheSlice_7 :
    ((wWaits (wBusy (wJob StartKind.urgent (0 : BitVec 2)) wRun)).chan (0 : GroupIx) (3 : LaneIx)).ms.waitS =
      [wJob StartKind.scheduled (0 : BitVec 2)] ∧
      (((wWaits (wBusy (wJob StartKind.urgent (0 : BitVec 2)) wRun)).grp (0 : GroupIx)).slice (3 : LaneIx)).job =
        some (wJob StartKind.urgent (0 : BitVec 2)) ∧
      (wJob StartKind.urgent (0 : BitVec 2)).kind ≠ StartKind.scheduled := by
  and_intros <;> decide +kernel

theorem witness_ConversionsAtTheSlice_8 :
    (wConversionsAtTheSlice1.chan (0 : GroupIx) (3 : LaneIx)).ms.waitS = [wJob StartKind.scheduled (0 : BitVec 2)] ∧
      ((wConversionsAtTheSlice1.grp (0 : GroupIx)).slice (3 : LaneIx)).job = some (wJob StartKind.scheduled
        (0 : BitVec 2)) ∧
      (wJob StartKind.scheduled (0 : BitVec 2)).kind = StartKind.scheduled ∧
      ((wJob StartKind.scheduled (0 : BitVec 2)).mode = (2 : BitVec 2) ∨ ((wConversionsAtTheSlice1.grp
        (0 : GroupIx)).slice (3 : LaneIx)).next.isSome = true) := by
  and_intros <;> decide +kernel

theorem witness_ConversionsAtTheSlice_9 :
    (wArmed.chan (0 : GroupIx) (3 : LaneIx)).ms.pw = some wPwArm ∧
      (0 : ℕ) < ((wArmed.chan (0 : GroupIx) (3 : LaneIx)).fe.cmp false).mode.toNat ∧
      ((wArmed.chan (0 : GroupIx) (3 : LaneIx)).fe.cmp false).mode.toNat ≤ (4 : ℕ) ∧
      BitVec.getLsbD wPwArm.evt (12 : ℕ) = false ∧
      BitVec.getLsbD wPwArm.evt (13 : ℕ) = false ∧
      (BitVec.extractLsb' (0 : ℕ) (16 : ℕ) wPwArm.width).toNat ≤ (5 : ℕ) ∧
      ((BitVec.extractLsb' (16 : ℕ) (16 : ℕ) wPwArm.width).toNat = (0 : ℕ) ∨ (5 : ℕ) ≤ (BitVec.extractLsb' (16 : ℕ)
        (16 : ℕ) wPwArm.width).toNat) := by
  and_intros <;> decide +kernel

theorem witness_ConversionsAtTheSlice_10 :
    ((wHeldLane.grp (0 : GroupIx)).slice (3 : LaneIx)).job = some (wJob StartKind.scheduled (0 : BitVec 2)) ∧
      ((wHeldLane.grp (0 : GroupIx)).slice (3 : LaneIx)).warming = false ∧
      lane (wHeldLane.grp (0 : GroupIx)).hold (3 : LaneIx) = true ∧
      (wJob StartKind.scheduled (0 : BitVec 2)).mode = (0 : BitVec 2) ∧
      (wJob StartKind.scheduled (0 : BitVec 2)).k = (0 : ℕ) ∧
      ((wHeldLane.grp (0 : GroupIx)).slice (3 : LaneIx)).next = none ∧
      (wJob StartKind.scheduled (0 : BitVec 2)).take = none ∧
      (wHeldLane.chan (0 : GroupIx) (3 : LaneIx)).ms.lastRes = some ((77 : Word), true) := by
  and_intros <;> decide +kernel

theorem witness_ConversionsAtTheSlice_11 :
    ((wWaits (wBusy (wJob StartKind.scheduled (0 : BitVec 2)) wRun)).chan (0 : GroupIx) (3 : LaneIx)).ms.waitS =
      [wJob StartKind.scheduled (0 : BitVec 2)] ∧
      (((wWaits (wBusy (wJob StartKind.scheduled (0 : BitVec 2)) wRun)).grp (0 : GroupIx)).slice (3 : LaneIx)).job =
        some (wJob StartKind.scheduled (0 : BitVec 2)) ∧
      (wJob StartKind.scheduled (0 : BitVec 2)).kind = StartKind.scheduled ∧
      (wJob StartKind.scheduled (0 : BitVec 2)).mode ≠ (2 : BitVec 2) ∧
      (((wWaits (wBusy (wJob StartKind.scheduled (0 : BitVec 2)) wRun)).grp (0 : GroupIx)).slice (3 : LaneIx)).next =
        none := by
  and_intros <;> decide +kernel

theorem witness_ConversionsAtTheSlice_12 :
    ((wOnly [] [wJob StartKind.pulse (0 : BitVec 2)]).chan (0 : GroupIx) (3 : LaneIx)).ms.waitP =
      [wJob StartKind.pulse (0 : BitVec 2)] ∧
      ((((wOnly [] [wJob StartKind.pulse (0 : BitVec 2)]).grp (0 : GroupIx)).slice (3 : LaneIx)).job = none ∧
        (((wOnly [] [wJob StartKind.pulse (0 : BitVec 2)]).grp (0 : GroupIx)).slice (3 : LaneIx)).next = none ∧
        (((wOnly [] [wJob StartKind.pulse (0 : BitVec 2)]).grp (0 : GroupIx)).slice (3 : LaneIx)).warming = false ∧
        lane ((wOnly [] [wJob StartKind.pulse (0 : BitVec 2)]).grp (0 : GroupIx)).hold (3 : LaneIx) = false) ∧
      ((wOnly [] [wJob StartKind.pulse (0 : BitVec 2)]).chan (0 : GroupIx) (3 : LaneIx)).ms.waitS = [] := by
  and_intros <;> decide +kernel

theorem witness_ConversionsAtTheSlice_13 :
    ((wOnly [wJob StartKind.urgent (0 : BitVec 2)] []).chan (0 : GroupIx) (3 : LaneIx)).ms.waitU =
      [wJob StartKind.urgent (0 : BitVec 2)] ∧
      ((((wOnly [wJob StartKind.urgent (0 : BitVec 2)] []).grp (0 : GroupIx)).slice (3 : LaneIx)).job = none ∧
        (((wOnly [wJob StartKind.urgent (0 : BitVec 2)] []).grp (0 : GroupIx)).slice (3 : LaneIx)).next = none ∧
        (((wOnly [wJob StartKind.urgent (0 : BitVec 2)] []).grp (0 : GroupIx)).slice (3 : LaneIx)).warming = false ∧
        lane ((wOnly [wJob StartKind.urgent (0 : BitVec 2)] []).grp (0 : GroupIx)).hold (3 : LaneIx) = false) ∧
      ((wOnly [wJob StartKind.urgent (0 : BitVec 2)] []).chan (0 : GroupIx) (3 : LaneIx)).ms.waitS = [] := by
  and_intros <;> decide +kernel

theorem witness_ConversionsAtTheSlice_14 :
    (((wBusy (wTaken (3 : ℕ) none (wCont (1 : ℕ))) wRun).grp (0 : GroupIx)).slice (3 : LaneIx)).job = some (wTaken
      (3 : ℕ) none (wCont (1 : ℕ))) ∧
      (((wBusy (wTaken (3 : ℕ) none (wCont (1 : ℕ))) wRun).grp (0 : GroupIx)).slice (3 : LaneIx)).warming = false ∧
      (wTaken (3 : ℕ) none (wCont (1 : ℕ))).mode = (2 : BitVec 2) ∧
      (wTaken (3 : ℕ) none (wCont (1 : ℕ))).kind = StartKind.scheduled ∧
      ((wTaken (3 : ℕ) none (wCont (1 : ℕ))).take =
        some { edge := none, src := (3 : ℕ), range := (0 : BitVec 3), gain := (0 : BitVec 24), ofs := (0 : BitVec 24), cg := (0 : BitVec 24), co := (0 : BitVec 24) : Sampling }) ∧
      (2 : ℕ) ^ (wTaken (3 : ℕ) none (wCont (1 : ℕ))).k ≤ (wTaken (3 : ℕ) none (wCont (1 : ℕ))).n + (1 : ℕ) := by
  and_intros <;> decide +kernel

theorem witness_ConversionsAtTheSlice_15 :
    (((wBusy (wTaken (3 : ℕ) none wOther) wRun).grp (0 : GroupIx)).slice (3 : LaneIx)).job = some (wTaken
      (3 : ℕ) none wOther) ∧
      (((wBusy (wTaken (3 : ℕ) none wOther) wRun).grp (0 : GroupIx)).slice (3 : LaneIx)).warming = false ∧
      (wTaken (3 : ℕ) none wOther).mode ≠ (2 : BitVec 2) ∧
      (((wBusy (wTaken (3 : ℕ) none wOther) wRun).grp (0 : GroupIx)).slice (3 : LaneIx)).next = none ∧
      lane ((wBusy (wTaken (3 : ℕ) none wOther) wRun).grp (0 : GroupIx)).hold (3 : LaneIx) = false ∧
      ((wTaken (3 : ℕ) none wOther).take =
        some { edge := none, src := (3 : ℕ), range := (0 : BitVec 3), gain := (0 : BitVec 24), ofs := (0 : BitVec 24), cg := (0 : BitVec 24), co := (0 : BitVec 24) : Sampling }) ∧
      (wTaken (3 : ℕ) none wOther).n + (1 : ℕ) < (2 : ℕ) ^ (wTaken (3 : ℕ) none wOther).k := by
  and_intros <;> decide +kernel

theorem witness_ConversionsAtTheSlice_16 :
    (wBusy (wJob StartKind.scheduled (2 : BitVec 2)) wRun).modes.mode ≠ Mode.reset ∧
      (wBusy (wJob StartKind.scheduled (2 : BitVec 2)) wRun).modes.mode ≠ Mode.boot ∧
      (wBusy (wJob StartKind.scheduled (2 : BitVec 2)) wRun).clk.gated = false ∧
      (((wBusy (wJob StartKind.scheduled (2 : BitVec 2)) wRun).grp (0 : GroupIx)).slice (3 : LaneIx)).job = some
        (wJob StartKind.scheduled (2 : BitVec 2)) ∧
      (wJob StartKind.scheduled (2 : BitVec 2)).mode = (2 : BitVec 2) ∧
      (wJob StartKind.scheduled (2 : BitVec 2)).kind = StartKind.scheduled ∧
      (wJob StartKind.scheduled (2 : BitVec 2)).take = none ∧
      (((wBusy (wJob StartKind.scheduled (2 : BitVec 2)) wRun).grp (0 : GroupIx)).slice (3 : LaneIx)).powered = true ∧
      (((wBusy (wJob StartKind.scheduled (2 : BitVec 2)) wRun).grp (0 : GroupIx)).slice (3 : LaneIx)).warming =
        false ∧
      lane ((wBusy (wJob StartKind.scheduled (2 : BitVec 2)) wRun).grp (0 : GroupIx)).hold (3 : LaneIx) = false := by
  and_intros <;> decide +kernel

theorem witness_ConversionsAtTheSlice_17 :
    ((wConversionsAtTheSlice4.grp (0 : GroupIx)).slice (3 : LaneIx)).job = some (wTaken (0 : ℕ) (some (4 : ℕ))
      (wJob StartKind.scheduled (0 : BitVec 2))) ∧
      ((wConversionsAtTheSlice4.grp (0 : GroupIx)).slice (3 : LaneIx)).warming = false ∧
      ((wTaken (0 : ℕ) (some (4 : ℕ)) (wJob StartKind.scheduled (0 : BitVec 2))).take =
        some { edge := some (4 : ℕ), src := (0 : ℕ), range := (0 : BitVec 3), gain := (0 : BitVec 24), ofs := (0 : BitVec 24), cg := (0 : BitVec 24), co := (0 : BitVec 24) : Sampling }) ∧
      wConversionsAtTheSlice4.cpmBad (0 : GroupIx) ((64 : ℕ) * (↑(3 : LaneIx) : ℕ) + (20 : ℕ)) = false ∧
      ({ edge := some (4 : ℕ), src := (0 : ℕ), range := (0 : BitVec 3), gain := (0 : BitVec 24), ofs := (0 : BitVec 24), cg := (0 : BitVec 24), co := (0 : BitVec 24) : Sampling }.src = (0 : ℕ)) ∧
      ({ edge := some (4 : ℕ), src := (0 : ℕ), range := (0 : BitVec 3), gain := (0 : BitVec 24), ofs := (0 : BitVec 24), cg := (0 : BitVec 24), co := (0 : BitVec 24) : Sampling }.edge = some (4 : ℕ)) ∧
      (wConversionsAtTheSlice4.chan (0 : GroupIx) (4 : LaneIx)).ms.ePend = some ((4 : ℕ), (256 : ℤ),
        (3 : LaneIx)) := by
  and_intros <;> decide +kernel

theorem witness_ConversionsAtTheSlice_18 :
    (((wBusy (wTaken (1 : ℕ) none (wJob StartKind.scheduled (0 : BitVec 2))) wRun).grp (0 : GroupIx)).slice
      (3 : LaneIx)).job = some (wTaken (1 : ℕ) none (wJob StartKind.scheduled (0 : BitVec 2))) ∧
      (((wBusy (wTaken (1 : ℕ) none (wJob StartKind.scheduled (0 : BitVec 2))) wRun).grp (0 : GroupIx)).slice
        (3 : LaneIx)).warming = false ∧
      ((wTaken (1 : ℕ) none (wJob StartKind.scheduled (0 : BitVec 2))).take =
        some { edge := none, src := (1 : ℕ), range := (0 : BitVec 3), gain := (0 : BitVec 24), ofs := (0 : BitVec 24), cg := (0 : BitVec 24), co := (0 : BitVec 24) : Sampling }) ∧
      (wBusy (wTaken (1 : ℕ) none (wJob StartKind.scheduled (0 : BitVec 2))) wRun).cpmBad (0 : GroupIx) ((64 : ℕ) *
        (↑(3 : LaneIx) : ℕ) + (20 : ℕ)) = false ∧
      ({ edge := none, src := (1 : ℕ), range := (0 : BitVec 3), gain := (0 : BitVec 24), ofs := (0 : BitVec 24), cg := (0 : BitVec 24), co := (0 : BitVec 24) : Sampling }.src = (1 : ℕ) ∨ { edge := none, src := (1 : ℕ), range := (0 : BitVec 3), gain := (0 : BitVec 24), ofs := (0 : BitVec 24), cg := (0 : BitVec 24), co := (0 : BitVec 24) : Sampling }.src = (2 : ℕ)) ∧
      BitVec.getLsbD ((wBusy (wTaken (1 : ℕ) none (wJob StartKind.scheduled (0 : BitVec 2))) wRun).cpmL
        (0 : GroupIx) (3 : LaneIx) (20 : ℕ)) (0 : ℕ) = false := by
  and_intros <;> decide +kernel

theorem witness_ConversionsAtTheSlice_19 :
    ((wConversionsAtTheSlice3.grp (0 : GroupIx)).slice (3 : LaneIx)).job = some (wTaken (1 : ℕ) (some (4 : ℕ))
      (wJob StartKind.scheduled (0 : BitVec 2))) ∧
      ((wConversionsAtTheSlice3.grp (0 : GroupIx)).slice (3 : LaneIx)).warming = false ∧
      ((wTaken (1 : ℕ) (some (4 : ℕ)) (wJob StartKind.scheduled (0 : BitVec 2))).take =
        some { edge := some (4 : ℕ), src := (1 : ℕ), range := (0 : BitVec 3), gain := (0 : BitVec 24), ofs := (0 : BitVec 24), cg := (0 : BitVec 24), co := (0 : BitVec 24) : Sampling }) ∧
      wConversionsAtTheSlice3.cpmBad (0 : GroupIx) ((64 : ℕ) * (↑(3 : LaneIx) : ℕ) + (20 : ℕ)) = false ∧
      ({ edge := some (4 : ℕ), src := (1 : ℕ), range := (0 : BitVec 3), gain := (0 : BitVec 24), ofs := (0 : BitVec 24), cg := (0 : BitVec 24), co := (0 : BitVec 24) : Sampling }.src = (1 : ℕ) ∨ { edge := some (4 : ℕ), src := (1 : ℕ), range := (0 : BitVec 3), gain := (0 : BitVec 24), ofs := (0 : BitVec 24), cg := (0 : BitVec 24), co := (0 : BitVec 24) : Sampling }.src = (2 : ℕ)) ∧
      BitVec.getLsbD (wConversionsAtTheSlice3.cpmL (0 : GroupIx) (3 : LaneIx) (20 : ℕ)) (0 : ℕ) = true ∧
      ({ edge := some (4 : ℕ), src := (1 : ℕ), range := (0 : BitVec 3), gain := (0 : BitVec 24), ofs := (0 : BitVec 24), cg := (0 : BitVec 24), co := (0 : BitVec 24) : Sampling }.edge = some (4 : ℕ)) ∧
      (wConversionsAtTheSlice3.chan (0 : GroupIx) (laneOf (fld (wConversionsAtTheSlice3.cpmL (0 : GroupIx)
        (3 : LaneIx) (20 : ℕ)) (4 : ℕ) (4 : ℕ)))).ms.vAt = some ((4 : ℕ), (256 : ℤ)) := by
  and_intros <;> decide +kernel

theorem witness_TourbillonRotation :
    (((wTb TbState.recal).grp (0 : GroupIx)).tb.st = TbState.recal ∧
      ((wTb TbState.recal).grp (0 : GroupIx)).tb.newCoef = none ∧
      (¬(((↑(2 : ℕ) : ℤ) - (↑(0 : ℕ) : ℤ) - (524288 : ℤ) * (16384 : ℤ)).natAbs * (100 : ℕ) ≤ (524288 : ℕ) *
        (16384 : ℕ) ∧ ((↑(0 : ℕ) : ℤ) - (262144 : ℤ) * (16384 : ℤ)).natAbs ≤ (10486 : ℕ) * (16384 : ℕ))) ∧
      ((wTb TbState.recal).grp (0 : GroupIx)).tb.wdac = true ∧
      ((↑((786432 : ℕ) * (256 : ℕ)) : ℤ) - (↑(0 : ℕ) : ℤ) - (786432 : ℤ) * (256 : ℤ)).natAbs * (100 : ℕ) ≤
        (786432 : ℕ) * (256 : ℕ)) ∧
    ((wTourbillonRotation1.grp (0 : GroupIx)).tb.st = TbState.shadow ∧
      wTourbillonRotation1.tbPairs ≤ (wTourbillonRotation1.grp (0 : GroupIx)).tb.pairs.n) ∧
    (((wTb TbState.handover).grp (0 : GroupIx)).tb.st = TbState.handover ∧
      (wTb TbState.handover).esc.pos.toNat < (64 : ℕ) ∧
      Undisturbed (wTb TbState.handover) ((17 : ℕ) - (wTb TbState.handover).esc.pos.toNat) ∧
      (wTb TbState.handover).esc.pos.toNat + ((17 : ℕ) - (wTb TbState.handover).esc.pos.toNat) <
        (wTb TbState.handover).frameCycles) ∧
    (((wTb TbState.recal).grp (0 : GroupIx)).tb.st = TbState.recal ∧
      ((wTb TbState.recal).grp (0 : GroupIx)).tb.newCoef = none ∧
      (((↑(((262144 : ℕ) + (524288 : ℕ)) * (16384 : ℕ)) : ℤ) - (↑((262144 : ℕ) * (16384 : ℕ)) : ℤ) - (524288 : ℤ) *
        (16384 : ℤ)).natAbs * (100 : ℕ) ≤ (524288 : ℕ) * (16384 : ℕ) ∧ ((↑((262144 : ℕ) * (16384 : ℕ)) : ℤ) -
        (262144 : ℤ) * (16384 : ℤ)).natAbs ≤ (10486 : ℕ) * (16384 : ℕ))) ∧
    ((wPairs.grp (0 : GroupIx)).tb.st = TbState.shadow ∧
      (wPairs.grp (0 : GroupIx)).tb.pairs.n < wPairs.tbPairs ∧
      lane (wPairs.grp (0 : GroupIx)).hold (wPairs.grp (0 : GroupIx)).tb.lane = false ∧
      ((wPairs.grp (0 : GroupIx)).slice (wPairs.grp (0 : GroupIx)).tb.lane).job = none ∧
      ((wPairs.grp (0 : GroupIx)).slice (wPairs.grp (0 : GroupIx)).tb.lane).next = none ∧
      (wPairs.chan (0 : GroupIx) (wPairs.grp (0 : GroupIx)).tb.lane).ms.startWaits = false ∧
      (wPairs.calFits (0 : GroupIx) (if ((wPairs.grp (0 : GroupIx)).slice (wPairs.grp
        (0 : GroupIx)).tb.lane).powered = true then (1 : ℕ) else (2 : ℕ)) = true) ∧
      (wPairs.grp (0 : GroupIx)).tb.pairs.key.isSome = true ∧
      (wPairs.grp (0 : GroupIx)).tb.pairs.key = some (srcActing (0 : BitVec 3) (wPairs.grp (0 : GroupIx)).tb.lane,
        (wPairs.chan (0 : GroupIx) (wPairs.grp (0 : GroupIx)).tb.lane).fe.stage.range)) := by
  unfold Undisturbed; decide +kernel

theorem witness_ForcePathHolds :
    (lanesOf (wForcePathHolds1.grp 0).hold = [3] ∧
      (wForcePathHolds1.grp 0).holdEnd = some 2 ∧
      wForcePathHolds1.esc.pos.toNat < 64 ∧
      (wForcePathHolds1.modes.mode = Mode.run ∨ wForcePathHolds1.modes.mode = Mode.configure) ∧
      wForcePathHolds1.modes.entryAt ≠ some wForcePathHolds1.rootNow ∧
      wForcePathHolds1.rootRuns = true ∧
      (∀ (h : GroupIx), h ≠ 0 → (wForcePathHolds1.grp h).hold = 0) ∧
      QuadsQuiet wForcePathHolds1 0 ∧
      Runs wForcePathHolds1 0 ∧
      (wForcePathHolds1.grp 0).eng.postLoss = true) ∧
    ((wHoldReq.grp 0).holdReq = some 3 ∧
      wHoldReq.esc.pos.toNat < 64 ∧
      wHoldReq.modes.mode = Mode.run ∧
      (wHoldReq.grp 0).hold = 0 ∧
      wHoldReq.fpQuadFree 0 3 = true) ∧
    ((wNotFree.grp 0).holdReq = some 3 ∧
      wNotFree.esc.pos.toNat < 64 ∧
      wNotFree.modes.mode = Mode.run ∧
      (wNotFree.grp 0).hold = 0 ∧
      wNotFree.fpQuadFree 0 3 = false) ∧
    (lanesOf (wHoldOld.grp 0).hold = [3] ∧
      wHoldOld.esc.pos.toNat < 64 ∧
      (wHoldOld.grp 0).holdEnd = none ∧
      max (BitVec.extractLsb' 0 16 (wHoldOld.reg (adr pCAL 18))).toNat 1 ≤ (wHoldOld.grp 0).holdFrames) ∧
    ((wHoldPoint.grp 0).hold ≠ 0 ∧
      (wHoldPoint.grp 0).holdPts.length < 16 ∧
      fpPointSlots (wHoldPoint.grp 0).holdPts.length - (wHoldPoint.grp 0).holdSlots ≤ 4 ∧
      (fpPointSlots (wHoldPoint.grp 0).holdPts.length - (wHoldPoint.grp 0).holdSlots ≤
        (wHoldPoint.esc.pos.toNat - if (wHoldPoint.grp 0).holdFrames = 0 then 64 else 0) / 200 -
        (wHoldPoint.grp 0).holdUsed) ∧
      fpPointSlots (wHoldPoint.grp 0).holdPts.length - (wHoldPoint.grp 0).holdSlots ≤ wHoldPoint.calBudget 0) := by
  unfold Runs QuadsQuiet; decide +kernel

theorem witness_TdcOperations :
    (Runs (wSend TileOp.tdcClose 4 (wLater 0)) 0 ∧
      OnItsWay (wSend TileOp.tdcClose 4 (wLater 0)) 0 3 TileOp.tdcClose 4 ∧
      ((wSend TileOp.tdcClose 4 (wLater 0)).chan 0 3).td.openAt ≠ (wSend TileOp.tdcClose 4
        (wLater 0)).rootNow + 16 * 4 ∧
      ((wSend TileOp.tdcClose 4 (wLater 0)).chan 0 3).td.opened = true ∧
      ((wSend TileOp.tdcClose 4 (wLater 0)).chan 0 3).td.len = 0) ∧
    (OnItsWay (wSend TileOp.tdcRead 4 wRun) 0 3 TileOp.tdcRead 4) ∧
    (OnItsWay (wSend TileOp.tdcClear 4 wStamp) 0 3 TileOp.tdcClear 4) ∧
    ((∀ (k : Fin 1024), ((wSend (TileOp.tdcOpen 1) 4 wStamp).flow 4).cpmBad 0 ↑k = false) ∧
      OnItsWay (wSend (TileOp.tdcOpen 1) 4 wStamp) 0 3 (TileOp.tdcOpen 1) 4) ∧
    (OnItsWay wTdcOperations1 0 3 TileOp.tdcClose 4 ∧
      (wTdcOperations1.chan 0 3).td.openAt = wTdcOperations1.rootNow + 16 * 4) ∧
    ((wStamp.chan 0 3).td.len ≠ 0 ∧
      (wStamp.chan 0 3).td.opened = true ∧
      (wStamp.grp 0).sends = [] ∧
      Undisturbed wStamp (wStamp.cyclesTo ((wStamp.chan 0 3).td.openAt + 16 * (wStamp.chan 0 3).td.len.toNat)) ∧
      wStamp.esc.pos.toNat + wStamp.cyclesTo ((wStamp.chan 0 3).td.openAt + 16 *
        (wStamp.chan 0 3).td.len.toNat) < wStamp.frameCycles ∧
      wStamp.rootNow + 16 * wStamp.cyclesTo ((wStamp.chan 0 3).td.openAt + 16 *
        (wStamp.chan 0 3).td.len.toNat) < 2 ^ 64) := by
  unfold OnItsWay Runs Undisturbed; decide +kernel

theorem witness_RecordsAndEventsAreStaged :
    Runs wEng (0 : GroupIx) ∧
      (wEng.grp (0 : GroupIx)).eng.committed = false ∧
      (1 : BitVec 4) ≠ (0 : BitVec 4) ∧
      (stagedBytes (wEng.grp (0 : GroupIx)).staging + ((4 : ℕ) * if wEng.fmtKind (BitVec.toNat (1 : BitVec 4)) =
        (0 : ℕ) ∧ wEng.fmtSize64 (BitVec.toNat (1 : BitVec 4)) = false then (8 : ℕ) else (16 : ℕ)) * (lanesOf
        (8 : LaneMask)).length ≤ (1024 : ℕ)) ∧
      (3 : BitVec 4) ≠ (0 : BitVec 4) ∧
      stagedEvents (wEng.grp (0 : GroupIx)).staging < (16 : ℕ) := by
  unfold Runs; and_intros <;> decide +kernel

theorem witness_RecordsAndEventsAreStaged_2 :
    Runs wRings (0 : GroupIx) ∧
      (wRings.grp (0 : GroupIx)).eng.committed = true ∧
      (1 : BitVec 4) ≠ (0 : BitVec 4) ∧
      (TakesSlots wRings (((16 : ℕ) * (↑(0 : GroupIx) : ℕ) + (↑(3 : LaneIx) : ℕ)) * (256 : ℕ) + BitVec.toNat
        (85 : Byte)) ((if wRings.fmtKind (BitVec.toNat (1 : BitVec 4)) = (0 : ℕ) ∧ wRings.fmtSize64 (BitVec.toNat
        (1 : BitVec 4)) = false then (8 : ℕ) else (16 : ℕ)) / (8 : ℕ))) ∧
      (3 : BitVec 4) ≠ (0 : BitVec 4) ∧
      TakesEvent wRings (selGroup (0 : GroupIx)) := by
  unfold TakesEvent TakesSlots Runs; and_intros <;> decide +kernel

theorem witness_RecordsAndEventsAreStaged_3 :
    Runs (wStaged (List.replicate (16 : ℕ) (Staged.event (1 : BitVec 4) (2 : Word) (3 : BitVec 28) (4 : FrameNo))))
      (0 : GroupIx) ∧
      ((wStaged (List.replicate (16 : ℕ) (Staged.event (1 : BitVec 4) (2 : Word) (3 : BitVec 28)
        (4 : FrameNo)))).grp (0 : GroupIx)).eng.committed = false ∧
      (3 : BitVec 4) ≠ (0 : BitVec 4) ∧
      (16 : ℕ) ≤ stagedEvents ((wStaged (List.replicate (16 : ℕ) (Staged.event (1 : BitVec 4) (2 : Word)
        (3 : BitVec 28) (4 : FrameNo)))).grp (0 : GroupIx)).staging := by
  unfold Runs; and_intros <;> decide +kernel

theorem witness_RecordsAndEventsAreStaged_4 :
    Runs (wStaged (List.replicate (16 : ℕ) wRecord)) (0 : GroupIx) ∧
      ((wStaged (List.replicate (16 : ℕ) wRecord)).grp (0 : GroupIx)).eng.committed = false ∧
      (1 : BitVec 4) ≠ (0 : BitVec 4) ∧
      (8 : LaneMask) ≠ (0 : LaneMask) ∧
      (¬stagedBytes ((wStaged (List.replicate (16 : ℕ) wRecord)).grp (0 : GroupIx)).staging + ((4 : ℕ) * if
        (wStaged (List.replicate (16 : ℕ) wRecord)).fmtKind (BitVec.toNat (1 : BitVec 4)) = (0 : ℕ) ∧ (wStaged
        (List.replicate (16 : ℕ) wRecord)).fmtSize64 (BitVec.toNat (1 : BitVec 4)) = false then (8 : ℕ) else
        (16 : ℕ)) * (lanesOf (8 : LaneMask)).length ≤ (1024 : ℕ)) := by
  unfold Runs; and_intros <;> decide +kernel

theorem witness_PatternOperations :
    (Runs (wMap (1 : Word) StreamState.idle wEng) (0 : GroupIx) ∧
      ((∀ (k : Fin (4 : ℕ)), Reads (wMap (1 : Word) StreamState.idle wEng) ((6291456 : ℕ) + (16 : ℕ) *
        (↑(0 : GroupIx) : ℕ) + (4 : ℕ) * (↑k : ℕ)) (if k = (0 : Fin (4 : ℕ)) then (18 : Word) else (0 : Word))) ∧
        BitVec.getLsbD (if (0 : Fin (4 : ℕ)) = (0 : Fin (4 : ℕ)) then (18 : Word) else (0 : Word)) (4 : ℕ) = true ∧
        (BitVec.extractLsb' (0 : ℕ) (4 : ℕ) (if (0 : Fin (4 : ℕ)) = (0 : Fin (4 : ℕ)) then (18 : Word) else
        (0 : Word))).toNat = (↑(2 : StreamIx) : ℕ)) ∧
      (¬(wMap (1 : Word) StreamState.idle wEng).ownerOf (2 : StreamIx) = (0 : GroupIx)) ∧
      (wMap (1 : Word) StreamState.idle wEng).streams[(2 : StreamIx)].st = StreamState.idle ∧
      ((wMap (1 : Word) StreamState.idle wEng).grp (0 : GroupIx)).eng.committed = false ∧
      ((wMap (1 : Word) StreamState.idle wEng).grp (0 : GroupIx)).pat.att = Attach.idle) ∧
    (Runs (wAttached (0 : GroupIx) StreamState.halted (wCommitted.setReg (adr (pSTRM (2 : StreamIx)) (8 : ℕ))
      (0 : Word))) (0 : GroupIx) ∧
      ((wAttached (0 : GroupIx) StreamState.halted (wCommitted.setReg (adr (pSTRM (2 : StreamIx)) (8 : ℕ))
        (0 : Word))).grp (0 : GroupIx)).pat.att = Attach.attached ∧
      (wAttached (0 : GroupIx) StreamState.halted (wCommitted.setReg (adr (pSTRM (2 : StreamIx)) (8 : ℕ))
        (0 : Word))).streams[((wAttached (0 : GroupIx) StreamState.halted (wCommitted.setReg (adr (pSTRM
        (2 : StreamIx)) (8 : ℕ)) (0 : Word))).grp (0 : GroupIx)).pat.stream].owner = (0 : GroupIx) ∧
      ((wAttached (0 : GroupIx) StreamState.halted (wCommitted.setReg (adr (pSTRM (2 : StreamIx)) (8 : ℕ))
        (0 : Word))).grp (0 : GroupIx)).eng.committed = true ∧
      (wAttached (0 : GroupIx) StreamState.halted (wCommitted.setReg (adr (pSTRM (2 : StreamIx)) (8 : ℕ))
        (0 : Word))).ownedStream (0 : GroupIx) = some (2 : StreamIx) ∧
      (wAttached (0 : GroupIx) StreamState.halted (wCommitted.setReg (adr (pSTRM (2 : StreamIx)) (8 : ℕ))
        (0 : Word))).streams[(2 : StreamIx)].st ≠ StreamState.running) ∧
    (Runs (wAttached (1 : GroupIx) StreamState.running wEng) (0 : GroupIx) ∧
      ((wAttached (1 : GroupIx) StreamState.running wEng).grp (0 : GroupIx)).pat.att = Attach.attached ∧
      (wAttached (1 : GroupIx) StreamState.running wEng).streams[((wAttached
        (1 : GroupIx) StreamState.running wEng).grp (0 : GroupIx)).pat.stream].owner ≠ (0 : GroupIx)) ∧
    (Runs (wAttached (0 : GroupIx) StreamState.running (wCommitted.setReg (adr (pSTRM (2 : StreamIx)) (8 : ℕ))
      (0 : Word))) (0 : GroupIx) ∧
      ((wAttached (0 : GroupIx) StreamState.running (wCommitted.setReg (adr (pSTRM (2 : StreamIx)) (8 : ℕ))
        (0 : Word))).grp (0 : GroupIx)).eng.committed = true ∧
      (wAttached (0 : GroupIx) StreamState.running (wCommitted.setReg (adr (pSTRM (2 : StreamIx)) (8 : ℕ))
        (0 : Word))).ownedStream (0 : GroupIx) = some (2 : StreamIx) ∧
      (wAttached (0 : GroupIx) StreamState.running (wCommitted.setReg (adr (pSTRM (2 : StreamIx)) (8 : ℕ))
        (0 : Word))).streams[(2 : StreamIx)].st = StreamState.running) ∧
    (Runs (wMap (0 : Word) StreamState.running wEng) (0 : GroupIx) ∧
      ((∀ (k : Fin (4 : ℕ)), Reads (wMap (0 : Word) StreamState.running wEng) ((6291456 : ℕ) + (16 : ℕ) *
        (↑(0 : GroupIx) : ℕ) + (4 : ℕ) * (↑k : ℕ)) (if k = (0 : Fin (4 : ℕ)) then (18 : Word) else (0 : Word))) ∧
        BitVec.getLsbD (if (0 : Fin (4 : ℕ)) = (0 : Fin (4 : ℕ)) then (18 : Word) else (0 : Word)) (4 : ℕ) = true ∧
        (BitVec.extractLsb' (0 : ℕ) (4 : ℕ) (if (0 : Fin (4 : ℕ)) = (0 : Fin (4 : ℕ)) then (18 : Word) else
        (0 : Word))).toNat = (↑(2 : StreamIx) : ℕ)) ∧
      (wMap (0 : Word) StreamState.running wEng).ownerOf (2 : StreamIx) = (0 : GroupIx) ∧
      (wMap (0 : Word) StreamState.running wEng).streams[(2 : StreamIx)].st ≠ StreamState.idle) ∧
    (Runs (wMap (0 : Word) StreamState.idle wEng) (0 : GroupIx) ∧
      ((∀ (k : Fin (4 : ℕ)), Reads (wMap (0 : Word) StreamState.idle wEng) ((6291456 : ℕ) + (16 : ℕ) *
        (↑(0 : GroupIx) : ℕ) + (4 : ℕ) * (↑k : ℕ)) (if k = (0 : Fin (4 : ℕ)) then (18 : Word) else (0 : Word))) ∧
        BitVec.getLsbD (if (0 : Fin (4 : ℕ)) = (0 : Fin (4 : ℕ)) then (18 : Word) else (0 : Word)) (4 : ℕ) = true ∧
        (BitVec.extractLsb' (0 : ℕ) (4 : ℕ) (if (0 : Fin (4 : ℕ)) = (0 : Fin (4 : ℕ)) then (18 : Word) else
        (0 : Word))).toNat = (↑(2 : StreamIx) : ℕ)) ∧
      (wMap (0 : Word) StreamState.idle wEng).ownerOf (2 : StreamIx) = (0 : GroupIx) ∧
      (wMap (0 : Word) StreamState.idle wEng).streams[(2 : StreamIx)].st = StreamState.idle ∧
      (wMap (0 : Word) StreamState.idle wEng).modes.mode ≠ Mode.mirror) := by
  unfold Runs Reads; decide +kernel

theorem witness_StreamBoundariesAndData :
    ((¬(inMode Mode.configure).streams[(2 : StreamIx)].st = StreamState.running) ∧
      ((inMode Mode.configure).rootRuns = true ∧ (0 : BitVec 16) = (inMode Mode.configure).kl.strmSeq ∧
        (inMode Mode.configure).ingressRoom ([] : List Byte).length = true) ∧
      (0 : Word) = (inMode Mode.configure).streams[(2 : StreamIx)].rcvd ∧
      ([] : List Byte).length ≤ BitVec.toNat ((inMode Mode.configure).streams[(2 : StreamIx)].credit -
        (inMode Mode.configure).streams[(2 : StreamIx)].rcvd) ∧
      ((inMode Mode.configure).rootRuns = true ∧ (0 : BitVec 16) = (inMode Mode.configure).kl.strmSeq ∧
        (inMode Mode.configure).ingressRoom (0 : ℕ) = true) ∧
      (inMode Mode.configure).streams[(2 : StreamIx)].st = StreamState.idle ∧
      (inMode Mode.configure).modes.mode = Mode.configure ∧
      BitVec.getLsbD (128 : Word) (7 : ℕ) = true) ∧
    (wStreamBoundariesAndData5.rootRuns = false) ∧
    (wStreamBoundariesAndData1.streams[(2 : StreamIx)].st = StreamState.running ∧
      wStreamBoundariesAndData1.streams[(2 : StreamIx)].stop = true ∧
      wStreamBoundariesAndData1.streams[(2 : StreamIx)].st ≠ StreamState.idle) ∧
    (wRun.rootRuns = true ∧
      (1 : BitVec 16) ≠ wRun.kl.strmSeq) ∧
    ((wIngress.streams[(2 : StreamIx)].ingress =
      [{ at_ := (0 : Word), data := [(1 : Byte), (2 : Byte), (3 : Byte), (4 : Byte)] : Ingress }]) ∧
      ({ at_ := (0 : Word), data := [(1 : Byte), (2 : Byte), (3 : Byte), (4 : Byte)] : Ingress }.data = [(1 : Byte),
        (2 : Byte), (3 : Byte), (4 : Byte)]) ∧
      (1 : ℕ) ≤ wIngress.rmtLeft ∧
      BitVec.getLsbD (wIngress.reg (adr pFLT (34 : ℕ))) (0 : ℕ) = false) ∧
    (wStreamBoundariesAndData3.streams[(2 : StreamIx)].st = StreamState.running ∧
      (wStreamBoundariesAndData3.streams[(2 : StreamIx)].pass ≠ (0 : ℕ) ∨
        wStreamBoundariesAndData3.streams[(2 : StreamIx)].vec < wStreamBoundariesAndData3.passLen (2 : StreamIx)) ∧
      (wStreamBoundariesAndData3.streams[(2 : StreamIx)].ready = false ∨
        wStreamBoundariesAndData3.streams[(2 : StreamIx)].poison = true)) ∧
    (wStreamBoundariesAndData2.streams[(2 : StreamIx)].st = StreamState.running ∧
      wStreamBoundariesAndData2.streams[(2 : StreamIx)].stop = false ∧
      wStreamBoundariesAndData2.streams[(2 : StreamIx)].jump = none ∧
      wStreamBoundariesAndData2.streams[(2 : StreamIx)].pass = (0 : ℕ) ∧
      wStreamBoundariesAndData2.passLen (2 : StreamIx) ≤ wStreamBoundariesAndData2.streams[(2 : StreamIx)].vec ∧
      BitVec.getLsbD (wStreamBoundariesAndData2.streams[(2 : StreamIx)].desc.getD (4 : ℕ) (0 : Word)) (16 : ℕ) =
        true ∧
      BitVec.getLsbD (wStreamBoundariesAndData2.streams[(2 : StreamIx)].desc.getD (5 : ℕ) (0 : Word)) (7 : ℕ) =
        false) ∧
    ((wVectors id).streams[(2 : StreamIx)].st = StreamState.running ∧
      (wVectors id).streams[(2 : StreamIx)].stop = false ∧
      (wVectors id).streams[(2 : StreamIx)].poison = false ∧
      (wVectors id).streams[(2 : StreamIx)].ready = true ∧
      (wVectors id).streams[(2 : StreamIx)].src = (0 : ℕ) ∧
      (wVectors id).streams[(2 : StreamIx)].vec + (1 : ℕ) < (wVectors id).passLen (2 : StreamIx) ∧
      (∀ g ∈ (wVectors id).attachedGroups (2 : StreamIx), ((wVectors id).grp g).pat.detach = false) ∧
      Reads (wVectors id) ((wVectors id).streams[(2 : StreamIx)].vecAdr (2 : StreamIx)) (0 : Word) ∧
      Reads (wVectors id) ((wVectors id).streams[(2 : StreamIx)].vecAdr (2 : StreamIx) + (4 : ℕ)) (0 : Word)) := by
  unfold Reads; decide +kernel

theorem witness_McOperations :
    (McFetches (wMc (6#32 <<< 26 ||| 4330036)) (6#32 <<< 26 ||| 4330036) ∧
      (BitVec.extractLsb' 26 6 (6#32 <<< 26 ||| 4330036)).toNat ≤ 7) ∧
    (McFetches (wMc (13#32 <<< 26 ||| 4330036)) (13#32 <<< 26 ||| 4330036) ∧
      (BitVec.extractLsb' 26 6 (13#32 <<< 26 ||| 4330036)).toNat = 13) ∧
    (McFetches (wMc (16#32 <<< 26 ||| 4330036)) (16#32 <<< 26 ||| 4330036) ∧
      (BitVec.extractLsb' 26 6 (16#32 <<< 26 ||| 4330036)).toNat = 16) ∧
    (McFetches (wMc (14#32 <<< 26 ||| 4330036)) (14#32 <<< 26 ||| 4330036) ∧
      (BitVec.extractLsb' 26 6 (14#32 <<< 26 ||| 4330036)).toNat = 14) ∧
    (McFetches (wMc (12#32 <<< 26 ||| 4330036)) (12#32 <<< 26 ||| 4330036) ∧
      (BitVec.extractLsb' 26 6 (12#32 <<< 26 ||| 4330036)).toNat = 12) ∧
    (McFetches (wMc (18#32 <<< 26 ||| 4330036)) (18#32 <<< 26 ||| 4330036) ∧
      (BitVec.extractLsb' 26 6 (18#32 <<< 26 ||| 4330036)).toNat = 18 ∧
      (wMc (18#32 <<< 26 ||| 4330036)).rootRuns = true) ∧
    (McFetches (wMc (9#32 <<< 26 ||| 4330036)) (9#32 <<< 26 ||| 4330036) ∧
      ((BitVec.extractLsb' 26 6 (9#32 <<< 26 ||| 4330036)).toNat = 9 ∨ (BitVec.extractLsb' 26 6
        (9#32 <<< 26 ||| 4330036)).toNat = 11)) ∧
    (McFetches (wMc (19#32 <<< 26 ||| 4330036)) (19#32 <<< 26 ||| 4330036) ∧
      ((BitVec.extractLsb' 26 6 (19#32 <<< 26 ||| 4330036)).toNat = 17 ∨ (BitVec.extractLsb' 26 6
        (19#32 <<< 26 ||| 4330036)).toNat = 19)) ∧
    (McFetches (wMc (10#32 <<< 26 ||| 4325907)) (10#32 <<< 26 ||| 4325907) ∧
      (BitVec.extractLsb' 26 6 (10#32 <<< 26 ||| 4325907)).toNat = 10 ∧
      decodeAdr (BitVec.extractLsb' 0 16 (10#32 <<< 26 ||| 4325907)).toNat = some (pMSP, 19)) ∧
    (McFetches wMcOperations1 (8#32 <<< 26 ||| 4341809) ∧
      ((BitVec.extractLsb' 26 6 (8#32 <<< 26 ||| 4341809)).toNat = 8 ∨ (BitVec.extractLsb' 26 6
        (8#32 <<< 26 ||| 4341809)).toNat = 10 ∧ decodeAdr (BitVec.extractLsb' 0 16
        (8#32 <<< 26 ||| 4341809)).toNat ≠ some (pMSP, 19)) ∧
      wMcOperations1.readWaits (BitVec.extractLsb' 0 16 (8#32 <<< 26 ||| 4341809)).toNat = true) ∧
    (McFetches (wMc (8#32 <<< 26 ||| 4330036)) (8#32 <<< 26 ||| 4330036) ∧
      ((BitVec.extractLsb' 26 6 (8#32 <<< 26 ||| 4330036)).toNat = 8 ∨ (BitVec.extractLsb' 26 6
        (8#32 <<< 26 ||| 4330036)).toNat = 10 ∧ decodeAdr (BitVec.extractLsb' 0 16
        (8#32 <<< 26 ||| 4330036)).toNat ≠ some (pMSP, 19)) ∧
      (wMc (8#32 <<< 26 ||| 4330036)).readWaits (BitVec.extractLsb' 0 16 (8#32 <<< 26 ||| 4330036)).toNat =
        false) := by
  unfold McFetches; decide +kernel

theorem witness_McMessagesAndModes :
    McFetches wMcMessagesAndModes1 (BitVec.ofNat (32 : ℕ) (20 : ℕ) <<< (26 : ℕ)) ∧
      (BitVec.extractLsb' (26 : ℕ) (6 : ℕ) (BitVec.ofNat (32 : ℕ) (20 : ℕ) <<< (26 : ℕ))).toNat = (20 : ℕ) ∧
      wMcMessagesAndModes1.kl.addr = (254 : Byte) := by
  unfold McFetches; and_intros <;> decide +kernel

theorem witness_McMessagesAndModes_2 :
    McFetches (wMc (BitVec.ofNat (32 : ℕ) (27 : ℕ) <<< (26 : ℕ))) (BitVec.ofNat (32 : ℕ) (27 : ℕ) <<< (26 : ℕ)) ∧
      (BitVec.extractLsb' (26 : ℕ) (6 : ℕ) (BitVec.ofNat (32 : ℕ) (27 : ℕ) <<< (26 : ℕ))).toNat = (27 : ℕ) := by
  unfold McFetches; and_intros <;> decide +kernel

theorem witness_McMessagesAndModes_3 :
    McFetches (wMc (BitVec.ofNat (32 : ℕ) (32 : ℕ) <<< (26 : ℕ))) (BitVec.ofNat (32 : ℕ) (32 : ℕ) <<< (26 : ℕ)) ∧
      (32 : ℕ) ≤ (BitVec.extractLsb' (26 : ℕ) (6 : ℕ) (BitVec.ofNat (32 : ℕ) (32 : ℕ) <<< (26 : ℕ))).toNat := by
  unfold McFetches; and_intros <;> decide +kernel

theorem witness_McMessagesAndModes_4 :
    McFetches (wMc (BitVec.ofNat (32 : ℕ) (29 : ℕ) <<< (26 : ℕ))) (BitVec.ofNat (32 : ℕ) (29 : ℕ) <<< (26 : ℕ)) ∧
      (BitVec.extractLsb' (26 : ℕ) (6 : ℕ) (BitVec.ofNat (32 : ℕ) (29 : ℕ) <<< (26 : ℕ))).toNat = (29 : ℕ) := by
  unfold McFetches; and_intros <;> decide +kernel

theorem witness_McMessagesAndModes_5 :
    McFetches (wMc (BitVec.ofNat (32 : ℕ) (26 : ℕ) <<< (26 : ℕ))) (BitVec.ofNat (32 : ℕ) (26 : ℕ) <<< (26 : ℕ)) ∧
      (BitVec.extractLsb' (26 : ℕ) (6 : ℕ) (BitVec.ofNat (32 : ℕ) (26 : ℕ) <<< (26 : ℕ))).toNat = (26 : ℕ) := by
  unfold McFetches; and_intros <;> decide +kernel

theorem witness_McMessagesAndModes_6 :
    McFetches (wMc (BitVec.ofNat (32 : ℕ) (21 : ℕ) <<< (26 : ℕ))) (BitVec.ofNat (32 : ℕ) (21 : ℕ) <<< (26 : ℕ)) ∧
      (BitVec.extractLsb' (26 : ℕ) (6 : ℕ) (BitVec.ofNat (32 : ℕ) (21 : ℕ) <<< (26 : ℕ))).toNat = (21 : ℕ) := by
  unfold McFetches; and_intros <;> decide +kernel

theorem witness_McMessagesAndModes_7 :
    McFetches (wMc (BitVec.ofNat (32 : ℕ) (30 : ℕ) <<< (26 : ℕ))) (BitVec.ofNat (32 : ℕ) (30 : ℕ) <<< (26 : ℕ)) ∧
      (BitVec.extractLsb' (26 : ℕ) (6 : ℕ) (BitVec.ofNat (32 : ℕ) (30 : ℕ) <<< (26 : ℕ))).toNat = (30 : ℕ) := by
  unfold McFetches; and_intros <;> decide +kernel

theorem witness_McMessagesAndModes_8 :
    McFetches (wMc (BitVec.ofNat (32 : ℕ) (28 : ℕ) <<< (26 : ℕ))) (BitVec.ofNat (32 : ℕ) (28 : ℕ) <<< (26 : ℕ)) ∧
      (BitVec.extractLsb' (26 : ℕ) (6 : ℕ) (BitVec.ofNat (32 : ℕ) (28 : ℕ) <<< (26 : ℕ))).toNat = (28 : ℕ) ∧
      (wMc (BitVec.ofNat (32 : ℕ) (28 : ℕ) <<< (26 : ℕ))).rootRuns = true := by
  unfold McFetches; and_intros <;> decide +kernel

theorem witness_McMessagesAndModes_9 :
    McFetches (wMc (BitVec.ofNat (32 : ℕ) (20 : ℕ) <<< (26 : ℕ))) (BitVec.ofNat (32 : ℕ) (20 : ℕ) <<< (26 : ℕ)) ∧
      (BitVec.extractLsb' (26 : ℕ) (6 : ℕ) (BitVec.ofNat (32 : ℕ) (20 : ℕ) <<< (26 : ℕ))).toNat = (20 : ℕ) ∧
      (wMc (BitVec.ofNat (32 : ℕ) (20 : ℕ) <<< (26 : ℕ))).kl.addr ≠ (254 : Byte) := by
  unfold McFetches; and_intros <;> decide +kernel

theorem witness_McMessagesAndModes_10 :
    McFetches (wUnitQueues (wMc (BitVec.ofNat (32 : ℕ) (22 : ℕ) <<< (26 : ℕ)))) (BitVec.ofNat (32 : ℕ) (22 : ℕ) <<<
      (26 : ℕ)) ∧
      (BitVec.extractLsb' (26 : ℕ) (6 : ℕ) (BitVec.ofNat (32 : ℕ) (22 : ℕ) <<< (26 : ℕ))).toNat = (22 : ℕ) ∧
      (wUnitQueues (wMc (BitVec.ofNat (32 : ℕ) (22 : ℕ) <<< (26 : ℕ)))).mc.cmd = none := by
  unfold McFetches; and_intros <;> decide +kernel

theorem witness_McMessagesAndModes_11 :
    McFetches (wMc (BitVec.ofNat (32 : ℕ) (24 : ℕ) <<< (26 : ℕ))) (BitVec.ofNat (32 : ℕ) (24 : ℕ) <<< (26 : ℕ)) ∧
      ((BitVec.extractLsb' (26 : ℕ) (6 : ℕ) (BitVec.ofNat (32 : ℕ) (24 : ℕ) <<< (26 : ℕ))).toNat = (24 : ℕ) ∨
        (BitVec.extractLsb' (26 : ℕ) (6 : ℕ) (BitVec.ofNat (32 : ℕ) (24 : ℕ) <<< (26 : ℕ))).toNat = (25 : ℕ)) := by
  unfold McFetches; and_intros <;> decide +kernel

theorem witness_McMessagesAndModes_12 :
    McFetches (wMc (BitVec.ofNat (32 : ℕ) (23 : ℕ) <<< (26 : ℕ))) (BitVec.ofNat (32 : ℕ) (23 : ℕ) <<< (26 : ℕ)) ∧
      (BitVec.extractLsb' (26 : ℕ) (6 : ℕ) (BitVec.ofNat (32 : ℕ) (23 : ℕ) <<< (26 : ℕ))).toNat = (23 : ℕ) ∧
      (tget [] (wMc (BitVec.ofNat (32 : ℕ) (23 : ℕ) <<< (26 : ℕ))).flt.queues (fld (((wMc (BitVec.ofNat (32 : ℕ)
        (23 : ℕ) <<< (26 : ℕ))).mcFree (BitVec.ofNat (32 : ℕ) (23 : ℕ) <<< (26 : ℕ))).1 (0 : ℕ)) (22 : ℕ)
        (10 : ℕ))).length < (8 : ℕ) := by
  unfold McFetches; and_intros <;> decide +kernel

theorem witness_McMessagesAndModes_13 :
    McFetches (wMc (BitVec.ofNat (32 : ℕ) (31 : ℕ) <<< (26 : ℕ))) (BitVec.ofNat (32 : ℕ) (31 : ℕ) <<< (26 : ℕ)) ∧
      (BitVec.extractLsb' (26 : ℕ) (6 : ℕ) (BitVec.ofNat (32 : ℕ) (31 : ℕ) <<< (26 : ℕ))).toNat = (31 : ℕ) ∧
      ((wMc (BitVec.ofNat (32 : ℕ) (31 : ℕ) <<< (26 : ℕ))).modes.mode = Mode.configure ∨ (wMc (BitVec.ofNat
        (32 : ℕ) (31 : ℕ) <<< (26 : ℕ))).modes.mode = Mode.run ∨ (wMc (BitVec.ofNat (32 : ℕ) (31 : ℕ) <<<
        (26 : ℕ))).modes.mode = Mode.mirror) ∧
      (wMc (BitVec.ofNat (32 : ℕ) (31 : ℕ) <<< (26 : ℕ))).modes.entryAt ≠ some (wMc (BitVec.ofNat (32 : ℕ)
        (31 : ℕ) <<< (26 : ℕ))).rootNow := by
  unfold McFetches; and_intros <;> decide +kernel

theorem witness_CalibrationRoutines :
    (VendorGoes wMatch (0 : GroupIx) (3 : ℕ) (3 : ClassIx) wVSlot ∧
      (wMatch.grp (0 : GroupIx)).tb.st = TbState.match) ∧
    (VendorGoes wFpDone (0 : GroupIx) (1 : ℕ) (3 : ClassIx) wVSlot ∧
      (wFpDone.grp (0 : GroupIx)).holdRes = some ((3 : LaneIx), [(1 : BitVec 20), (2 : BitVec 20)])) ∧
    (VendorGoes wFpOn (0 : GroupIx) (2 : ℕ) (3 : ClassIx) wVSlot ∧
      BitVec.getLsbD (wFpOn.reg (adr pCAL (16 : ℕ))) (0 : ℕ) = true ∧
      wFpOn.modes.mode = Mode.run ∧
      (wFpOn.grp (0 : GroupIx)).holdReq = none ∧
      ((wFpOn.grp (0 : GroupIx)).hold = (0 : LaneMask) ∨ (wFpOn.grp (0 : GroupIx)).holdEnd.isSome = true) ∧
      ({ pending := wFpOn.pending, esc := wFpOn.esc, fus := wFpOn.fus, groups := wFpOn.groups, stores := wFpOn.stores, streams := wFpOn.streams, lines := wFpOn.lines, rings := wFpOn.rings, flt := wFpOn.flt, thm := wFpOn.thm, clk := wFpOn.clk, sync := wFpOn.sync, modes := wFpOn.modes, boot := wFpOn.boot, nvm := wFpOn.nvm, mc := wFpOn.mc, msp := wFpOn.msp, kl := wFpOn.kl, pair := wFpOn.pair, tel := wFpOn.tel, tap := wFpOn.tap, rf := wFpOn.rf, sram := wFpOn.sram, draws := wFpOn.draws + (1 : ℕ) : State }.fpPick (0 : GroupIx) wFpOn.draws = some (0 : LaneIx))) := by
  unfold VendorGoes; decide +kernel

theorem witness_HousekeepingAndTelemetry :
    VendorGoes wTel 0 6 5 wVSlot ∧
      (3, ↑0) ∈ wTel.tel.pend ∧
      (wTel.grp 0).telBuf = [] ∧
      (BitVec.getLsbD wTel.tel.ctrl 0 = true ∧ wTel.rootRuns = true ∧ wTel.modes.mode ≠ Mode.reset ∧
        BitVec.toNat wTel.esc.frame % max wTel.tel.period.toNat 1 = 0 ∧
        wTel.tel.last ≠ some wTel.esc.tickRoot.toNat) ∧
      wTel.tel.pend ≠ [] := by
  unfold VendorGoes; and_intros <;> decide +kernel

theorem witness_HousekeepingAndTelemetry_2 :
    VendorGoes wThr 0 4 3 wVSlot ∧
      wThr.thrPick 0 = some 7 := by
  unfold VendorGoes; and_intros <;> decide +kernel

theorem witness_HousekeepingAndTelemetry_3 :
    VendorGoes wWear 0 5 4 wVSlot ∧
      wWear.wearPick 0 = some 3 := by
  unfold VendorGoes; and_intros <;> decide +kernel

theorem witness_HousekeepingAndTelemetry_4 :
    wTelOut.telNext = some (2, 0) ∧
      wTelOut.fits none 3 5 66 = true := by
  and_intros <;> decide +kernel

theorem witness_HousekeepingAndTelemetry_5 :
    (wFlush.modes.mode = Mode.configure ∨ wFlush.modes.mode = Mode.safe) ∧
      wFlush.modes.flush = true ∧
      wFlush.clk.gated = false := by
  and_intros <;> decide +kernel

theorem witness_HousekeepingAndTelemetry_6 :
    (BitVec.getLsbD wTelDue.tel.ctrl 0 = true ∧ wTelDue.rootRuns = true ∧ wTelDue.modes.mode ≠ Mode.reset ∧
      BitVec.toNat wTelDue.esc.frame % max wTelDue.tel.period.toNat 1 = 0 ∧
      wTelDue.tel.last ≠ some wTelDue.esc.tickRoot.toNat) ∧
      wTelDue.tel.pend = [] := by
  and_intros <;> decide +kernel

theorem witness_QuadConditions :
    ((wQuadConditions2.quad 0 1).st = QuadState.running ∧
      wQuadConditions2.quadsFollow = false ∧
      250 * fld ((wQuadConditions2.quad 0 1).w 4) 0 16 ≤ (wQuadConditions2.quad 0 1).time + 1 ∧
      2 ^ fld ((wQuadConditions2.quad 0 1).w 4) 24 4 ≤ (wQuadConditions2.quad 0 1).period) ∧
    ((wQuadConditions1.quad 0 1).st = QuadState.running ∧
      wQuadConditions1.modes.mode ≠ Mode.mirror ∧
      (wQuadConditions1.quad 0 1).qualified 2 = true ∧
      (∀ k < 2, (wQuadConditions1.quad 0 1).qualified k = false)) ∧
    (((wQuad (wPulse false 250) wRun).quad 0 1).st = QuadState.running ∧
      (wQuad (wPulse false 250) wRun).modes.mode ≠ Mode.mirror ∧
      ((wQuad (wPulse false 250) wRun).quad 0 1).mode = 5 ∧
      ((wQuad (wPulse false 250) wRun).quad 0 1).pulse = false ∧
      250 * max (fld (((wQuad (wPulse false 250) wRun).quad 0 1).w 5) 0 16) 1 ≤ ((wQuad
        (wPulse false 250) wRun).quad 0 1).time) ∧
    (((wQuad (wPulse true 500) wRun).quad 0 1).st = QuadState.running ∧
      (wQuad (wPulse true 500) wRun).modes.mode ≠ Mode.mirror ∧
      ((wQuad (wPulse true 500) wRun).quad 0 1).mode = 5 ∧
      ((wQuad (wPulse true 500) wRun).quad 0 1).pulse = true ∧
      250 * max (fld (((wQuad (wPulse true 500) wRun).quad 0 1).w 5) 0 16) 1 + 250 * max (fld (((wQuad
        (wPulse true 500) wRun).quad 0 1).w 5) 16 16) 1 ≤ ((wQuad (wPulse true 500) wRun).quad 0 1).time) := by
  decide +kernel

theorem witness_QuadStartsBoundariesAndFaults :
    (¬((wClamped.quad (0 : GroupIx) (1 : QuadIx)).due = true ∧ (wClamped.grp (0 : GroupIx)).edges ≠ (0 : ℕ) ∧
      (wClamped.grp (0 : GroupIx)).edges % (4 : ℕ) = (0 : ℕ) ∧ (wClamped.grp (0 : GroupIx)).edges = (wClamped.grp
      (0 : GroupIx)).piAt ∧ (16 : ℕ) + (wClamped.rootNow - (wClamped.grp (0 : GroupIx)).edgeAt) / (16 : ℕ) ≤
      wClamped.esc.pos.toNat) ∨ wClamped.quadsFollow = true) ∧
      (∀ (k : QuadIx), wClamped.ganged (0 : GroupIx) (quadLane k (0 : Fin (4 : ℕ))) = false) ∧
      ((wClamped.grp (0 : GroupIx)).edges % (4 : ℕ) = (0 : ℕ) ∧ (wClamped.grp (0 : GroupIx)).edges ≠ (wClamped.grp
        (0 : GroupIx)).piAt ∧ wClamped.modes.mode ≠ Mode.reset ∧ wClamped.modes.mode ≠ Mode.boot ∧
        wClamped.clk.gated = false) ∧
      wClamped.modes.mode ≠ Mode.mirror ∧
      ((wClamped.quad (0 : GroupIx) (1 : QuadIx)).st = QuadState.running ∨ (wClamped.quad (0 : GroupIx)
        (1 : QuadIx)).st = QuadState.ending) ∧
      fld (wClamped.cfgQ (0 : GroupIx) (1 : QuadIx) (774 : ℕ)) (24 : ℕ) (8 : ℕ) ≠ (0 : ℕ) ∧
      (250 : ℕ) * fld (wClamped.cfgQ (0 : GroupIx) (1 : QuadIx) (774 : ℕ)) (24 : ℕ) (8 : ℕ) ≤ (wClamped.quad
        (0 : GroupIx) (1 : QuadIx)).sat ∧
      wClamped.tempEn (0 : GroupIx) (1 : QuadIx) = true ∧
      (250 : ℕ) ≤ (wClamped.quad (0 : GroupIx) (1 : QuadIx)).tMiss := by
  and_intros <;> decide +kernel

theorem witness_QuadStartsBoundariesAndFaults_2 :
    (((wEnding (63 : BitVec 7)).quad (0 : GroupIx) (1 : QuadIx)).due = true ∧ ((wEnding (63 : BitVec 7)).grp
      (0 : GroupIx)).edges ≠ (0 : ℕ) ∧ ((wEnding (63 : BitVec 7)).grp (0 : GroupIx)).edges % (4 : ℕ) = (0 : ℕ) ∧
      ((wEnding (63 : BitVec 7)).grp (0 : GroupIx)).edges = ((wEnding (63 : BitVec 7)).grp (0 : GroupIx)).piAt ∧
      (16 : ℕ) + ((wEnding (63 : BitVec 7)).rootNow - ((wEnding (63 : BitVec 7)).grp (0 : GroupIx)).edgeAt) /
      (16 : ℕ) ≤ (wEnding (63 : BitVec 7)).esc.pos.toNat) ∧
      (wEnding (63 : BitVec 7)).quadsFollow = false ∧
      ((wEnding (63 : BitVec 7)).quad (0 : GroupIx) (1 : QuadIx)).st = QuadState.ending ∧
      ((wEnding (63 : BitVec 7)).quad (0 : GroupIx) (1 : QuadIx)).succ = some (63 : BitVec 7) ∧
      BitVec.toNat (63 : BitVec 7) < (64 : ℕ) ∧
      (∀ (k : QuadIx), (wEnding (63 : BitVec 7)).ganged (0 : GroupIx) (quadLane k (0 : Fin (4 : ℕ))) = false) ∧
      (¬(((wEnding (63 : BitVec 7)).grp (0 : GroupIx)).edges % (4 : ℕ) = (0 : ℕ) ∧ ((wEnding (63 : BitVec 7)).grp
        (0 : GroupIx)).edges ≠ ((wEnding (63 : BitVec 7)).grp (0 : GroupIx)).piAt ∧ (wEnding
        (63 : BitVec 7)).modes.mode ≠ Mode.reset ∧ (wEnding (63 : BitVec 7)).modes.mode ≠ Mode.boot ∧ (wEnding
        (63 : BitVec 7)).clk.gated = false)) := by
  and_intros <;> decide +kernel

theorem witness_QuadStartsBoundariesAndFaults_3 :
    (((wEnding (64 : BitVec 7)).quad (0 : GroupIx) (1 : QuadIx)).due = true ∧ ((wEnding (64 : BitVec 7)).grp
      (0 : GroupIx)).edges ≠ (0 : ℕ) ∧ ((wEnding (64 : BitVec 7)).grp (0 : GroupIx)).edges % (4 : ℕ) = (0 : ℕ) ∧
      ((wEnding (64 : BitVec 7)).grp (0 : GroupIx)).edges = ((wEnding (64 : BitVec 7)).grp (0 : GroupIx)).piAt ∧
      (16 : ℕ) + ((wEnding (64 : BitVec 7)).rootNow - ((wEnding (64 : BitVec 7)).grp (0 : GroupIx)).edgeAt) /
      (16 : ℕ) ≤ (wEnding (64 : BitVec 7)).esc.pos.toNat) ∧
      (wEnding (64 : BitVec 7)).quadsFollow = false ∧
      ((wEnding (64 : BitVec 7)).quad (0 : GroupIx) (1 : QuadIx)).st = QuadState.ending ∧
      ((wEnding (64 : BitVec 7)).quad (0 : GroupIx) (1 : QuadIx)).succ = some (64 : BitVec 7) ∧
      (64 : ℕ) ≤ BitVec.toNat (64 : BitVec 7) := by
  and_intros <;> decide +kernel

theorem witness_QuadStartsBoundariesAndFaults_4 :
    (((wStart (0 : Word)).quad (0 : GroupIx) (1 : QuadIx)).due = true ∧ ((wStart (0 : Word)).grp
      (0 : GroupIx)).edges ≠ (0 : ℕ) ∧ ((wStart (0 : Word)).grp (0 : GroupIx)).edges % (4 : ℕ) = (0 : ℕ) ∧ ((wStart
      (0 : Word)).grp (0 : GroupIx)).edges = ((wStart (0 : Word)).grp (0 : GroupIx)).piAt ∧ (16 : ℕ) + ((wStart
      (0 : Word)).rootNow - ((wStart (0 : Word)).grp (0 : GroupIx)).edgeAt) / (16 : ℕ) ≤ (wStart
      (0 : Word)).esc.pos.toNat) ∧
      (wStart (0 : Word)).quadsFollow = false ∧
      ((wStart (0 : Word)).quad (0 : GroupIx) (1 : QuadIx)).st = QuadState.idle ∧
      (firstFailing [((1 : ℕ), (wStart (0 : Word)).modes.mode == Mode.run), ((2 : ℕ), (((wStart (0 : Word)).grp
        (0 : GroupIx)).slotNow (BitVec.extractLsb' (16 : ℕ) (3 : ℕ) ((wStart (0 : Word)).qctl (0 : GroupIx)
        (1 : QuadIx))).toFin).st == SlotState.repeat && (((wStart (0 : Word)).grp (0 : GroupIx)).slotNow
        (BitVec.extractLsb' (16 : ℕ) (3 : ℕ) ((wStart (0 : Word)).qctl (0 : GroupIx) (1 : QuadIx))).toFin).cur),
        ((3 : ℕ), decide ((64 : ℕ) * List.countP (fun (k : QuadIx) => (if ((wStart (0 : Word)).quad
        (0 : GroupIx) k).st = QuadState.idle then (BitVec.extractLsb' (16 : ℕ) (3 : ℕ) ((wStart (0 : Word)).qctl
        (0 : GroupIx) k)).toFin else ((wStart (0 : Word)).quad (0 : GroupIx) k).slot) == (BitVec.extractLsb'
        (16 : ℕ) (3 : ℕ) ((wStart (0 : Word)).qctl (0 : GroupIx) (1 : QuadIx))).toFin && (((wStart (0 : Word)).quad
        (0 : GroupIx) k).starting || ((wStart (0 : Word)).quad (0 : GroupIx) k).st != QuadState.idle && ((wStart
        (0 : Word)).quad (0 : GroupIx) k).st != QuadState.done && ((wStart (0 : Word)).quad
        (0 : GroupIx) k).st != QuadState.refused)) (List.finRange (4 : ℕ)) ≤ (((wStart (0 : Word)).grp
        (0 : GroupIx)).slotNow (BitVec.extractLsb' (16 : ℕ) (3 : ℕ) ((wStart (0 : Word)).qctl (0 : GroupIx)
        (1 : QuadIx))).toFin).d.toNat)), ((4 : ℕ), decide (∀ (k : Fin (4 : ℕ)), (wStart (0 : Word)).ganged
        (0 : GroupIx) (quadLane (1 : QuadIx) k) = false)), ((5 : ℕ), ((wStart (0 : Word)).chan (0 : GroupIx)
        (quadLane (1 : QuadIx) (0 : Fin (4 : ℕ)))).fe.stage.st == StageState.fv && ((wStart (0 : Word)).chan
        (0 : GroupIx) (quadLane (1 : QuadIx) (0 : Fin (4 : ℕ)))).fe.stage.link == ForceLink.pi && !((wStart
        (0 : Word)).chan (0 : GroupIx) (quadLane (1 : QuadIx) (0 : Fin (4 : ℕ)))).fe.outSel && ((wStart
        (0 : Word)).chan (0 : GroupIx) (quadLane (1 : QuadIx) (0 : Fin (4 : ℕ)))).fe.relay.st == RelayState.closed),
        ((6 : ℕ), ((wStart (0 : Word)).chan (0 : GroupIx) (quadLane (1 : QuadIx) (3 : Fin (4 : ℕ)))).fe.hi.mode ==
        (4 : BitVec 3) && ((wStart (0 : Word)).chan (0 : GroupIx) (quadLane (1 : QuadIx) (3 : Fin
        (4 : ℕ)))).fe.hi.swClear), ((7 : ℕ), !(wStart (0 : Word)).tempEn (0 : GroupIx) (1 : QuadIx) || quadOf
        ((wStart (0 : Word)).tempLane (0 : GroupIx) (1 : QuadIx)) != (1 : QuadIx) && !(((wStart (0 : Word)).quad
        (0 : GroupIx) (quadOf ((wStart (0 : Word)).tempLane (0 : GroupIx) (1 : QuadIx)))).st != QuadState.idle &&
        ((wStart (0 : Word)).quad (0 : GroupIx) (quadOf ((wStart (0 : Word)).tempLane (0 : GroupIx)
        (1 : QuadIx)))).st != QuadState.done && ((wStart (0 : Word)).quad (0 : GroupIx) (quadOf ((wStart
        (0 : Word)).tempLane (0 : GroupIx) (1 : QuadIx)))).st != QuadState.refused)), ((8 : ℕ), decide (∀ (i : Fin
        (12 : ℕ)), (wStart (0 : Word)).tblBad (0 : GroupIx) ((1024 : ℕ) * (↑(1 : QuadIx) : ℕ) + (12 : ℕ) * fld
        ((wStart (0 : Word)).qctl (0 : GroupIx) (1 : QuadIx)) (8 : ℕ) (6 : ℕ) + (↑i : ℕ)) = false))] = (0 : ℕ)) ∧
      (∀ (n : Fin (4096 : ℕ)), (wStart (0 : Word)).tblBad (0 : GroupIx) (↑n : ℕ) = false) := by
  and_intros <;> first | exact table_sound (by decide +kernel) | decide +kernel

theorem witness_QuadStartsBoundariesAndFaults_5 :
    ((wQuadStartsBoundariesAndFaults1.quad (0 : GroupIx) (1 : QuadIx)).due = true ∧
      (wQuadStartsBoundariesAndFaults1.grp (0 : GroupIx)).edges ≠ (0 : ℕ) ∧ (wQuadStartsBoundariesAndFaults1.grp
      (0 : GroupIx)).edges % (4 : ℕ) = (0 : ℕ) ∧ (wQuadStartsBoundariesAndFaults1.grp (0 : GroupIx)).edges =
      (wQuadStartsBoundariesAndFaults1.grp (0 : GroupIx)).piAt ∧ (16 : ℕ) +
      (wQuadStartsBoundariesAndFaults1.rootNow - (wQuadStartsBoundariesAndFaults1.grp (0 : GroupIx)).edgeAt) /
      (16 : ℕ) ≤ wQuadStartsBoundariesAndFaults1.esc.pos.toNat) ∧
      wQuadStartsBoundariesAndFaults1.quadsFollow = false ∧
      (wQuadStartsBoundariesAndFaults1.quad (0 : GroupIx) (1 : QuadIx)).st = QuadState.idle ∧
      (firstFailing [((1 : ℕ), wQuadStartsBoundariesAndFaults1.modes.mode == Mode.run), ((2 : ℕ),
        ((wQuadStartsBoundariesAndFaults1.grp (0 : GroupIx)).slotNow (BitVec.extractLsb' (16 : ℕ) (3 : ℕ)
        (wQuadStartsBoundariesAndFaults1.qctl (0 : GroupIx) (1 : QuadIx))).toFin).st == SlotState.repeat &&
        ((wQuadStartsBoundariesAndFaults1.grp (0 : GroupIx)).slotNow (BitVec.extractLsb' (16 : ℕ) (3 : ℕ)
        (wQuadStartsBoundariesAndFaults1.qctl (0 : GroupIx) (1 : QuadIx))).toFin).cur), ((3 : ℕ), decide
        ((64 : ℕ) * List.countP (fun (k : QuadIx) => (if (wQuadStartsBoundariesAndFaults1.quad (0 : GroupIx) k).st =
        QuadState.idle then (BitVec.extractLsb' (16 : ℕ) (3 : ℕ) (wQuadStartsBoundariesAndFaults1.qctl
        (0 : GroupIx) k)).toFin else (wQuadStartsBoundariesAndFaults1.quad (0 : GroupIx) k).slot) ==
        (BitVec.extractLsb' (16 : ℕ) (3 : ℕ) (wQuadStartsBoundariesAndFaults1.qctl (0 : GroupIx)
        (1 : QuadIx))).toFin && ((wQuadStartsBoundariesAndFaults1.quad (0 : GroupIx) k).starting ||
        (wQuadStartsBoundariesAndFaults1.quad (0 : GroupIx) k).st != QuadState.idle &&
        (wQuadStartsBoundariesAndFaults1.quad (0 : GroupIx) k).st != QuadState.done &&
        (wQuadStartsBoundariesAndFaults1.quad (0 : GroupIx) k).st != QuadState.refused)) (List.finRange (4 : ℕ)) ≤
        ((wQuadStartsBoundariesAndFaults1.grp (0 : GroupIx)).slotNow (BitVec.extractLsb' (16 : ℕ) (3 : ℕ)
        (wQuadStartsBoundariesAndFaults1.qctl (0 : GroupIx) (1 : QuadIx))).toFin).d.toNat)), ((4 : ℕ), decide (∀
        (k : Fin (4 : ℕ)), wQuadStartsBoundariesAndFaults1.ganged (0 : GroupIx) (quadLane (1 : QuadIx) k) = false)),
        ((5 : ℕ), (wQuadStartsBoundariesAndFaults1.chan (0 : GroupIx) (quadLane (1 : QuadIx) (0 : Fin
        (4 : ℕ)))).fe.stage.st == StageState.fv && (wQuadStartsBoundariesAndFaults1.chan (0 : GroupIx) (quadLane
        (1 : QuadIx) (0 : Fin (4 : ℕ)))).fe.stage.link == ForceLink.pi && !(wQuadStartsBoundariesAndFaults1.chan
        (0 : GroupIx) (quadLane (1 : QuadIx) (0 : Fin (4 : ℕ)))).fe.outSel && (wQuadStartsBoundariesAndFaults1.chan
        (0 : GroupIx) (quadLane (1 : QuadIx) (0 : Fin (4 : ℕ)))).fe.relay.st == RelayState.closed), ((6 : ℕ),
        (wQuadStartsBoundariesAndFaults1.chan (0 : GroupIx) (quadLane (1 : QuadIx) (3 : Fin
        (4 : ℕ)))).fe.hi.mode == (4 : BitVec 3) && (wQuadStartsBoundariesAndFaults1.chan (0 : GroupIx) (quadLane
        (1 : QuadIx) (3 : Fin (4 : ℕ)))).fe.hi.swClear), ((7 : ℕ), !wQuadStartsBoundariesAndFaults1.tempEn
        (0 : GroupIx) (1 : QuadIx) || quadOf (wQuadStartsBoundariesAndFaults1.tempLane (0 : GroupIx)
        (1 : QuadIx)) != (1 : QuadIx) && !((wQuadStartsBoundariesAndFaults1.quad (0 : GroupIx) (quadOf
        (wQuadStartsBoundariesAndFaults1.tempLane (0 : GroupIx) (1 : QuadIx)))).st != QuadState.idle &&
        (wQuadStartsBoundariesAndFaults1.quad (0 : GroupIx) (quadOf (wQuadStartsBoundariesAndFaults1.tempLane
        (0 : GroupIx) (1 : QuadIx)))).st != QuadState.done && (wQuadStartsBoundariesAndFaults1.quad (0 : GroupIx)
        (quadOf (wQuadStartsBoundariesAndFaults1.tempLane (0 : GroupIx) (1 : QuadIx)))).st != QuadState.refused)),
        ((8 : ℕ), decide (∀ (i : Fin (12 : ℕ)), wQuadStartsBoundariesAndFaults1.tblBad (0 : GroupIx) ((1024 : ℕ) *
        (↑(1 : QuadIx) : ℕ) + (12 : ℕ) * fld (wQuadStartsBoundariesAndFaults1.qctl (0 : GroupIx) (1 : QuadIx))
        (8 : ℕ) (6 : ℕ) + (↑i : ℕ)) = false))] ≠ (0 : ℕ)) := by
  and_intros <;> decide +kernel

theorem witness_WaveformSources :
    ((wWaveformSources9.grp (0 : GroupIx)).wav.st = WavState.armed ∧
      (wWaveformSources9.grp (0 : GroupIx)).wav.at_ ≠ wWaveformSources9.esc.frame) ∧
    ((wWaveformSources6.grp (0 : GroupIx)).wav.st = WavState.playing ∧
      (wWaveformSources6.grp (0 : GroupIx)).wav.stopAt = some (0 : ℕ) ∧
      (wWaveformSources6.grp (0 : GroupIx)).wav.stored = false) ∧
    ((wWaveformSources7.grp (0 : GroupIx)).wav.st = WavState.playing ∧
      (wWaveformSources7.grp (0 : GroupIx)).wav.stopAt = none ∧
      (wWaveformSources7.grp (0 : GroupIx)).wav.armReq = none ∧
      (wWaveformSources7.grp (0 : GroupIx)).wav.stored = true ∧
      wWaveformSources7.wavOver (0 : GroupIx) = true) ∧
    ((wWaveformSources3.grp (0 : GroupIx)).wav.st = WavState.armed ∧
      (wWaveformSources3.grp (0 : GroupIx)).wav.at_ = wWaveformSources3.esc.frame ∧
      wWaveformSources3.esc.pos.toNat ≤ (64 : ℕ) ∧
      Undisturbed wWaveformSources3 ((64 : ℕ) - wWaveformSources3.esc.pos.toNat)) ∧
    (wWaveformSources8.rootRuns = true ∧
      (wWaveformSources8.grp (0 : GroupIx)).wav.st = WavState.idle ∧
      (wWaveformSources8.grp (0 : GroupIx)).wav.armReq = none ∧
      (wWaveformSources8.grp (0 : GroupIx)).wav.stopReq = some wWaveformSources8.rootNow ∧
      BitVec.getLsbD (1793 : Word) (0 : ℕ) = true) ∧
    (((wRun.setReg (adr (pWAV (0 : GroupIx)) (10 : ℕ)) (2 : Word)).grp (0 : GroupIx)).wav.st = WavState.idle ∧
      ((wRun.setReg (adr (pWAV (0 : GroupIx)) (10 : ℕ)) (2 : Word)).grp (0 : GroupIx)).wav.armReq = none ∧
      ((wRun.setReg (adr (pWAV (0 : GroupIx)) (10 : ℕ)) (2 : Word)).grp (0 : GroupIx)).wav.stopReq ≠ some
        (wRun.setReg (adr (pWAV (0 : GroupIx)) (10 : ℕ)) (2 : Word)).rootNow ∧
      BitVec.getLsbD (1793 : Word) (0 : ℕ) = true ∧
      BitVec.getLsbD (1793 : Word) (1 : ℕ) = false) ∧
    ((wWaveformSources1.grp (0 : GroupIx)).wav.armReq = some true ∧
      (firstFailing [((1 : ℕ),
        wWaveformSources1.modes.mode == Mode.configure || wWaveformSources1.modes.mode == Mode.run), ((2 : ℕ),
        (wWaveformSources1.grp (0 : GroupIx)).wav.st == WavState.idle), ((3 : ℕ), true), ((4 : ℕ), !BitVec.getLsbD
        (wWaveformSources1.wavReg (0 : GroupIx) (8 : ℕ)) (4 : ℕ) || decide ((1 : ℕ) ≤ fld (wWaveformSources1.wavReg
        (0 : GroupIx) (16 : ℕ)) (0 : ℕ) (16 : ℕ) ∧ (8 : ℕ) * fld (wWaveformSources1.wavReg (0 : GroupIx) (16 : ℕ))
        (0 : ℕ) (16 : ℕ) ≤ fld (wWaveformSources1.wavReg (0 : GroupIx) (16 : ℕ)) (16 : ℕ) (16 : ℕ))), ((5 : ℕ),
        !BitVec.getLsbD (wWaveformSources1.wavReg (0 : GroupIx) (8 : ℕ)) (4 : ℕ) || decide
        (∀ i ∈ wWaveformSources1.segsFrom (0 : GroupIx) (8 : ℕ) (BitVec.extractLsb' (8 : ℕ) (3 : ℕ)
        (wWaveformSources1.wavReg (0 : GroupIx) (8 : ℕ))).toFin, (8388608 : ℕ) ≤ fld (wWaveformSources1.wavSeg
        (0 : GroupIx) i (0 : ℕ)) (0 : ℕ) (25 : ℕ) / (4 : ℕ) * (4 : ℕ) ∧ fld (wWaveformSources1.wavSeg
        (0 : GroupIx) i (0 : ℕ)) (0 : ℕ) (25 : ℕ) / (4 : ℕ) * (4 : ℕ) + (2 : ℕ) * (fld (wWaveformSources1.wavSeg
        (0 : GroupIx) i (1 : ℕ)) (0 : ℕ) (24 : ℕ) + (1 : ℕ)) ≤ (33554432 : ℕ)))] = (0 : ℕ))) ∧
    ((wWaveformSources2.grp (0 : GroupIx)).wav.armReq = some false ∧
      (firstFailing [((1 : ℕ),
        wWaveformSources2.modes.mode == Mode.configure || wWaveformSources2.modes.mode == Mode.run), ((2 : ℕ),
        (wWaveformSources2.grp (0 : GroupIx)).wav.st == WavState.idle), ((3 : ℕ), false), ((4 : ℕ), !BitVec.getLsbD
        (wWaveformSources2.wavReg (0 : GroupIx) (8 : ℕ)) (4 : ℕ) || decide ((1 : ℕ) ≤ fld (wWaveformSources2.wavReg
        (0 : GroupIx) (16 : ℕ)) (0 : ℕ) (16 : ℕ) ∧ (8 : ℕ) * fld (wWaveformSources2.wavReg (0 : GroupIx) (16 : ℕ))
        (0 : ℕ) (16 : ℕ) ≤ fld (wWaveformSources2.wavReg (0 : GroupIx) (16 : ℕ)) (16 : ℕ) (16 : ℕ))), ((5 : ℕ),
        !BitVec.getLsbD (wWaveformSources2.wavReg (0 : GroupIx) (8 : ℕ)) (4 : ℕ) || decide
        (∀ i ∈ wWaveformSources2.segsFrom (0 : GroupIx) (8 : ℕ) (BitVec.extractLsb' (8 : ℕ) (3 : ℕ)
        (wWaveformSources2.wavReg (0 : GroupIx) (8 : ℕ))).toFin, (8388608 : ℕ) ≤ fld (wWaveformSources2.wavSeg
        (0 : GroupIx) i (0 : ℕ)) (0 : ℕ) (25 : ℕ) / (4 : ℕ) * (4 : ℕ) ∧ fld (wWaveformSources2.wavSeg
        (0 : GroupIx) i (0 : ℕ)) (0 : ℕ) (25 : ℕ) / (4 : ℕ) * (4 : ℕ) + (2 : ℕ) * (fld (wWaveformSources2.wavSeg
        (0 : GroupIx) i (1 : ℕ)) (0 : ℕ) (24 : ℕ) + (1 : ℕ)) ≤ (33554432 : ℕ)))] ≠ (0 : ℕ))) := by
  unfold Undisturbed; decide +kernel

theorem witness_TriggersAndCaptures :
    wTriggersAndCaptures6.rootRuns = true ∧
      BitVec.toNat wTriggersAndCaptures6.esc.frame < BitVec.toNat (1 : FrameNo) ∧
      Undisturbed wTriggersAndCaptures6 ((64 : ℕ) - wTriggersAndCaptures6.esc.pos.toNat) ∧
      wTriggersAndCaptures6.lines[(1 : LineIx)].st = LineState.live ∧
      wTriggersAndCaptures6.modes.mode = Mode.run ∧
      wTriggersAndCaptures6.lines[(1 : LineIx)].fired = false ∧
      wTriggersAndCaptures6.lines[(1 : LineIx)].pend = (0 : ℕ) ∧
      wTriggersAndCaptures6.lines[(1 : LineIx)].pendForced = true ∧
      (BitVec.getLsbD (wTriggersAndCaptures6.reg (adr (pACQ (0 : GroupIx)) (8 : ℕ))) (0 : ℕ) = false ∨ fld
        (wTriggersAndCaptures6.reg (adr (pACQ (0 : GroupIx)) (8 : ℕ))) (1 : ℕ) (2 : ℕ) ≠ (↑(1 : LineIx) : ℕ)) ∧
      ((wTriggersAndCaptures6.grp (0 : GroupIx)).acq.st = AcqState.armed ∨ (wTriggersAndCaptures6.grp
        (0 : GroupIx)).acq.st = AcqState.pre ∨ (wTriggersAndCaptures6.grp (0 : GroupIx)).acq.st = AcqState.post) ∧
      (wTriggersAndCaptures6.grp (0 : GroupIx)).acq.line = (1 : LineIx) := by
  unfold Undisturbed; and_intros <;> decide +kernel

theorem witness_TriggersAndCaptures_2 :
    wTriggersAndCaptures16.rootRuns = true ∧
      BitVec.toNat wTriggersAndCaptures16.esc.frame < BitVec.toNat (1 : FrameNo) ∧
      BitVec.getLsbD (wTriggersAndCaptures16.reg (adr (pACQ (0 : GroupIx)) (8 : ℕ))) (0 : ℕ) = true ∧
      fld (wTriggersAndCaptures16.reg (adr (pACQ (0 : GroupIx)) (8 : ℕ))) (1 : ℕ) (2 : ℕ) = (↑(1 : LineIx) : ℕ) ∧
      (firstFailing [((1 : ℕ), decide ((1 : ℕ) ≤ List.countP (fun (i : Fin (16 : ℕ)) => BitVec.getLsbD
        (wTriggersAndCaptures16.reg (adr (pACQ (0 : GroupIx)) (8 : ℕ))) ((16 : ℕ) + (↑i : ℕ))) (List.finRange
        (16 : ℕ)))), ((2 : ℕ), decide ((1 : ℕ) ≤ fld (wTriggersAndCaptures16.reg (adr (pACQ (0 : GroupIx))
        (10 : ℕ))) (0 : ℕ) (15 : ℕ) ∧ fld (wTriggersAndCaptures16.reg (adr (pACQ (0 : GroupIx)) (9 : ℕ))) (0 : ℕ)
        (14 : ℕ) + fld (wTriggersAndCaptures16.reg (adr (pACQ (0 : GroupIx)) (10 : ℕ))) (0 : ℕ) (15 : ℕ) ≤
        (16384 : ℕ) / List.countP (fun (i : Fin (16 : ℕ)) => BitVec.getLsbD (wTriggersAndCaptures16.reg (adr (pACQ
        (0 : GroupIx)) (8 : ℕ))) ((16 : ℕ) + (↑i : ℕ))) (List.finRange (16 : ℕ)))), ((3 : ℕ), !BitVec.getLsbD
        (wTriggersAndCaptures16.reg (adr (pACQ (0 : GroupIx)) (8 : ℕ))) (9 : ℕ) || decide ((∀ (e h : Fin (32 : ℕ)),
        e < h → BitVec.getLsbD (wTriggersAndCaptures16.maskW (0 : GroupIx) ((0 : ℕ) + (2 : ℕ) * (↑e : ℕ))) (31 : ℕ) =
        true → BitVec.getLsbD (wTriggersAndCaptures16.maskW (0 : GroupIx) ((0 : ℕ) + (2 : ℕ) * (↑h : ℕ))) (31 : ℕ) =
        true → fld (wTriggersAndCaptures16.maskW (0 : GroupIx) ((0 : ℕ) + (2 : ℕ) * (↑e : ℕ))) (0 : ℕ)
        (14 : ℕ) < fld (wTriggersAndCaptures16.maskW (0 : GroupIx) ((0 : ℕ) + (2 : ℕ) * (↑h : ℕ))) (0 : ℕ)
        (14 : ℕ)) ∧ ∀ (e h : Fin (32 : ℕ)), e < h → BitVec.getLsbD (wTriggersAndCaptures16.maskW (0 : GroupIx)
        ((64 : ℕ) + (2 : ℕ) * (↑e : ℕ))) (31 : ℕ) = true → BitVec.getLsbD (wTriggersAndCaptures16.maskW
        (0 : GroupIx) ((64 : ℕ) + (2 : ℕ) * (↑h : ℕ))) (31 : ℕ) = true → fld (wTriggersAndCaptures16.maskW
        (0 : GroupIx) ((64 : ℕ) + (2 : ℕ) * (↑e : ℕ))) (0 : ℕ) (14 : ℕ) < fld (wTriggersAndCaptures16.maskW
        (0 : GroupIx) ((64 : ℕ) + (2 : ℕ) * (↑h : ℕ))) (0 : ℕ) (14 : ℕ)))] = (0 : ℕ)) ∧
      ((wTriggersAndCaptures16.grp (0 : GroupIx)).acq.st = AcqState.pre ∨ (wTriggersAndCaptures16.grp
        (0 : GroupIx)).acq.st = AcqState.post ∧ (wTriggersAndCaptures16.grp (0 : GroupIx)).acq.stored <
        (wTriggersAndCaptures16.grp (0 : GroupIx)).acq.post) ∧
      (wTriggersAndCaptures16.grp (0 : GroupIx)).acq.lanes = BitVec.ofNat (16 : ℕ) (1 : ℕ) <<< (↑(1 : LaneIx) : ℕ) ∧
      (wTriggersAndCaptures16.grp (0 : GroupIx)).acq.j ≤ (16 : ℕ) ∧
      (wTriggersAndCaptures16.modes.mode ≠ Mode.reset ∧ wTriggersAndCaptures16.modes.mode ≠ Mode.boot ∧
        wTriggersAndCaptures16.clk.gated = false) ∧
      (wTriggersAndCaptures16.grp (0 : GroupIx)).acq.sums = [((↑(1 : LaneIx) : ℕ), (16000 : ℤ), (0 : ℕ), false)] ∧
      (2 : ℕ) ^ (wTriggersAndCaptures16.grp (0 : GroupIx)).acq.j ≤ (wTriggersAndCaptures16.grp
        (0 : GroupIx)).acq.edgeN ∧
      (0 : ℕ) ≠ (2 : ℕ) ^ (wTriggersAndCaptures16.grp (0 : GroupIx)).acq.j ∧
      BitVec.getLsbD (wTriggersAndCaptures16.reg (adr pFLT (34 : ℕ))) (0 : ℕ) = false ∧
      ((wTriggersAndCaptures16.grp (0 : GroupIx)).slice (1 : LaneIx)).job = some (wTaken (1 : ℕ) (some (4 : ℕ))
        (wJob StartKind.scheduled (0 : BitVec 2))) ∧
      ((wTriggersAndCaptures16.grp (0 : GroupIx)).slice (1 : LaneIx)).warming = false ∧
      ((wTaken (1 : ℕ) (some (4 : ℕ)) (wJob StartKind.scheduled (0 : BitVec 2))).take =
        some { edge := some (4 : ℕ), src := (1 : ℕ), range := (0 : BitVec 3), gain := (0 : BitVec 24), ofs := (0 : BitVec 24), cg := (0 : BitVec 24), co := (0 : BitVec 24) : Sampling }) ∧
      ({ edge := some (4 : ℕ), src := (1 : ℕ), range := (0 : BitVec 3), gain := (0 : BitVec 24), ofs := (0 : BitVec 24), cg := (0 : BitVec 24), co := (0 : BitVec 24) : Sampling }.edge = some (4 : ℕ)) ∧
      QuadsQuiet wTriggersAndCaptures16 (0 : GroupIx) ∧
      (0 : ℕ) + (1 : ℕ) = (2 : ℕ) ^ (wTriggersAndCaptures16.grp (0 : GroupIx)).acq.j ∧
      (wTriggersAndCaptures16.grp (0 : GroupIx)).acq.edgeN = (2 : ℕ) ^ (wTriggersAndCaptures16.grp
        (0 : GroupIx)).acq.j ∧
      (wTriggersAndCaptures16.grp (0 : GroupIx)).acq.trigPt = some (0 : ℕ) ∧
      (0 : ℕ) ≤ (wTriggersAndCaptures16.grp (0 : GroupIx)).acq.point ∧
      (∀ (e h : Fin (32 : ℕ)), e < h → BitVec.getLsbD (wTriggersAndCaptures16.maskW (0 : GroupIx) ((0 : ℕ) +
        (2 : ℕ) * (↑e : ℕ))) (31 : ℕ) = true → BitVec.getLsbD (wTriggersAndCaptures16.maskW (0 : GroupIx)
        ((0 : ℕ) + (2 : ℕ) * (↑h : ℕ))) (31 : ℕ) = true → fld (wTriggersAndCaptures16.maskW (0 : GroupIx)
        ((0 : ℕ) + (2 : ℕ) * (↑e : ℕ))) (0 : ℕ) (14 : ℕ) < fld (wTriggersAndCaptures16.maskW (0 : GroupIx)
        ((0 : ℕ) + (2 : ℕ) * (↑h : ℕ))) (0 : ℕ) (14 : ℕ)) ∧
      (∀ (e h : Fin (32 : ℕ)), e < h → BitVec.getLsbD (wTriggersAndCaptures16.maskW (0 : GroupIx) ((64 : ℕ) +
        (2 : ℕ) * (↑e : ℕ))) (31 : ℕ) = true → BitVec.getLsbD (wTriggersAndCaptures16.maskW (0 : GroupIx)
        ((64 : ℕ) + (2 : ℕ) * (↑h : ℕ))) (31 : ℕ) = true → fld (wTriggersAndCaptures16.maskW (0 : GroupIx)
        ((64 : ℕ) + (2 : ℕ) * (↑e : ℕ))) (0 : ℕ) (14 : ℕ) < fld (wTriggersAndCaptures16.maskW (0 : GroupIx)
        ((64 : ℕ) + (2 : ℕ) * (↑h : ℕ))) (0 : ℕ) (14 : ℕ)) ∧
      (BitVec.getLsbD (wTriggersAndCaptures16.reg (adr (pACQ (0 : GroupIx)) (8 : ℕ))) (9 : ℕ) = true ∧ ((∃ (e : Fin
        (32 : ℕ)), (BitVec.getLsbD (wTriggersAndCaptures16.maskW (0 : GroupIx) ((0 : ℕ) + (2 : ℕ) * (↑e : ℕ)))
        (31 : ℕ) = true ∧ fld (wTriggersAndCaptures16.maskW (0 : GroupIx) ((0 : ℕ) + (2 : ℕ) * (↑e : ℕ))) (0 : ℕ)
        (14 : ℕ) ≤ (wTriggersAndCaptures16.grp (0 : GroupIx)).acq.point - (0 : ℕ) ∧ ∀ (h : Fin (32 : ℕ)),
        BitVec.getLsbD (wTriggersAndCaptures16.maskW (0 : GroupIx) ((0 : ℕ) + (2 : ℕ) * (↑h : ℕ))) (31 : ℕ) = true →
        fld (wTriggersAndCaptures16.maskW (0 : GroupIx) ((0 : ℕ) + (2 : ℕ) * (↑h : ℕ))) (0 : ℕ) (14 : ℕ) ≤
        (wTriggersAndCaptures16.grp (0 : GroupIx)).acq.point - (0 : ℕ) → fld (wTriggersAndCaptures16.maskW
        (0 : GroupIx) ((0 : ℕ) + (2 : ℕ) * (↑h : ℕ))) (0 : ℕ) (14 : ℕ) ≤ fld (wTriggersAndCaptures16.maskW
        (0 : GroupIx) ((0 : ℕ) + (2 : ℕ) * (↑e : ℕ))) (0 : ℕ) (14 : ℕ)) ∧ fld (wTriggersAndCaptures16.maskW
        (0 : GroupIx) ((0 : ℕ) + (2 : ℕ) * (↑e : ℕ) + (1 : ℕ))) (0 : ℕ) (20 : ℕ) < fld (BitVec.ofNat (4 : ℕ)
        ((wTriggersAndCaptures16.grp (0 : GroupIx)).acq.j / (2 : ℕ)) ++ BitVec.ofNat (28 : ℕ) (roundUp
        (((16000 : ℤ) + { edge := some (4 : ℕ), src := (1 : ℕ), range := (0 : BitVec 3), gain := (0 : BitVec 24), ofs := (0 : BitVec 24), cg := (0 : BitVec 24), co := (0 : BitVec 24) : Sampling }.correct (524544 : BitVec 20)) * (2 : ℤ) ^ ((wTriggersAndCaptures16.grp (0 : GroupIx)).acq.j / (2 : ℕ))) ((16 : ℕ) * (2 : ℕ) ^ (wTriggersAndCaptures16.grp (0 : GroupIx)).acq.j)).toNat) (0 : ℕ) (28 : ℕ) / (2 : ℕ) ^ ((wTriggersAndCaptures16.grp (0 : GroupIx)).acq.j / (2 : ℕ))) ∨ ∃ (e : Fin (32 : ℕ)), (BitVec.getLsbD (wTriggersAndCaptures16.maskW (0 : GroupIx) ((64 : ℕ) + (2 : ℕ) * (↑e : ℕ))) (31 : ℕ) = true ∧ fld (wTriggersAndCaptures16.maskW (0 : GroupIx) ((64 : ℕ) + (2 : ℕ) * (↑e : ℕ))) (0 : ℕ) (14 : ℕ) ≤ (wTriggersAndCaptures16.grp (0 : GroupIx)).acq.point - (0 : ℕ) ∧ ∀ (h : Fin (32 : ℕ)), BitVec.getLsbD (wTriggersAndCaptures16.maskW (0 : GroupIx) ((64 : ℕ) + (2 : ℕ) * (↑h : ℕ))) (31 : ℕ) = true → fld (wTriggersAndCaptures16.maskW (0 : GroupIx) ((64 : ℕ) + (2 : ℕ) * (↑h : ℕ))) (0 : ℕ) (14 : ℕ) ≤ (wTriggersAndCaptures16.grp (0 : GroupIx)).acq.point - (0 : ℕ) → fld (wTriggersAndCaptures16.maskW (0 : GroupIx) ((64 : ℕ) + (2 : ℕ) * (↑h : ℕ))) (0 : ℕ) (14 : ℕ) ≤ fld (wTriggersAndCaptures16.maskW (0 : GroupIx) ((64 : ℕ) + (2 : ℕ) * (↑e : ℕ))) (0 : ℕ) (14 : ℕ)) ∧ fld (BitVec.ofNat (4 : ℕ) ((wTriggersAndCaptures16.grp (0 : GroupIx)).acq.j / (2 : ℕ)) ++ BitVec.ofNat (28 : ℕ) (roundUp (((16000 : ℤ) + { edge := some (4 : ℕ), src := (1 : ℕ), range := (0 : BitVec 3), gain := (0 : BitVec 24), ofs := (0 : BitVec 24), cg := (0 : BitVec 24), co := (0 : BitVec 24) : Sampling }.correct (524544 : BitVec 20)) * (2 : ℤ) ^ ((wTriggersAndCaptures16.grp (0 : GroupIx)).acq.j / (2 : ℕ))) ((16 : ℕ) * (2 : ℕ) ^ (wTriggersAndCaptures16.grp (0 : GroupIx)).acq.j)).toNat) (0 : ℕ) (28 : ℕ) / (2 : ℕ) ^ ((wTriggersAndCaptures16.grp (0 : GroupIx)).acq.j / (2 : ℕ)) < fld (wTriggersAndCaptures16.maskW (0 : GroupIx) ((64 : ℕ) + (2 : ℕ) * (↑e : ℕ) + (1 : ℕ))) (0 : ℕ) (20 : ℕ))) ∧
      TakesEvent wTriggersAndCaptures16 (selGroup (0 : GroupIx)) := by
  unfold TakesEvent TakesSlots QuadsQuiet; and_intros <;> first
    | exact two_limits _ 0 0 (by decide +kernel) (by decide +kernel) (by decide +kernel) (by decide +kernel)
    | decide +kernel

theorem witness_TriggersAndCaptures_3 :
    wLost.rootRuns = false := by
  decide +kernel

theorem witness_TriggersAndCaptures_4 :
    wTriggersAndCaptures5.rootRuns = true ∧
      BitVec.toNat (1 : FrameNo) < BitVec.toNat wTriggersAndCaptures5.esc.frame ∧
      wTriggersAndCaptures5.lines[(1 : LineIx)].st = LineState.live ∧
      wTriggersAndCaptures5.lines[(1 : LineIx)].auto ≠ (0 : BitVec 16) ∧
      BitVec.toNat wTriggersAndCaptures5.lines[(1 : LineIx)].f + wTriggersAndCaptures5.lines[(1 : LineIx)].auto.toNat ≤ BitVec.toNat wTriggersAndCaptures5.esc.frame ∧
      wTriggersAndCaptures5.lines[(1 : LineIx)].expired = false := by
  and_intros <;> decide +kernel

theorem witness_TriggersAndCaptures_5 :
    (wPost.grp (0 : GroupIx)).acq.st = AcqState.post ∧
      (wPost.grp (0 : GroupIx)).acq.post ≤ (wPost.grp (0 : GroupIx)).acq.stored ∧
      wPost.rootRuns = true ∧
      BitVec.toNat wPost.esc.frame < BitVec.toNat (1 : FrameNo) ∧
      (BitVec.getLsbD (wPost.reg (adr (pACQ (0 : GroupIx)) (8 : ℕ))) (0 : ℕ) = false ∨ fld (wPost.reg (adr (pACQ
        (0 : GroupIx)) (8 : ℕ))) (1 : ℕ) (2 : ℕ) ≠ (↑(1 : LineIx) : ℕ)) ∧
      (¬((wPost.grp (0 : GroupIx)).acq.st = AcqState.armed ∨ (wPost.grp (0 : GroupIx)).acq.st = AcqState.pre ∨
        (wPost.grp (0 : GroupIx)).acq.st = AcqState.post) ∨ (wPost.grp (0 : GroupIx)).acq.line ≠ (1 : LineIx)) := by
  and_intros <;> decide +kernel

theorem witness_TriggersAndCaptures_6 :
    ((wTriggersAndCaptures13.grp (0 : GroupIx)).acq.st = AcqState.pre ∨ (wTriggersAndCaptures13.grp
      (0 : GroupIx)).acq.st = AcqState.post ∧ (wTriggersAndCaptures13.grp (0 : GroupIx)).acq.stored <
      (wTriggersAndCaptures13.grp (0 : GroupIx)).acq.post) ∧
      (wTriggersAndCaptures13.grp (0 : GroupIx)).acq.lanes = BitVec.ofNat (16 : ℕ) (1 : ℕ) <<< (↑(1 : LaneIx) : ℕ) ∧
      (wTriggersAndCaptures13.grp (0 : GroupIx)).acq.j ≤ (16 : ℕ) ∧
      (wTriggersAndCaptures13.modes.mode ≠ Mode.reset ∧ wTriggersAndCaptures13.modes.mode ≠ Mode.boot ∧
        wTriggersAndCaptures13.clk.gated = false) ∧
      (wTriggersAndCaptures13.grp (0 : GroupIx)).acq.sums = [((↑(1 : LaneIx) : ℕ), (0 : ℤ), (0 : ℕ), false)] ∧
      (wTriggersAndCaptures13.grp (0 : GroupIx)).acq.edgeN < (2 : ℕ) ^ (wTriggersAndCaptures13.grp
        (0 : GroupIx)).acq.j ∧
      ((wTriggersAndCaptures13.grp (0 : GroupIx)).slice (1 : LaneIx)).job = some (wTaken (1 : ℕ) (some (4 : ℕ))
        (wJob StartKind.scheduled (0 : BitVec 2))) ∧
      ((wTriggersAndCaptures13.grp (0 : GroupIx)).slice (1 : LaneIx)).warming = false ∧
      ((wTaken (1 : ℕ) (some (4 : ℕ)) (wJob StartKind.scheduled (0 : BitVec 2))).take =
        some { edge := some (4 : ℕ), src := (1 : ℕ), range := (0 : BitVec 3), gain := (0 : BitVec 24), ofs := (0 : BitVec 24), cg := (0 : BitVec 24), co := (0 : BitVec 24) : Sampling }) ∧
      ({ edge := some (4 : ℕ), src := (1 : ℕ), range := (0 : BitVec 3), gain := (0 : BitVec 24), ofs := (0 : BitVec 24), cg := (0 : BitVec 24), co := (0 : BitVec 24) : Sampling }.edge = some (4 : ℕ)) ∧
      QuadsQuiet wTriggersAndCaptures13 (0 : GroupIx) ∧
      BitVec.getLsbD (wTriggersAndCaptures13.reg (adr pFLT (34 : ℕ))) (0 : ℕ) = false ∧
      (0 : ℕ) + (1 : ℕ) < (2 : ℕ) ^ (wTriggersAndCaptures13.grp (0 : GroupIx)).acq.j := by
  unfold QuadsQuiet; and_intros <;> decide +kernel

theorem witness_TriggersAndCaptures_7 :
    wTriggersAndCaptures4.lines[(1 : LineIx)].st = LineState.triggered := by
  decide +kernel

theorem witness_TriggersAndCaptures_8 :
    wTriggersAndCaptures7.rootRuns = true ∧
      (0 : FrameNo) = wTriggersAndCaptures7.esc.frame ∧
      wTriggersAndCaptures7.esc.pos ≠ (0 : BitVec 28) := by
  and_intros <;> decide +kernel

theorem witness_TriggersAndCaptures_9 :
    (wLine id).rootRuns = true ∧
      (0 : FrameNo) = (wLine id).esc.frame ∧
      (wLine id).esc.pos = (0 : BitVec 28) ∧
      ((wLine id).modes.mode = Mode.run ∧ (wLine id).esc.stopAt ≠ some (0 : ℕ) ∨ (wLine id).modes.mode =
        Mode.mirror) := by
  and_intros <;> decide +kernel

theorem witness_TriggersAndCaptures_10 :
    (inMode Mode.safe).rootRuns = true ∧
      (0 : FrameNo) = (inMode Mode.safe).esc.frame ∧
      (inMode Mode.safe).esc.pos = (0 : BitVec 28) ∧
      (inMode Mode.safe).modes.mode ≠ Mode.run ∧
      (inMode Mode.safe).modes.mode ≠ Mode.mirror ∧
      (inMode Mode.safe).modes.mode ≠ Mode.configure := by
  and_intros <;> decide +kernel

theorem witness_TriggersAndCaptures_11 :
    Undisturbed wTriggersAndCaptures3 ((64 : ℕ) - wTriggersAndCaptures3.esc.pos.toNat) ∧
      wTriggersAndCaptures3.lines[(1 : LineIx)].pend = (1 : ℕ) ∧
      wTriggersAndCaptures3.lines[(1 : LineIx)].pendForced = false ∧
      wTriggersAndCaptures3.lines[(1 : LineIx)].st ≠ LineState.live := by
  unfold Undisturbed; and_intros <;> decide +kernel

theorem witness_TriggersAndCaptures_12 :
    Undisturbed wTriggersAndCaptures2 ((64 : ℕ) - wTriggersAndCaptures2.esc.pos.toNat) ∧
      wTriggersAndCaptures2.lines[(1 : LineIx)].st = LineState.live ∧
      wTriggersAndCaptures2.modes.mode = Mode.run ∧
      wTriggersAndCaptures2.lines[(1 : LineIx)].fired = false ∧
      wTriggersAndCaptures2.lines[(1 : LineIx)].pend = (1 : ℕ) ∧
      wTriggersAndCaptures2.lines[(1 : LineIx)].pendForced = false ∧
      (wTriggersAndCaptures2.flow
        ((64 : ℕ) - wTriggersAndCaptures2.esc.pos.toNat)).fireInTime wTriggersAndCaptures2.lines[(1 : LineIx)] =
        true := by
  unfold Undisturbed; and_intros <;> decide +kernel

theorem witness_TriggersAndCaptures_13 :
    ((wTriggersAndCaptures10.grp (0 : GroupIx)).acq.st = AcqState.pre ∨ (wTriggersAndCaptures10.grp
      (0 : GroupIx)).acq.st = AcqState.post ∧ (wTriggersAndCaptures10.grp (0 : GroupIx)).acq.stored <
      (wTriggersAndCaptures10.grp (0 : GroupIx)).acq.post) ∧
      (wTriggersAndCaptures10.grp (0 : GroupIx)).acq.lanes = BitVec.ofNat (16 : ℕ) (1 : ℕ) <<< (↑(1 : LaneIx) : ℕ) ∧
      (wTriggersAndCaptures10.grp (0 : GroupIx)).acq.j ≤ (16 : ℕ) ∧
      (wTriggersAndCaptures10.modes.mode ≠ Mode.reset ∧ wTriggersAndCaptures10.modes.mode ≠ Mode.boot ∧
        wTriggersAndCaptures10.clk.gated = false) ∧
      (wTriggersAndCaptures10.grp (0 : GroupIx)).acq.sums = [] := by
  and_intros <;> decide +kernel

theorem witness_TriggersAndCaptures_14 :
    ((wTriggersAndCaptures14.grp (0 : GroupIx)).acq.st = AcqState.pre ∨ (wTriggersAndCaptures14.grp
      (0 : GroupIx)).acq.st = AcqState.post ∧ (wTriggersAndCaptures14.grp (0 : GroupIx)).acq.stored <
      (wTriggersAndCaptures14.grp (0 : GroupIx)).acq.post) ∧
      (wTriggersAndCaptures14.grp (0 : GroupIx)).acq.lanes = BitVec.ofNat (16 : ℕ) (1 : ℕ) <<< (↑(1 : LaneIx) : ℕ) ∧
      (wTriggersAndCaptures14.grp (0 : GroupIx)).acq.j ≤ (16 : ℕ) ∧
      (wTriggersAndCaptures14.modes.mode ≠ Mode.reset ∧ wTriggersAndCaptures14.modes.mode ≠ Mode.boot ∧
        wTriggersAndCaptures14.clk.gated = false) ∧
      (wTriggersAndCaptures14.grp (0 : GroupIx)).acq.sums = [((↑(1 : LaneIx) : ℕ), (0 : ℤ), (0 : ℕ), false)] ∧
      ((wTriggersAndCaptures14.grp (0 : GroupIx)).slice (1 : LaneIx)).job = some (wTaken (1 : ℕ) (some (4 : ℕ))
        (wJob StartKind.scheduled (0 : BitVec 2))) ∧
      ((wTriggersAndCaptures14.grp (0 : GroupIx)).slice (1 : LaneIx)).warming = false ∧
      ((wTaken (1 : ℕ) (some (4 : ℕ)) (wJob StartKind.scheduled (0 : BitVec 2))).take =
        some { edge := some (4 : ℕ), src := (1 : ℕ), range := (0 : BitVec 3), gain := (0 : BitVec 24), ofs := (0 : BitVec 24), cg := (0 : BitVec 24), co := (0 : BitVec 24) : Sampling }) ∧
      ({ edge := some (4 : ℕ), src := (1 : ℕ), range := (0 : BitVec 3), gain := (0 : BitVec 24), ofs := (0 : BitVec 24), cg := (0 : BitVec 24), co := (0 : BitVec 24) : Sampling }.edge = some (4 : ℕ)) ∧
      QuadsQuiet wTriggersAndCaptures14 (0 : GroupIx) ∧
      BitVec.getLsbD (wTriggersAndCaptures14.reg (adr pFLT (34 : ℕ))) (0 : ℕ) = false ∧
      (0 : ℕ) + (1 : ℕ) = (2 : ℕ) ^ (wTriggersAndCaptures14.grp (0 : GroupIx)).acq.j ∧
      (wTriggersAndCaptures14.grp (0 : GroupIx)).acq.edgeN = (2 : ℕ) ^ (wTriggersAndCaptures14.grp
        (0 : GroupIx)).acq.j ∧
      (wTriggersAndCaptures14.grp (0 : GroupIx)).acq.trigPt = none := by
  unfold QuadsQuiet; and_intros <;> decide +kernel

theorem witness_TriggersAndCaptures_15 :
    (wRun.setReg (adr (pACQ (0 : GroupIx)) (8 : ℕ)) (3 : Word)).rootRuns = true ∧
      BitVec.toNat (wRun.setReg (adr (pACQ (0 : GroupIx)) (8 : ℕ)) (3 : Word)).esc.frame < BitVec.toNat
        (5 : FrameNo) ∧
      BitVec.getLsbD ((wRun.setReg (adr (pACQ (0 : GroupIx)) (8 : ℕ)) (3 : Word)).reg (adr (pACQ (0 : GroupIx))
        (8 : ℕ))) (0 : ℕ) = true ∧
      fld ((wRun.setReg (adr (pACQ (0 : GroupIx)) (8 : ℕ)) (3 : Word)).reg (adr (pACQ (0 : GroupIx)) (8 : ℕ)))
        (1 : ℕ) (2 : ℕ) = (↑(1 : LineIx) : ℕ) ∧
      (firstFailing [((1 : ℕ), decide ((1 : ℕ) ≤ List.countP (fun (i : Fin (16 : ℕ)) => BitVec.getLsbD
        ((wRun.setReg (adr (pACQ (0 : GroupIx)) (8 : ℕ)) (3 : Word)).reg (adr (pACQ (0 : GroupIx)) (8 : ℕ)))
        ((16 : ℕ) + (↑i : ℕ))) (List.finRange (16 : ℕ)))), ((2 : ℕ), decide ((1 : ℕ) ≤ fld ((wRun.setReg (adr (pACQ
        (0 : GroupIx)) (8 : ℕ)) (3 : Word)).reg (adr (pACQ (0 : GroupIx)) (10 : ℕ))) (0 : ℕ) (15 : ℕ) ∧ fld
        ((wRun.setReg (adr (pACQ (0 : GroupIx)) (8 : ℕ)) (3 : Word)).reg (adr (pACQ (0 : GroupIx)) (9 : ℕ)))
        (0 : ℕ) (14 : ℕ) + fld ((wRun.setReg (adr (pACQ (0 : GroupIx)) (8 : ℕ)) (3 : Word)).reg (adr (pACQ
        (0 : GroupIx)) (10 : ℕ))) (0 : ℕ) (15 : ℕ) ≤ (16384 : ℕ) / List.countP (fun (i : Fin
        (16 : ℕ)) => BitVec.getLsbD ((wRun.setReg (adr (pACQ (0 : GroupIx)) (8 : ℕ)) (3 : Word)).reg (adr (pACQ
        (0 : GroupIx)) (8 : ℕ))) ((16 : ℕ) + (↑i : ℕ))) (List.finRange (16 : ℕ)))), ((3 : ℕ), !BitVec.getLsbD
        ((wRun.setReg (adr (pACQ (0 : GroupIx)) (8 : ℕ)) (3 : Word)).reg (adr (pACQ (0 : GroupIx)) (8 : ℕ)))
        (9 : ℕ) || decide ((∀ (e h : Fin (32 : ℕ)), e < h → BitVec.getLsbD ((wRun.setReg (adr (pACQ (0 : GroupIx))
        (8 : ℕ)) (3 : Word)).maskW (0 : GroupIx) ((0 : ℕ) + (2 : ℕ) * (↑e : ℕ))) (31 : ℕ) = true → BitVec.getLsbD
        ((wRun.setReg (adr (pACQ (0 : GroupIx)) (8 : ℕ)) (3 : Word)).maskW (0 : GroupIx) ((0 : ℕ) + (2 : ℕ) *
        (↑h : ℕ))) (31 : ℕ) = true → fld ((wRun.setReg (adr (pACQ (0 : GroupIx)) (8 : ℕ)) (3 : Word)).maskW
        (0 : GroupIx) ((0 : ℕ) + (2 : ℕ) * (↑e : ℕ))) (0 : ℕ) (14 : ℕ) < fld ((wRun.setReg (adr (pACQ
        (0 : GroupIx)) (8 : ℕ)) (3 : Word)).maskW (0 : GroupIx) ((0 : ℕ) + (2 : ℕ) * (↑h : ℕ))) (0 : ℕ) (14 : ℕ)) ∧
        ∀ (e h : Fin (32 : ℕ)), e < h → BitVec.getLsbD ((wRun.setReg (adr (pACQ (0 : GroupIx)) (8 : ℕ))
        (3 : Word)).maskW (0 : GroupIx) ((64 : ℕ) + (2 : ℕ) * (↑e : ℕ))) (31 : ℕ) = true → BitVec.getLsbD
        ((wRun.setReg (adr (pACQ (0 : GroupIx)) (8 : ℕ)) (3 : Word)).maskW (0 : GroupIx) ((64 : ℕ) + (2 : ℕ) *
        (↑h : ℕ))) (31 : ℕ) = true → fld ((wRun.setReg (adr (pACQ (0 : GroupIx)) (8 : ℕ)) (3 : Word)).maskW
        (0 : GroupIx) ((64 : ℕ) + (2 : ℕ) * (↑e : ℕ))) (0 : ℕ) (14 : ℕ) < fld ((wRun.setReg (adr (pACQ
        (0 : GroupIx)) (8 : ℕ)) (3 : Word)).maskW (0 : GroupIx) ((64 : ℕ) + (2 : ℕ) * (↑h : ℕ))) (0 : ℕ)
        (14 : ℕ)))] ≠ (0 : ℕ)) := by
  and_intros <;> decide +kernel

theorem witness_TriggersAndCaptures_16 :
    ((wTriggersAndCaptures15.grp (0 : GroupIx)).acq.st = AcqState.pre ∨ (wTriggersAndCaptures15.grp
      (0 : GroupIx)).acq.st = AcqState.post ∧ (wTriggersAndCaptures15.grp (0 : GroupIx)).acq.stored <
      (wTriggersAndCaptures15.grp (0 : GroupIx)).acq.post) ∧
      (wTriggersAndCaptures15.grp (0 : GroupIx)).acq.lanes = BitVec.ofNat (16 : ℕ) (1 : ℕ) <<< (↑(1 : LaneIx) : ℕ) ∧
      (wTriggersAndCaptures15.grp (0 : GroupIx)).acq.j ≤ (16 : ℕ) ∧
      (wTriggersAndCaptures15.modes.mode ≠ Mode.reset ∧ wTriggersAndCaptures15.modes.mode ≠ Mode.boot ∧
        wTriggersAndCaptures15.clk.gated = false) ∧
      (wTriggersAndCaptures15.grp (0 : GroupIx)).acq.sums = [((↑(1 : LaneIx) : ℕ), (0 : ℤ), (0 : ℕ), false)] ∧
      ((wTriggersAndCaptures15.grp (0 : GroupIx)).slice (1 : LaneIx)).job = some (wTaken (1 : ℕ) (some (4 : ℕ))
        (wJob StartKind.scheduled (0 : BitVec 2))) ∧
      ((wTriggersAndCaptures15.grp (0 : GroupIx)).slice (1 : LaneIx)).warming = false ∧
      ((wTaken (1 : ℕ) (some (4 : ℕ)) (wJob StartKind.scheduled (0 : BitVec 2))).take =
        some { edge := some (4 : ℕ), src := (1 : ℕ), range := (0 : BitVec 3), gain := (0 : BitVec 24), ofs := (0 : BitVec 24), cg := (0 : BitVec 24), co := (0 : BitVec 24) : Sampling }) ∧
      ({ edge := some (4 : ℕ), src := (1 : ℕ), range := (0 : BitVec 3), gain := (0 : BitVec 24), ofs := (0 : BitVec 24), cg := (0 : BitVec 24), co := (0 : BitVec 24) : Sampling }.edge = some (4 : ℕ)) ∧
      QuadsQuiet wTriggersAndCaptures15 (0 : GroupIx) ∧
      BitVec.getLsbD (wTriggersAndCaptures15.reg (adr pFLT (34 : ℕ))) (0 : ℕ) = false ∧
      (0 : ℕ) + (1 : ℕ) = (2 : ℕ) ^ (wTriggersAndCaptures15.grp (0 : GroupIx)).acq.j ∧
      (wTriggersAndCaptures15.grp (0 : GroupIx)).acq.edgeN = (2 : ℕ) ^ (wTriggersAndCaptures15.grp
        (0 : GroupIx)).acq.j ∧
      (wTriggersAndCaptures15.grp (0 : GroupIx)).acq.trigPt = some (0 : ℕ) ∧
      (0 : ℕ) ≤ (wTriggersAndCaptures15.grp (0 : GroupIx)).acq.point ∧
      (∀ (e h : Fin (32 : ℕ)), e < h → BitVec.getLsbD (wTriggersAndCaptures15.maskW (0 : GroupIx) ((0 : ℕ) +
        (2 : ℕ) * (↑e : ℕ))) (31 : ℕ) = true → BitVec.getLsbD (wTriggersAndCaptures15.maskW (0 : GroupIx)
        ((0 : ℕ) + (2 : ℕ) * (↑h : ℕ))) (31 : ℕ) = true → fld (wTriggersAndCaptures15.maskW (0 : GroupIx)
        ((0 : ℕ) + (2 : ℕ) * (↑e : ℕ))) (0 : ℕ) (14 : ℕ) < fld (wTriggersAndCaptures15.maskW (0 : GroupIx)
        ((0 : ℕ) + (2 : ℕ) * (↑h : ℕ))) (0 : ℕ) (14 : ℕ)) ∧
      (∀ (e h : Fin (32 : ℕ)), e < h → BitVec.getLsbD (wTriggersAndCaptures15.maskW (0 : GroupIx) ((64 : ℕ) +
        (2 : ℕ) * (↑e : ℕ))) (31 : ℕ) = true → BitVec.getLsbD (wTriggersAndCaptures15.maskW (0 : GroupIx)
        ((64 : ℕ) + (2 : ℕ) * (↑h : ℕ))) (31 : ℕ) = true → fld (wTriggersAndCaptures15.maskW (0 : GroupIx)
        ((64 : ℕ) + (2 : ℕ) * (↑e : ℕ))) (0 : ℕ) (14 : ℕ) < fld (wTriggersAndCaptures15.maskW (0 : GroupIx)
        ((64 : ℕ) + (2 : ℕ) * (↑h : ℕ))) (0 : ℕ) (14 : ℕ)) ∧
      (¬(BitVec.getLsbD (wTriggersAndCaptures15.reg (adr (pACQ (0 : GroupIx)) (8 : ℕ))) (9 : ℕ) = true ∧ ((∃
        (e : Fin (32 : ℕ)), (BitVec.getLsbD (wTriggersAndCaptures15.maskW (0 : GroupIx) ((0 : ℕ) + (2 : ℕ) *
        (↑e : ℕ))) (31 : ℕ) = true ∧ fld (wTriggersAndCaptures15.maskW (0 : GroupIx) ((0 : ℕ) + (2 : ℕ) *
        (↑e : ℕ))) (0 : ℕ) (14 : ℕ) ≤ (wTriggersAndCaptures15.grp (0 : GroupIx)).acq.point - (0 : ℕ) ∧ ∀ (h : Fin
        (32 : ℕ)), BitVec.getLsbD (wTriggersAndCaptures15.maskW (0 : GroupIx) ((0 : ℕ) + (2 : ℕ) * (↑h : ℕ)))
        (31 : ℕ) = true → fld (wTriggersAndCaptures15.maskW (0 : GroupIx) ((0 : ℕ) + (2 : ℕ) * (↑h : ℕ))) (0 : ℕ)
        (14 : ℕ) ≤ (wTriggersAndCaptures15.grp (0 : GroupIx)).acq.point - (0 : ℕ) → fld
        (wTriggersAndCaptures15.maskW (0 : GroupIx) ((0 : ℕ) + (2 : ℕ) * (↑h : ℕ))) (0 : ℕ) (14 : ℕ) ≤ fld
        (wTriggersAndCaptures15.maskW (0 : GroupIx) ((0 : ℕ) + (2 : ℕ) * (↑e : ℕ))) (0 : ℕ) (14 : ℕ)) ∧ fld
        (wTriggersAndCaptures15.maskW (0 : GroupIx) ((0 : ℕ) + (2 : ℕ) * (↑e : ℕ) + (1 : ℕ))) (0 : ℕ)
        (20 : ℕ) < fld (BitVec.ofNat (4 : ℕ) ((wTriggersAndCaptures15.grp (0 : GroupIx)).acq.j /
        (2 : ℕ)) ++ BitVec.ofNat (28 : ℕ) (roundUp
        (((0 : ℤ) + { edge := some (4 : ℕ), src := (1 : ℕ), range := (0 : BitVec 3), gain := (0 : BitVec 24), ofs := (0 : BitVec 24), cg := (0 : BitVec 24), co := (0 : BitVec 24) : Sampling }.correct (524544 : BitVec 20)) * (2 : ℤ) ^ ((wTriggersAndCaptures15.grp (0 : GroupIx)).acq.j / (2 : ℕ))) ((16 : ℕ) * (2 : ℕ) ^ (wTriggersAndCaptures15.grp (0 : GroupIx)).acq.j)).toNat) (0 : ℕ) (28 : ℕ) / (2 : ℕ) ^ ((wTriggersAndCaptures15.grp (0 : GroupIx)).acq.j / (2 : ℕ))) ∨ ∃ (e : Fin (32 : ℕ)), (BitVec.getLsbD (wTriggersAndCaptures15.maskW (0 : GroupIx) ((64 : ℕ) + (2 : ℕ) * (↑e : ℕ))) (31 : ℕ) = true ∧ fld (wTriggersAndCaptures15.maskW (0 : GroupIx) ((64 : ℕ) + (2 : ℕ) * (↑e : ℕ))) (0 : ℕ) (14 : ℕ) ≤ (wTriggersAndCaptures15.grp (0 : GroupIx)).acq.point - (0 : ℕ) ∧ ∀ (h : Fin (32 : ℕ)), BitVec.getLsbD (wTriggersAndCaptures15.maskW (0 : GroupIx) ((64 : ℕ) + (2 : ℕ) * (↑h : ℕ))) (31 : ℕ) = true → fld (wTriggersAndCaptures15.maskW (0 : GroupIx) ((64 : ℕ) + (2 : ℕ) * (↑h : ℕ))) (0 : ℕ) (14 : ℕ) ≤ (wTriggersAndCaptures15.grp (0 : GroupIx)).acq.point - (0 : ℕ) → fld (wTriggersAndCaptures15.maskW (0 : GroupIx) ((64 : ℕ) + (2 : ℕ) * (↑h : ℕ))) (0 : ℕ) (14 : ℕ) ≤ fld (wTriggersAndCaptures15.maskW (0 : GroupIx) ((64 : ℕ) + (2 : ℕ) * (↑e : ℕ))) (0 : ℕ) (14 : ℕ)) ∧ fld (BitVec.ofNat (4 : ℕ) ((wTriggersAndCaptures15.grp (0 : GroupIx)).acq.j / (2 : ℕ)) ++ BitVec.ofNat (28 : ℕ) (roundUp (((0 : ℤ) + { edge := some (4 : ℕ), src := (1 : ℕ), range := (0 : BitVec 3), gain := (0 : BitVec 24), ofs := (0 : BitVec 24), cg := (0 : BitVec 24), co := (0 : BitVec 24) : Sampling }.correct (524544 : BitVec 20)) * (2 : ℤ) ^ ((wTriggersAndCaptures15.grp (0 : GroupIx)).acq.j / (2 : ℕ))) ((16 : ℕ) * (2 : ℕ) ^ (wTriggersAndCaptures15.grp (0 : GroupIx)).acq.j)).toNat) (0 : ℕ) (28 : ℕ) / (2 : ℕ) ^ ((wTriggersAndCaptures15.grp (0 : GroupIx)).acq.j / (2 : ℕ)) < fld (wTriggersAndCaptures15.maskW (0 : GroupIx) ((64 : ℕ) + (2 : ℕ) * (↑e : ℕ) + (1 : ℕ))) (0 : ℕ) (20 : ℕ)))) := by
  unfold QuadsQuiet; and_intros <;> decide +kernel

theorem witness_PowerResetAndTestPort :
    ((∀ (i : Fin 6), wEng.boot.supplies[i] = true) ∧
      wEng.modes.mode ≠ Mode.reset ∧
      (¬(wEng.modes.mode = Mode.reset ∧ wEng.boot.rstRel = false)) ∧
      2 ≠ 0 ∧
      2 ≠ 1) ∧
    ((wReset false true).modes.mode = Mode.reset ∧
      (wReset false true).boot.rstRel = false ∧
      ((wReset false true).modes.mode = Mode.reset ∧ (wReset false true).boot.rstRel = false)) := by
  decide +kernel

theorem witness_BootStagesToImage :
    ((atStage (3 : BitVec 3) (2 : BitVec 2)).inStage (3 : ℕ) = true ∧
      ((atStage (3 : BitVec 3) (2 : BitVec 2)).boot.src = (1 : BitVec 2) ∨ (atStage (3 : BitVec 3)
        (2 : BitVec 2)).boot.src = (2 : BitVec 2)) ∧
      (atStage (3 : BitVec 3) (2 : BitVec 2)).boot.src = (2 : BitVec 2) ∧
      (atStage (3 : BitVec 3) (2 : BitVec 2)).msp.mastering = false) ∧
    (wBootStagesToImage2.inStage (1 : ℕ) = true) ∧
    ((wLocked (0 : BitVec 2)).inStage (2 : ℕ) = true ∧
      (wLocked (0 : BitVec 2)).locked = true) ∧
    (wBootStagesToImage3.inStage (3 : ℕ) = true ∧
      wBootStagesToImage3.boot.src = (0 : BitVec 2) ∧
      wBootStagesToImage3.msp.mastering = true) ∧
    (wBootStagesToImage5.masters = true ∧
      wBootStagesToImage5.msp.mastering = false ∧
      wBootStagesToImage5.reg (adr pUNIT (11 : ℕ)) ++ wBootStagesToImage5.reg (adr pUNIT
        (10 : ℕ)) &&& ~~~(0 : BitVec 64) = (0 : BitVec 64)) ∧
    (wBootStagesToImage4.inStage (3 : ℕ) = true ∧
      wBootStagesToImage4.boot.src = (1 : BitVec 2) ∧
      (8 : ℕ) ≤ (8 : ℕ) ∧
      (8 : ℕ) ≤ (8192 : ℕ) ∧
      (8 : ℕ) % (8 : ℕ) = (0 : ℕ) ∧
      [(7 : Byte)].length * (8 : ℕ) = (8 : ℕ) ∧
      wBootStagesToImage4.msp.mastering = false ∧
      wBootStagesToImage4.msp.quiet = true ∧
      wBootStagesToImage4.msp.reply = none) ∧
    (((atStage (3 : BitVec 3) (0 : BitVec 2)).setReg (adr pUNIT (10 : ℕ)) (1 : Word)).masters = true ∧
      ((atStage (3 : BitVec 3) (0 : BitVec 2)).setReg (adr pUNIT (10 : ℕ)) (1 : Word)).msp.mastering = false ∧
      ((atStage (3 : BitVec 3) (0 : BitVec 2)).setReg (adr pUNIT (10 : ℕ)) (1 : Word)).reg (adr pUNIT (11 : ℕ)) ++
        ((atStage (3 : BitVec 3) (0 : BitVec 2)).setReg (adr pUNIT (10 : ℕ)) (1 : Word)).reg (adr pUNIT
        (10 : ℕ)) &&& ~~~(0 : BitVec 64) ≠ (0 : BitVec 64)) ∧
    ((withImage (3 : BitVec 3) (1 : BitVec 2)).inStage (3 : ℕ) = true ∧
      ((withImage (3 : BitVec 3) (1 : BitVec 2)).boot.src = (1 : BitVec 2) ∨ (withImage (3 : BitVec 3)
        (1 : BitVec 2)).boot.src = (2 : BitVec 2)) ∧
      (imgOk (withImage (3 : BitVec 3) (1 : BitVec 2)).boot.image = true ∧ imgLen (withImage (3 : BitVec 3)
        (1 : BitVec 2)).boot.image ≤ (withImage (3 : BitVec 3) (1 : BitVec 2)).boot.image.length) ∧
      (128 : ℕ) ≤ (withImage (3 : BitVec 3) (1 : BitVec 2)).boot.image.length) := by
  decide +kernel

theorem witness_BootStagesToEnumerate :
    ((withImage 7 1).inStage 7 = true ∧
      (((withImage 7 1).bistFound (wBist true false 0)).sram = true ∨ ((withImage 7 1).bistFound
        (wBist true false 0)).desc = true)) ∧
    ((withImage 4 0).inStage 4 = true) ∧
    ((withImage 5 1).inStage 5 = true) ∧
    ((withImage 6 1).inStage 6 = true) ∧
    ((withImage 7 1).inStage 7 = true ∧
      ((withImage 7 1).bistFound (wBist false false 9223372036854775809)).sram = false ∧
      ((withImage 7 1).bistFound (wBist false false 9223372036854775809)).desc = false) := by
  decide +kernel

theorem witness_ClockSources :
    (wClockSources5.suppliesIn = true ∧
      wClockSources5.clk.rco = true ∧
      wClockSources5.boot.rstRel = true ∧
      wClockSources5.clk.lock = true ∧
      wClockSources5.clk.domRco = true ∧
      wClockSources5.clk.holdover = true ∧
      wClockSources5.otherReady = true ∧
      (wClockSources5.clk.lock = true ∨ wClockSources5.clk.trip = true) ∧
      (wClockSources5.modes.mode = Mode.configure ∨ wClockSources5.modes.mode = Mode.run ∨
        wClockSources5.modes.mode = Mode.mirror) ∧
      wClockSources5.clk.hs[0] = false) ∧
    ((wClockSources1.modes.mode = Mode.boot ∧ wClockSources1.clk.ref = false ∧ wClockSources1.clk.lock = false) ∧
      wClockSources1.clk.xo = false) ∧
    (wClockSources7.clk.target = some true ∧
      wClockSources7.clk.domRco ≠ true ∧
      ((if true = true then wClockSources7.clk.rco else wClockSources7.clk.lock) = true)) ∧
    (wClockSources8.clk.gated = true ∧
      wClockSources8.modes.mode = Mode.reset) ∧
    (wClockSources3.refSelected = true ∧
      wClockSources3.clk.lock = false ∧
      wClockSources3.modes.mode ≠ Mode.reset) ∧
    (wClockSources6.clk.gated = true ∧
      (wClockSources6.modes.mode = Mode.configure ∨ wClockSources6.modes.mode = Mode.run ∨
        wClockSources6.modes.mode = Mode.mirror)) ∧
    (wClockSources4.clk.ref = true ∧
      wClockSources4.clk.xo = true ∧
      BitVec.getLsbD (wClockSources4.reg (adr pCLK 8)) 0 = false ∧
      BitVec.getLsbD (wClockSources4.reg (adr pCLK 8)) 1 = true) := by
  decide +kernel

theorem witness_ClockSelectionAndMarks :
    ((fld ((wSync Mode.configure SyncState.locked (4 : Word)).reg (adr pCLK (8 : ℕ))) (8 : ℕ) (2 : ℕ) ≠ (3 : ℕ) ∨
      fld (1 : Word) (12 : ℕ) (5 : ℕ) ≠ fld ((wSync Mode.configure SyncState.locked (4 : Word)).reg (adr pCLK
      (12 : ℕ))) (12 : ℕ) (5 : ℕ) ∧ (wSync Mode.configure SyncState.locked (4 : Word)).clk.domRco = true) ∧
      (wSync Mode.configure SyncState.locked (4 : Word)).regReady = true ∧
      (wSync Mode.configure SyncState.locked (4 : Word)).steers = true ∧
      (wSync Mode.configure SyncState.locked (4 : Word)).rootRuns = true ∧
      (¬((wSync Mode.configure SyncState.locked (4 : Word)).sync.st = SyncState.locked ∧
        (wSync Mode.configure SyncState.locked (4 : Word)).syncInside ((wSync Mode.configure SyncState.locked
        (4 : Word)).syncError (3 : BitVec 43)) = false)) ∧
      (wSync Mode.configure SyncState.locked (4 : Word)).sync.st ≠ SyncState.hold ∧
      max ((wSync Mode.configure SyncState.locked (4 : Word)).regF (adr pSYNC (15 : ℕ)) (0 : ℕ) (8 : ℕ)) (1 : ℕ) ≤
        (wSync Mode.configure SyncState.locked (4 : Word)).sync.miss ∧
      BitVec.getLsbD ((wSync Mode.configure SyncState.locked (4 : Word)).reg (adr pSYNC (8 : ℕ))) (0 : ℕ) = false ∧
      ((wSync Mode.configure SyncState.locked (4 : Word)).nearestTick (10 : ℕ) ((10 : ℤ) *
        ((↑(wSync Mode.configure SyncState.locked (4 : Word)).esc.root.toNat : ℤ) -
        (↑(wSync Mode.configure SyncState.locked (4 : Word)).esc.tickRoot.toNat : ℤ)) - (1536 : ℤ) *
        (↑((wSync Mode.configure SyncState.locked (4 : Word)).regF (adr pSYNC (18 : ℕ)) (0 : ℕ) (8 : ℕ)) : ℤ))).2.2 =
        (0 : FrameNo)) ∧
    (BitVec.getLsbD ((wSync Mode.configure SyncState.locked (1 : Word)).reg (adr pSYNC (8 : ℕ))) (0 : ℕ) = true) ∧
    (fld ((wRun.setReg (adr pCLK (8 : ℕ)) (768 : Word)).reg (adr pCLK (8 : ℕ))) (8 : ℕ) (2 : ℕ) = (3 : ℕ) ∧
      (¬fld (4095 : Word) (12 : ℕ) (5 : ℕ) ≠ fld ((wRun.setReg (adr pCLK (8 : ℕ)) (768 : Word)).reg (adr pCLK
        (12 : ℕ))) (12 : ℕ) (5 : ℕ)) ∧
      BitVec.getLsbD ((wRun.setReg (adr pCLK (8 : ℕ)) (768 : Word)).reg (adr pSYNC (8 : ℕ))) (0 : ℕ) = false ∧
      (wRun.setReg (adr pCLK (8 : ℕ)) (768 : Word)).rootRuns = true ∧
      ((wRun.setReg (adr pCLK (8 : ℕ)) (768 : Word)).nearestTick (10 : ℕ) ((10 : ℤ) * ((↑(wRun.setReg (adr pCLK
        (8 : ℕ)) (768 : Word)).esc.root.toNat : ℤ) - (↑(wRun.setReg (adr pCLK (8 : ℕ))
        (768 : Word)).esc.tickRoot.toNat : ℤ)) - (1536 : ℤ) * (↑((wRun.setReg (adr pCLK (8 : ℕ)) (768 : Word)).regF
        (adr pSYNC (18 : ℕ)) (0 : ℕ) (8 : ℕ)) : ℤ))).2.2 ≠ (5 : FrameNo) ∧
      ((wRun.setReg (adr pCLK (8 : ℕ)) (768 : Word)).modes.mode = Mode.run ∨ (wRun.setReg (adr pCLK (8 : ℕ))
        (768 : Word)).modes.mode = Mode.mirror)) ∧
    ((wSync Mode.configure SyncState.locked (4 : Word)).steers = true ∧
      (wSync Mode.configure SyncState.locked (4 : Word)).rootRuns = true ∧
      ((wSync Mode.configure SyncState.locked (4 : Word)).sync.st = SyncState.locked ∧
        (wSync Mode.configure SyncState.locked (4 : Word)).syncInside ((wSync Mode.configure SyncState.locked
        (4 : Word)).syncError (3200 : BitVec 43)) = false) ∧
      BitVec.getLsbD ((wSync Mode.configure SyncState.locked (4 : Word)).reg (adr pSYNC (8 : ℕ))) (0 : ℕ) = false ∧
      ((wSync Mode.configure SyncState.locked (4 : Word)).nearestTick (10 : ℕ) ((10 : ℤ) *
        ((↑(wSync Mode.configure SyncState.locked (4 : Word)).esc.root.toNat : ℤ) -
        (↑(wSync Mode.configure SyncState.locked (4 : Word)).esc.tickRoot.toNat : ℤ)) - (1536 : ℤ) *
        (↑((wSync Mode.configure SyncState.locked (4 : Word)).regF (adr pSYNC (18 : ℕ)) (0 : ℕ)
        (8 : ℕ)) : ℤ))).2.2 ≠ (5 : FrameNo) ∧
      ((wSync Mode.configure SyncState.locked (4 : Word)).modes.mode = Mode.configure ∨
        (wSync Mode.configure SyncState.locked (4 : Word)).modes.mode = Mode.safe)) ∧
    (fld ((wRun.setReg (adr pCLK (8 : ℕ)) (768 : Word)).reg (adr pCLK (8 : ℕ))) (8 : ℕ) (2 : ℕ) = (3 : ℕ) ∧
      fld (126976 : Word) (12 : ℕ) (5 : ℕ) ≠ fld ((wRun.setReg (adr pCLK (8 : ℕ)) (768 : Word)).reg (adr pCLK
        (12 : ℕ))) (12 : ℕ) (5 : ℕ) ∧
      (wRun.setReg (adr pCLK (8 : ℕ)) (768 : Word)).clk.domRco = false) := by
  decide +kernel

theorem witness_FrameTickCutoffAndCycles :
    (wCut.rootRuns = true ∧
      wCut.modes.mode ≠ Mode.reset ∧
      (wCut.esc.cut = true ∨ modeCounts wCut.modes.mode = false) ∧
      NothingPaced wCut ∧
      (∀ (g : GroupIx), (wCut.grp g).arms = []) ∧
      wCut.esc.pos.toNat ≤ wCut.frameCycles ∧
      Undisturbed wCut (wCut.frameCycles - wCut.esc.pos.toNat) ∧
      wCut.esc.cut = true ∧
      wCut.pending = [] ∧
      wCut.flt.queues = [] ∧
      wCut.flt.injected = [] ∧
      wCut.sram.back = [] ∧
      (∀ (g : GroupIx), (wCut.grp g).eng.running = false ∧ (wCut.grp g).due = [] ∧ ∀ (l : LaneIx),
        (wCut.chan g l).td.opened = false) ∧
      wCut.esc.pos.toNat ≠ 17 ∧
      wCut.esc.pos.toNat ≠ 64 ∧
      wCut.esc.pos.toNat ≠ wCut.cutAt ∧
      wCut.esc.pos.toNat + 1 < wCut.frameCycles) ∧
    (wGated.pending = [] ∧
      wGated.clk.lock = true ∧
      wGated.clk.gated = true) ∧
    (wLost.pending = [] ∧
      wLost.clk.lock = false ∧
      wLost.flt.queues = [] ∧
      wLost.flt.injected = []) ∧
    (wRun.rootRuns = true ∧
      wRun.esc.cut = false ∧
      modeCounts wRun.modes.mode = true ∧
      wRun.esc.pos.toNat ≤ wRun.frameCycles - 128 ∧
      Undisturbed wRun (wRun.frameCycles - 128 - wRun.esc.pos.toNat)) := by
  unfold NothingPaced Undisturbed; decide +kernel

theorem witness_ProgramArms :
    (((wArm SlotState.repeat wHeader).pastCut = true → (wArm SlotState.repeat wHeader).esc.cut = true) ∧
      (wArm SlotState.repeat wHeader).busy (pGRP (0 : GroupIx)) = false ∧
      BitVec.getLsbD (3 : Word) (5 : ℕ) = false ∧
      ((wArm SlotState.repeat wHeader).grp (0 : GroupIx)).slots[(BitVec.extractLsb' (0 : ℕ) (3 : ℕ)
        (3 : Word)).toFin].st ≠ SlotState.empty ∧
      (((wArm SlotState.repeat wHeader).grp (0 : GroupIx)).arms =
        [{ entry := (256 : BitVec 12), rep := true, slot := (3 : Fin (8 : ℕ)), late := false : ArmReq }]) ∧
      (firstFailing [((7 : ℕ), (wArm SlotState.repeat wHeader).modes.mode == Mode.configure ||
        (wArm SlotState.repeat wHeader).modes.mode == Mode.run ||
        (wArm SlotState.repeat wHeader).modes.mode == Mode.mirror), ((8 : ℕ), !((wArm SlotState.repeat wHeader).grp
        (0 : GroupIx)).gstop), ((9 : ℕ), ((wArm SlotState.repeat wHeader).grp
        (0 : GroupIx)).slots[{ entry := (256 : BitVec 12), rep := true, slot := (3 : Fin (8 : ℕ)), late := false : ArmReq }.slot].st == SlotState.empty), ((5 : ℕ), ((wArm SlotState.repeat wHeader).header (0 : GroupIx) { entry := (256 : BitVec 12), rep := true, slot := (3 : Fin (8 : ℕ)), late := false : ArmReq }.entry.toNat).isSome), ((6 : ℕ), (wArm SlotState.repeat wHeader).modes.compat && decide ((Option.map Prod.snd ((wArm SlotState.repeat wHeader).header (0 : GroupIx) { entry := (256 : BitVec 12), rep := true, slot := (3 : Fin (8 : ℕ)), late := false : ArmReq }.entry.toNat)).getD (0 : ℕ) ≤ fld ((wArm SlotState.repeat wHeader).reg (adr pUNIT (12 : ℕ))) (0 : ℕ) (8 : ℕ))), ((1 : ℕ), decide ((List.map (fun (p : Slot) => p.w.toNat) ((Option.map Prod.fst ((wArm SlotState.repeat wHeader).header (0 : GroupIx) { entry := (256 : BitVec 12), rep := true, slot := (3 : Fin (8 : ℕ)), late := false : ArmReq }.entry.toNat)).getD { : Slot } :: ((wArm SlotState.repeat wHeader).grp (0 : GroupIx)).admittedFor ((wArm SlotState.repeat wHeader).targetOf { entry := (256 : BitVec 12), rep := true, slot := (3 : Fin (8 : ℕ)), late := false : ArmReq }))).sum ≤ (wArm SlotState.repeat wHeader).budget (0 : ℕ) (0 : ℕ))), ((2 : ℕ), decide ((List.map (fun (p : Slot) => p.a.toNat) ((Option.map Prod.fst ((wArm SlotState.repeat wHeader).header (0 : GroupIx) { entry := (256 : BitVec 12), rep := true, slot := (3 : Fin (8 : ℕ)), late := false : ArmReq }.entry.toNat)).getD { : Slot } :: ((wArm SlotState.repeat wHeader).grp (0 : GroupIx)).admittedFor ((wArm SlotState.repeat wHeader).targetOf { entry := (256 : BitVec 12), rep := true, slot := (3 : Fin (8 : ℕ)), late := false : ArmReq }))).sum ≤ (wArm SlotState.repeat wHeader).budget (1 : ℕ) (0 : ℕ))), ((3 : ℕ), decide ((4 : ℕ) * (List.map (fun (p : Slot) => p.s.toNat) ((Option.map Prod.fst ((wArm SlotState.repeat wHeader).header (0 : GroupIx) { entry := (256 : BitVec 12), rep := true, slot := (3 : Fin (8 : ℕ)), late := false : ArmReq }.entry.toNat)).getD { : Slot } :: ((wArm SlotState.repeat wHeader).grp (0 : GroupIx)).admittedFor ((wArm SlotState.repeat wHeader).targetOf { entry := (256 : BitVec 12), rep := true, slot := (3 : Fin (8 : ℕ)), late := false : ArmReq }))).sum + (List.map (fun (p : Slot) => p.d.toNat) ((Option.map Prod.fst ((wArm SlotState.repeat wHeader).header (0 : GroupIx) { entry := (256 : BitVec 12), rep := true, slot := (3 : Fin (8 : ℕ)), late := false : ArmReq }.entry.toNat)).getD { : Slot } :: ((wArm SlotState.repeat wHeader).grp (0 : GroupIx)).admittedFor ((wArm SlotState.repeat wHeader).targetOf { entry := (256 : BitVec 12), rep := true, slot := (3 : Fin (8 : ℕ)), late := false : ArmReq }))).sum ≤ (4 : ℕ) * (wArm SlotState.repeat wHeader).budget (2 : ℕ) (0 : ℕ))), ((4 : ℕ), decide (((((Option.map Prod.fst ((wArm SlotState.repeat wHeader).header (0 : GroupIx) { entry := (256 : BitVec 12), rep := true, slot := (3 : Fin (8 : ℕ)), late := false : ArmReq }.entry.toNat)).getD { : Slot }).d.toNat + (List.map (fun (h : GroupIx) => (List.map (fun (p : Slot) => p.d.toNat) (((wArm SlotState.repeat wHeader).grp h).admittedFor ((wArm SlotState.repeat wHeader).targetOf { entry := (256 : BitVec 12), rep := true, slot := (3 : Fin (8 : ℕ)), late := false : ArmReq }))).sum) (List.finRange (64 : ℕ))).sum) * (33 : ℕ) + (31 : ℕ)) / (32 : ℕ) ≤ (wArm SlotState.repeat wHeader).budget (3 : ℕ) (2 : ℕ) ∧ ((Option.map Prod.fst ((wArm SlotState.repeat wHeader).header (0 : GroupIx) { entry := (256 : BitVec 12), rep := true, slot := (3 : Fin (8 : ℕ)), late := false : ArmReq }.entry.toNat)).getD { : Slot }).d.toNat + (List.map (fun (h : GroupIx) => (List.map (fun (p : Slot) => p.d.toNat) (((wArm SlotState.repeat wHeader).grp h).admittedFor ((wArm SlotState.repeat wHeader).targetOf { entry := (256 : BitVec 12), rep := true, slot := (3 : Fin (8 : ℕ)), late := false : ArmReq }))).sum) (List.finRange (64 : ℕ))).sum ≤ (4 : ℕ) * (wArm SlotState.repeat wHeader).unitStore (2 : ℕ)))] ≠ (0 : ℕ)) ∧
      BitVec.getLsbD (3 : Word) (0 : ℕ) = true ∧
      ((wArm SlotState.repeat wHeader).grp (0 : GroupIx)).failed = false) ∧
    (((wBusyAt (pGRP (0 : GroupIx))).pastCut = true → (wBusyAt (pGRP (0 : GroupIx))).esc.cut = true) ∧
      (wBusyAt (pGRP (0 : GroupIx))).busy (pGRP (0 : GroupIx)) = true) ∧
    (((wArm SlotState.empty wHeader).pastCut = true → (wArm SlotState.empty wHeader).esc.cut = true) ∧
      (((wArm SlotState.empty wHeader).grp (0 : GroupIx)).arms =
        [{ entry := (256 : BitVec 12), rep := true, slot := (3 : Fin (8 : ℕ)), late := false : ArmReq }]) ∧
      (firstFailing [((7 : ℕ), (wArm SlotState.empty wHeader).modes.mode == Mode.configure ||
        (wArm SlotState.empty wHeader).modes.mode == Mode.run ||
        (wArm SlotState.empty wHeader).modes.mode == Mode.mirror), ((8 : ℕ), !((wArm SlotState.empty wHeader).grp
        (0 : GroupIx)).gstop), ((9 : ℕ), ((wArm SlotState.empty wHeader).grp
        (0 : GroupIx)).slots[{ entry := (256 : BitVec 12), rep := true, slot := (3 : Fin (8 : ℕ)), late := false : ArmReq }.slot].st == SlotState.empty), ((5 : ℕ), ((wArm SlotState.empty wHeader).header (0 : GroupIx) { entry := (256 : BitVec 12), rep := true, slot := (3 : Fin (8 : ℕ)), late := false : ArmReq }.entry.toNat).isSome), ((6 : ℕ), (wArm SlotState.empty wHeader).modes.compat && decide ((Option.map Prod.snd ((wArm SlotState.empty wHeader).header (0 : GroupIx) { entry := (256 : BitVec 12), rep := true, slot := (3 : Fin (8 : ℕ)), late := false : ArmReq }.entry.toNat)).getD (0 : ℕ) ≤ fld ((wArm SlotState.empty wHeader).reg (adr pUNIT (12 : ℕ))) (0 : ℕ) (8 : ℕ))), ((1 : ℕ), decide ((List.map (fun (p : Slot) => p.w.toNat) ((Option.map Prod.fst ((wArm SlotState.empty wHeader).header (0 : GroupIx) { entry := (256 : BitVec 12), rep := true, slot := (3 : Fin (8 : ℕ)), late := false : ArmReq }.entry.toNat)).getD { : Slot } :: ((wArm SlotState.empty wHeader).grp (0 : GroupIx)).admittedFor ((wArm SlotState.empty wHeader).targetOf { entry := (256 : BitVec 12), rep := true, slot := (3 : Fin (8 : ℕ)), late := false : ArmReq }))).sum ≤ (wArm SlotState.empty wHeader).budget (0 : ℕ) (0 : ℕ))), ((2 : ℕ), decide ((List.map (fun (p : Slot) => p.a.toNat) ((Option.map Prod.fst ((wArm SlotState.empty wHeader).header (0 : GroupIx) { entry := (256 : BitVec 12), rep := true, slot := (3 : Fin (8 : ℕ)), late := false : ArmReq }.entry.toNat)).getD { : Slot } :: ((wArm SlotState.empty wHeader).grp (0 : GroupIx)).admittedFor ((wArm SlotState.empty wHeader).targetOf { entry := (256 : BitVec 12), rep := true, slot := (3 : Fin (8 : ℕ)), late := false : ArmReq }))).sum ≤ (wArm SlotState.empty wHeader).budget (1 : ℕ) (0 : ℕ))), ((3 : ℕ), decide ((4 : ℕ) * (List.map (fun (p : Slot) => p.s.toNat) ((Option.map Prod.fst ((wArm SlotState.empty wHeader).header (0 : GroupIx) { entry := (256 : BitVec 12), rep := true, slot := (3 : Fin (8 : ℕ)), late := false : ArmReq }.entry.toNat)).getD { : Slot } :: ((wArm SlotState.empty wHeader).grp (0 : GroupIx)).admittedFor ((wArm SlotState.empty wHeader).targetOf { entry := (256 : BitVec 12), rep := true, slot := (3 : Fin (8 : ℕ)), late := false : ArmReq }))).sum + (List.map (fun (p : Slot) => p.d.toNat) ((Option.map Prod.fst ((wArm SlotState.empty wHeader).header (0 : GroupIx) { entry := (256 : BitVec 12), rep := true, slot := (3 : Fin (8 : ℕ)), late := false : ArmReq }.entry.toNat)).getD { : Slot } :: ((wArm SlotState.empty wHeader).grp (0 : GroupIx)).admittedFor ((wArm SlotState.empty wHeader).targetOf { entry := (256 : BitVec 12), rep := true, slot := (3 : Fin (8 : ℕ)), late := false : ArmReq }))).sum ≤ (4 : ℕ) * (wArm SlotState.empty wHeader).budget (2 : ℕ) (0 : ℕ))), ((4 : ℕ), decide (((((Option.map Prod.fst ((wArm SlotState.empty wHeader).header (0 : GroupIx) { entry := (256 : BitVec 12), rep := true, slot := (3 : Fin (8 : ℕ)), late := false : ArmReq }.entry.toNat)).getD { : Slot }).d.toNat + (List.map (fun (h : GroupIx) => (List.map (fun (p : Slot) => p.d.toNat) (((wArm SlotState.empty wHeader).grp h).admittedFor ((wArm SlotState.empty wHeader).targetOf { entry := (256 : BitVec 12), rep := true, slot := (3 : Fin (8 : ℕ)), late := false : ArmReq }))).sum) (List.finRange (64 : ℕ))).sum) * (33 : ℕ) + (31 : ℕ)) / (32 : ℕ) ≤ (wArm SlotState.empty wHeader).budget (3 : ℕ) (2 : ℕ) ∧ ((Option.map Prod.fst ((wArm SlotState.empty wHeader).header (0 : GroupIx) { entry := (256 : BitVec 12), rep := true, slot := (3 : Fin (8 : ℕ)), late := false : ArmReq }.entry.toNat)).getD { : Slot }).d.toNat + (List.map (fun (h : GroupIx) => (List.map (fun (p : Slot) => p.d.toNat) (((wArm SlotState.empty wHeader).grp h).admittedFor ((wArm SlotState.empty wHeader).targetOf { entry := (256 : BitVec 12), rep := true, slot := (3 : Fin (8 : ℕ)), late := false : ArmReq }))).sum) (List.finRange (64 : ℕ))).sum ≤ (4 : ℕ) * (wArm SlotState.empty wHeader).unitStore (2 : ℕ)))] = (0 : ℕ))) := by
  decide +kernel

theorem witness_KwenlinkReceiver :
    (wCtx (KlCtx.filling [(4294967296 : BitVec 64), (7 : BitVec 64)]) []).kl.rx ≠ KlRx.down ∧
      ((wCtx (KlCtx.filling [(4294967296 : BitVec 64), (7 : BitVec 64)]) []).kl.rx = KlRx.up ∧ (wCtx
        (KlCtx.filling [(4294967296 : BitVec 64), (7 : BitVec 64)]) []).rootRuns = true) ∧
      (wCtx (KlCtx.filling [(4294967296 : BitVec 64), (7 : BitVec 64)]) []).kl.addr ≠ (254 : Byte) ∧
      (wPacket (5 : Byte) (3 : Byte) id).hop ≠ (255 : Byte) ∧
      (wPacket (5 : Byte) (3 : Byte) id).src ≠ (wCtx (KlCtx.filling [(4294967296 : BitVec 64),
        (7 : BitVec 64)]) []).kl.addr ∧
      (wPacket (5 : Byte) (3 : Byte) id).dest = (wCtx (KlCtx.filling [(4294967296 : BitVec 64),
        (7 : BitVec 64)]) []).kl.addr ∧
      ((wCtx (KlCtx.filling [(4294967296 : BitVec 64), (7 : BitVec 64)]) []).modes.mode ≠ Mode.reset ∧ (wCtx
        (KlCtx.filling [(4294967296 : BitVec 64), (7 : BitVec 64)]) []).modes.mode ≠ Mode.boot ∧ (wCtx
        (KlCtx.filling [(4294967296 : BitVec 64), (7 : BitVec 64)]) []).modes.mode ≠ Mode.enumerate) ∧
      (¬((wPacket (5 : Byte) (3 : Byte) id).context ≠ KlContext.whole ∨ (wPacket (5 : Byte) (3 : Byte) id).kind =
        (0 : BitVec 4) ∨ (9 : ℕ) < (wPacket (5 : Byte) (3 : Byte) id).kind.toNat ∨ (512 : ℕ) < (wPacket (5 : Byte)
        (3 : Byte) id).len.toNat) ∧ ¬((wPacket (5 : Byte) (3 : Byte) id).len.toNat ≠ (wPacket (5 : Byte)
        (3 : Byte) id).payload.length ∨ (wPacket (5 : Byte) (3 : Byte) id).crc ≠ klCrc (wPacket (5 : Byte)
        (3 : Byte) id))) ∧
      (wPacket (5 : Byte) (3 : Byte) id).kind.toNat = (1 : ℕ) ∧
      (wCtx (KlCtx.filling [(4294967296 : BitVec 64), (7 : BitVec 64)]) []).kl.ctx =
        KlCtx.filling [(4294967296 : BitVec 64), (7 : BitVec 64)] ∧
      (BitVec.extractLsb' (32 : ℕ) (10 : ℕ) (4294967296 : BitVec 64)).toNat ≤ [(7 : BitVec 64)].length ∧
      (¬(BitVec.extractLsb' (24 : ℕ) (8 : ℕ) (4294967296 : BitVec 64) = (255 : BitVec 8) ∨ (wCtx
        (KlCtx.filling [(4294967296 : BitVec 64), (7 : BitVec 64)]) []).kl.addr ≠ (254 : Byte) ∧
        (BitVec.extractLsb' (48 : ℕ) (8 : ℕ) (4294967296 : BitVec 64) = (wCtx
        (KlCtx.filling [(4294967296 : BitVec 64), (7 : BitVec 64)]) []).kl.addr ∨ BitVec.extractLsb' (56 : ℕ)
        (8 : ℕ) (4294967296 : BitVec 64) = (wCtx (KlCtx.filling [(4294967296 : BitVec 64),
        (7 : BitVec 64)]) []).kl.addr))) := by
  and_intros <;> decide +kernel

theorem witness_KwenlinkReceiver_2 :
    ((wKl KlRx.up).kl.rx = KlRx.up ∧ (wKl KlRx.up).rootRuns = true) ∧
      (wPacket (7 : Byte) (255 : Byte) id).hop = (255 : Byte) ∧
      (wPacket (7 : Byte) (255 : Byte) id).context ≠ KlContext.blockError ∧
      BitVec.extractLsb' (0 : ℕ) (8 : ℕ) (51 : BitVec 64) = (51 : BitVec 8) ∧
      (wKl KlRx.up).kl.ctx = KlCtx.idle := by
  and_intros <;> decide +kernel

theorem witness_KwenlinkReceiver_3 :
    ((wCtx (KlCtx.filling []) [KlCtx.idle]).kl.rx = KlRx.up ∧ (wCtx (KlCtx.filling []) [KlCtx.idle]).rootRuns =
      true) ∧
      (wCtx (KlCtx.filling []) [KlCtx.idle]).kl.ctx = KlCtx.filling [] ∧
      (¬(BitVec.extractLsb' (24 : ℕ) (8 : ℕ) (102 : BitVec 64) = (255 : BitVec 8) ∨ (wCtx
        (KlCtx.filling []) [KlCtx.idle]).kl.addr ≠ (254 : Byte) ∧ (BitVec.extractLsb' (48 : ℕ) (8 : ℕ)
        (102 : BitVec 64) = (wCtx (KlCtx.filling []) [KlCtx.idle]).kl.addr ∨ BitVec.extractLsb' (56 : ℕ) (8 : ℕ)
        (102 : BitVec 64) = (wCtx (KlCtx.filling []) [KlCtx.idle]).kl.addr))) ∧
      BitVec.extractLsb' (0 : ℕ) (8 : ℕ) (102 : BitVec 64) = (102 : BitVec 8) ∧
      (wCtx (KlCtx.filling []) [KlCtx.idle]).kl.susp = [KlCtx.idle] := by
  and_intros <;> decide +kernel

theorem witness_KwenlinkReceiver_4 :
    (wKl KlRx.down).kl.rx = KlRx.down := by
  decide +kernel

theorem witness_KwenlinkReceiver_5 :
    (wKl KlRx.locked).kl.rx = KlRx.locked := by
  decide +kernel

theorem witness_KwenlinkReceiver_6 :
    (wKl KlRx.aligned).kl.rx = KlRx.aligned := by
  decide +kernel

theorem witness_KwenlinkReceiver_7 :
    ((wCtx KlCtx.idle []).kl.rx = KlRx.up ∧ (wCtx KlCtx.idle []).rootRuns = true) ∧
      BitVec.extractLsb' (0 : ℕ) (8 : ℕ) (75 : BitVec 64) = (75 : BitVec 8) := by
  and_intros <;> decide +kernel

theorem witness_KwenlinkReceiver_8 :
    ((wCtx KlCtx.idle []).kl.rx = KlRx.up ∧ (wCtx KlCtx.idle []).rootRuns = true) ∧
      BitVec.extractLsb' (0 : ℕ) (8 : ℕ) (30 : BitVec 64) = (30 : BitVec 8) := by
  and_intros <;> decide +kernel

theorem witness_KwenlinkReceiver_9 :
    ((wCtx KlCtx.idle []).kl.rx = KlRx.up ∧ (wCtx KlCtx.idle []).rootRuns = true) ∧
      BitVec.extractLsb' (0 : ℕ) (8 : ℕ) (85 : BitVec 64) = (85 : BitVec 8) ∧
      (wCtx KlCtx.idle []).kl.susp.length < (256 : ℕ) := by
  and_intros <;> decide +kernel

theorem witness_KwenlinkReceiver_10 :
    ((wCtx KlCtx.idle []).kl.rx = KlRx.up ∧ (wCtx KlCtx.idle []).rootRuns = true) ∧
      (wCtx KlCtx.idle []).kl.ctx = KlCtx.idle ∧
      (BitVec.extractLsb' (0 : ℕ) (8 : ℕ) (102 : BitVec 64) = (85 : BitVec 8) ∧ (256 : ℕ) ≤
        (wCtx KlCtx.idle []).kl.susp.length ∨ BitVec.extractLsb' (0 : ℕ) (8 : ℕ) (102 : BitVec 64) =
        (102 : BitVec 8) ∧ (wCtx KlCtx.idle []).kl.susp = []) := by
  and_intros <;> decide +kernel

theorem witness_KwenlinkReceiver_11 :
    ((wKl KlRx.up).kl.rx = KlRx.up ∧ (wKl KlRx.up).rootRuns = true) ∧
      (wKl KlRx.up).kl.addr ≠ (254 : Byte) ∧
      (wPacket (7 : Byte) (3 : Byte) id).hop ≠ (255 : Byte) ∧
      (wPacket (7 : Byte) (3 : Byte) id).src ≠ (wKl KlRx.up).kl.addr ∧
      (wPacket (7 : Byte) (3 : Byte) id).dest ≠ (wKl KlRx.up).kl.addr ∧
      (wPacket (7 : Byte) (3 : Byte) id).dest ≠ (255 : Byte) ∧
      (wKl KlRx.up).kl.forward = true ∧
      (wPacket (7 : Byte) (3 : Byte) id).context = KlContext.whole := by
  and_intros <;> decide +kernel

theorem witness_KwenlinkReceiver_12 :
    ((wCtx (KlCtx.filling []) []).kl.rx = KlRx.up ∧ (wCtx (KlCtx.filling []) []).rootRuns = true) ∧
      (wCtx (KlCtx.filling []) []).kl.ctx = KlCtx.filling [] ∧
      (BitVec.extractLsb' (24 : ℕ) (8 : ℕ) (360287974484606976 : BitVec 64) = (255 : BitVec 8) ∨ (wCtx
        (KlCtx.filling []) []).kl.addr ≠ (254 : Byte) ∧ (BitVec.extractLsb' (48 : ℕ) (8 : ℕ)
        (360287974484606976 : BitVec 64) = (wCtx (KlCtx.filling []) []).kl.addr ∨ BitVec.extractLsb' (56 : ℕ)
        (8 : ℕ) (360287974484606976 : BitVec 64) = (wCtx (KlCtx.filling []) []).kl.addr)) := by
  and_intros <;> decide +kernel

theorem witness_KwenlinkReceiver_13 :
    ((wKl KlRx.up).kl.rx = KlRx.up ∧ (wKl KlRx.up).rootRuns = true) ∧
      (wKl KlRx.up).kl.addr ≠ (254 : Byte) ∧
      (wPk (9 : Byte) (5 : Byte) (1 : BitVec 4) false false (3 : Byte) [(2 : BitVec 64)]).hop ≠ (255 : Byte) ∧
      (wPk (9 : Byte) (5 : Byte) (1 : BitVec 4) false false (3 : Byte) [(2 : BitVec 64)]).src =
        (wKl KlRx.up).kl.addr ∧
      (wPk (9 : Byte) (5 : Byte) (1 : BitVec 4) false false
        (3 : Byte) [(2 : BitVec 64)]).context ≠ KlContext.blockError ∧
      (wPk (9 : Byte) (5 : Byte) (1 : BitVec 4) false false (3 : Byte) [(2 : BitVec 64)]).dest ≠ (255 : Byte) := by
  and_intros <;> decide +kernel

theorem witness_KwenlinkReceiver_14 :
    ((wKl KlRx.up).kl.rx = KlRx.up ∧ (wKl KlRx.up).rootRuns = true) ∧
      (wKl KlRx.up).kl.addr ≠ (254 : Byte) ∧
      (wPk (255 : Byte) (5 : Byte) (1 : BitVec 4) false false (3 : Byte) [(2 : BitVec 64)]).hop ≠ (255 : Byte) ∧
      (wPk (255 : Byte) (5 : Byte) (1 : BitVec 4) false false (3 : Byte) [(2 : BitVec 64)]).src =
        (wKl KlRx.up).kl.addr ∧
      (wPk (255 : Byte) (5 : Byte) (1 : BitVec 4) false false
        (3 : Byte) [(2 : BitVec 64)]).context ≠ KlContext.blockError ∧
      (wPk (255 : Byte) (5 : Byte) (1 : BitVec 4) false false (3 : Byte) [(2 : BitVec 64)]).dest = (255 : Byte) := by
  and_intros <;> decide +kernel

theorem witness_KwenlinkReceiver_15 :
    ((wCtx (KlCtx.filling [(4294967296 : BitVec 64)]) []).kl.rx = KlRx.up ∧ (wCtx
      (KlCtx.filling [(4294967296 : BitVec 64)]) []).rootRuns = true) ∧
      (wCtx (KlCtx.filling [(4294967296 : BitVec 64)]) []).kl.ctx = KlCtx.filling [(4294967296 : BitVec 64)] ∧
      ([] : List Byte).length < (BitVec.extractLsb' (32 : ℕ) (10 : ℕ) (4294967296 : BitVec 64)).toNat ∧
      (¬(BitVec.extractLsb' (24 : ℕ) (8 : ℕ) (4294967296 : BitVec 64) = (255 : BitVec 8) ∨ (wCtx
        (KlCtx.filling [(4294967296 : BitVec 64)]) []).kl.addr ≠ (254 : Byte) ∧ (BitVec.extractLsb' (48 : ℕ)
        (8 : ℕ) (4294967296 : BitVec 64) = (wCtx (KlCtx.filling [(4294967296 : BitVec 64)]) []).kl.addr ∨
        BitVec.extractLsb' (56 : ℕ) (8 : ℕ) (4294967296 : BitVec 64) = (wCtx
        (KlCtx.filling [(4294967296 : BitVec 64)]) []).kl.addr))) := by
  and_intros <;> decide +kernel

theorem witness_KwenlinkReceiver_16 :
    ((wCtx (KlCtx.filling [(360287978779574272 : BitVec 64), (7 : BitVec 64)]) []).kl.rx = KlRx.up ∧ (wCtx
      (KlCtx.filling [(360287978779574272 : BitVec 64), (7 : BitVec 64)]) []).rootRuns = true) ∧
      (wCtx (KlCtx.filling [(360287978779574272 : BitVec 64), (7 : BitVec 64)]) []).kl.ctx =
        KlCtx.filling [(360287978779574272 : BitVec 64), (7 : BitVec 64)] ∧
      [(7 : BitVec 64)].length < (BitVec.extractLsb' (32 : ℕ) (10 : ℕ) (360287978779574272 : BitVec 64)).toNat ∧
      (BitVec.extractLsb' (24 : ℕ) (8 : ℕ) (360287978779574272 : BitVec 64) = (255 : BitVec 8) ∨ (wCtx
        (KlCtx.filling [(360287978779574272 : BitVec 64), (7 : BitVec 64)]) []).kl.addr ≠ (254 : Byte) ∧
        (BitVec.extractLsb' (48 : ℕ) (8 : ℕ) (360287978779574272 : BitVec 64) = (wCtx
        (KlCtx.filling [(360287978779574272 : BitVec 64), (7 : BitVec 64)]) []).kl.addr ∨ BitVec.extractLsb'
        (56 : ℕ) (8 : ℕ) (360287978779574272 : BitVec 64) = (wCtx (KlCtx.filling [(360287978779574272 : BitVec 64),
        (7 : BitVec 64)]) []).kl.addr)) := by
  and_intros <;> decide +kernel

theorem witness_KwenlinkReceiver_17 :
    ((wCtx (KlCtx.filling [(360287974484606976 : BitVec 64), (7 : BitVec 64)]) []).kl.rx = KlRx.up ∧ (wCtx
      (KlCtx.filling [(360287974484606976 : BitVec 64), (7 : BitVec 64)]) []).rootRuns = true) ∧
      (wCtx (KlCtx.filling [(360287974484606976 : BitVec 64), (7 : BitVec 64)]) []).kl.ctx =
        KlCtx.filling [(360287974484606976 : BitVec 64), (7 : BitVec 64)] ∧
      (BitVec.extractLsb' (32 : ℕ) (10 : ℕ) (360287974484606976 : BitVec 64)).toNat ≤ [(7 : BitVec 64)].length ∧
      (BitVec.extractLsb' (24 : ℕ) (8 : ℕ) (360287974484606976 : BitVec 64) = (255 : BitVec 8) ∨ (wCtx
        (KlCtx.filling [(360287974484606976 : BitVec 64), (7 : BitVec 64)]) []).kl.addr ≠ (254 : Byte) ∧
        (BitVec.extractLsb' (48 : ℕ) (8 : ℕ) (360287974484606976 : BitVec 64) = (wCtx
        (KlCtx.filling [(360287974484606976 : BitVec 64), (7 : BitVec 64)]) []).kl.addr ∨ BitVec.extractLsb'
        (56 : ℕ) (8 : ℕ) (360287974484606976 : BitVec 64) = (wCtx (KlCtx.filling [(360287974484606976 : BitVec 64),
        (7 : BitVec 64)]) []).kl.addr)) := by
  and_intros <;> decide +kernel

theorem witness_KwenlinkReceiver_18 :
    ((wKl KlRx.up).kl.rx = KlRx.up ∧ (wKl KlRx.up).rootRuns = true) ∧
      (wKl KlRx.up).kl.addr ≠ (254 : Byte) ∧
      (wPk (5 : Byte) (254 : Byte) (8 : BitVec 4) true false (3 : Byte) []).hop ≠ (255 : Byte) ∧
      (wPk (5 : Byte) (254 : Byte) (8 : BitVec 4) true false (3 : Byte) []).src ≠ (wKl KlRx.up).kl.addr ∧
      (wPk (5 : Byte) (254 : Byte) (8 : BitVec 4) true false (3 : Byte) []).dest = (wKl KlRx.up).kl.addr ∧
      ((wKl KlRx.up).modes.mode ≠ Mode.reset ∧ (wKl KlRx.up).modes.mode ≠ Mode.boot ∧
        (wKl KlRx.up).modes.mode ≠ Mode.enumerate) ∧
      (¬((wPk (5 : Byte) (254 : Byte) (8 : BitVec 4) true false (3 : Byte) []).context ≠ KlContext.whole ∨ (wPk
        (5 : Byte) (254 : Byte) (8 : BitVec 4) true false (3 : Byte) []).kind = (0 : BitVec 4) ∨ (9 : ℕ) < (wPk
        (5 : Byte) (254 : Byte) (8 : BitVec 4) true false (3 : Byte) []).kind.toNat ∨ (512 : ℕ) < (wPk (5 : Byte)
        (254 : Byte) (8 : BitVec 4) true false (3 : Byte) []).len.toNat) ∧ ¬((wPk (5 : Byte) (254 : Byte)
        (8 : BitVec 4) true false (3 : Byte) []).len.toNat ≠ (wPk (5 : Byte) (254 : Byte) (8 : BitVec 4) true false
        (3 : Byte) []).payload.length ∨ (wPk (5 : Byte) (254 : Byte) (8 : BitVec 4) true false
        (3 : Byte) []).crc ≠ klCrc (wPk (5 : Byte) (254 : Byte) (8 : BitVec 4) true false (3 : Byte) []))) ∧
      (wPk (5 : Byte) (254 : Byte) (8 : BitVec 4) true false (3 : Byte) []).urg = true ∧
      (wPk (5 : Byte) (254 : Byte) (8 : BitVec 4) true false (3 : Byte) []).kind.toNat = (8 : ℕ) := by
  and_intros <;> decide +kernel

theorem witness_KwenlinkReceiver_19 :
    ((wKl KlRx.up).kl.rx = KlRx.up ∧ (wKl KlRx.up).rootRuns = true) ∧
      (wKl KlRx.up).kl.addr ≠ (254 : Byte) ∧
      (wPk (5 : Byte) (254 : Byte) (8 : BitVec 4) false false (3 : Byte) []).hop ≠ (255 : Byte) ∧
      (wPk (5 : Byte) (254 : Byte) (8 : BitVec 4) false false (3 : Byte) []).src ≠ (wKl KlRx.up).kl.addr ∧
      (wPk (5 : Byte) (254 : Byte) (8 : BitVec 4) false false (3 : Byte) []).dest = (wKl KlRx.up).kl.addr ∧
      ((wKl KlRx.up).modes.mode ≠ Mode.reset ∧ (wKl KlRx.up).modes.mode ≠ Mode.boot ∧
        (wKl KlRx.up).modes.mode ≠ Mode.enumerate) ∧
      (¬((wPk (5 : Byte) (254 : Byte) (8 : BitVec 4) false false (3 : Byte) []).context ≠ KlContext.whole ∨ (wPk
        (5 : Byte) (254 : Byte) (8 : BitVec 4) false false (3 : Byte) []).kind = (0 : BitVec 4) ∨ (9 : ℕ) < (wPk
        (5 : Byte) (254 : Byte) (8 : BitVec 4) false false (3 : Byte) []).kind.toNat ∨ (512 : ℕ) < (wPk (5 : Byte)
        (254 : Byte) (8 : BitVec 4) false false (3 : Byte) []).len.toNat) ∧ ¬((wPk (5 : Byte) (254 : Byte)
        (8 : BitVec 4) false false (3 : Byte) []).len.toNat ≠ (wPk (5 : Byte) (254 : Byte)
        (8 : BitVec 4) false false (3 : Byte) []).payload.length ∨ (wPk (5 : Byte) (254 : Byte)
        (8 : BitVec 4) false false (3 : Byte) []).crc ≠ klCrc (wPk (5 : Byte) (254 : Byte)
        (8 : BitVec 4) false false (3 : Byte) []))) ∧
      (wPk (5 : Byte) (254 : Byte) (8 : BitVec 4) false false (3 : Byte) []).urg = false ∧
      (wPk (5 : Byte) (254 : Byte) (8 : BitVec 4) false false (3 : Byte) []).kind.toNat = (8 : ℕ) := by
  and_intros <;> decide +kernel

theorem witness_KwenlinkReceiver_20 :
    ((wKl KlRx.up).kl.rx = KlRx.up ∧ (wKl KlRx.up).rootRuns = true) ∧
      (wKl KlRx.up).kl.addr ≠ (254 : Byte) ∧
      (wPk (5 : Byte) (254 : Byte) (7 : BitVec 4) false false (3 : Byte) [(5 : BitVec 64)]).hop ≠ (255 : Byte) ∧
      (wPk (5 : Byte) (254 : Byte) (7 : BitVec 4) false false (3 : Byte) [(5 : BitVec 64)]).src ≠
        (wKl KlRx.up).kl.addr ∧
      (wPk (5 : Byte) (254 : Byte) (7 : BitVec 4) false false (3 : Byte) [(5 : BitVec 64)]).dest =
        (wKl KlRx.up).kl.addr ∧
      ((wKl KlRx.up).modes.mode ≠ Mode.reset ∧ (wKl KlRx.up).modes.mode ≠ Mode.boot ∧
        (wKl KlRx.up).modes.mode ≠ Mode.enumerate) ∧
      (¬((wPk (5 : Byte) (254 : Byte) (7 : BitVec 4) false false
        (3 : Byte) [(5 : BitVec 64)]).context ≠ KlContext.whole ∨ (wPk (5 : Byte) (254 : Byte)
        (7 : BitVec 4) false false (3 : Byte) [(5 : BitVec 64)]).kind = (0 : BitVec 4) ∨ (9 : ℕ) < (wPk (5 : Byte)
        (254 : Byte) (7 : BitVec 4) false false (3 : Byte) [(5 : BitVec 64)]).kind.toNat ∨ (512 : ℕ) < (wPk
        (5 : Byte) (254 : Byte) (7 : BitVec 4) false false (3 : Byte) [(5 : BitVec 64)]).len.toNat) ∧ ¬((wPk
        (5 : Byte) (254 : Byte) (7 : BitVec 4) false false (3 : Byte) [(5 : BitVec 64)]).len.toNat ≠ (wPk
        (5 : Byte) (254 : Byte) (7 : BitVec 4) false false (3 : Byte) [(5 : BitVec 64)]).payload.length ∨ (wPk
        (5 : Byte) (254 : Byte) (7 : BitVec 4) false false (3 : Byte) [(5 : BitVec 64)]).crc ≠ klCrc (wPk
        (5 : Byte) (254 : Byte) (7 : BitVec 4) false false (3 : Byte) [(5 : BitVec 64)]))) ∧
      (wPk (5 : Byte) (254 : Byte) (7 : BitVec 4) false false (3 : Byte) [(5 : BitVec 64)]).kind.toNat = (7 : ℕ) := by
  and_intros <;> decide +kernel

theorem witness_KwenlinkReceiver_21 :
    (wKwenlinkReceiver2.kl.rx = KlRx.up ∧ wKwenlinkReceiver2.rootRuns = true) ∧
      wKwenlinkReceiver2.kl.addr ≠ (254 : Byte) ∧
      (wPk (5 : Byte) (254 : Byte) (1 : BitVec 4) false false (3 : Byte) [(2 : BitVec 64)]).hop ≠ (255 : Byte) ∧
      (wPk (5 : Byte) (254 : Byte) (1 : BitVec 4) false false
        (3 : Byte) [(2 : BitVec 64)]).src ≠ wKwenlinkReceiver2.kl.addr ∧
      (wPk (5 : Byte) (254 : Byte) (1 : BitVec 4) false false (3 : Byte) [(2 : BitVec 64)]).dest =
        wKwenlinkReceiver2.kl.addr ∧
      (wKwenlinkReceiver2.modes.mode = Mode.boot ∨ wKwenlinkReceiver2.modes.mode = Mode.enumerate) ∧
      (¬((wPk (5 : Byte) (254 : Byte) (1 : BitVec 4) false false
        (3 : Byte) [(2 : BitVec 64)]).context ≠ KlContext.whole ∨ (wPk (5 : Byte) (254 : Byte)
        (1 : BitVec 4) false false (3 : Byte) [(2 : BitVec 64)]).kind = (0 : BitVec 4) ∨ (9 : ℕ) < (wPk (5 : Byte)
        (254 : Byte) (1 : BitVec 4) false false (3 : Byte) [(2 : BitVec 64)]).kind.toNat ∨ (512 : ℕ) < (wPk
        (5 : Byte) (254 : Byte) (1 : BitVec 4) false false (3 : Byte) [(2 : BitVec 64)]).len.toNat) ∧ ¬((wPk
        (5 : Byte) (254 : Byte) (1 : BitVec 4) false false (3 : Byte) [(2 : BitVec 64)]).len.toNat ≠ (wPk
        (5 : Byte) (254 : Byte) (1 : BitVec 4) false false (3 : Byte) [(2 : BitVec 64)]).payload.length ∨ (wPk
        (5 : Byte) (254 : Byte) (1 : BitVec 4) false false (3 : Byte) [(2 : BitVec 64)]).crc ≠ klCrc (wPk
        (5 : Byte) (254 : Byte) (1 : BitVec 4) false false (3 : Byte) [(2 : BitVec 64)]))) ∧
      (wPk (5 : Byte) (254 : Byte) (1 : BitVec 4) false false (3 : Byte) [(2 : BitVec 64)]).kind ≠
        (4 : BitVec 4) := by
  and_intros <;> decide +kernel

theorem witness_KwenlinkReceiver_22 :
    ((wKl KlRx.up).kl.rx = KlRx.up ∧ (wKl KlRx.up).rootRuns = true) ∧
      (wKl KlRx.up).kl.addr ≠ (254 : Byte) ∧
      (wPk (5 : Byte) (254 : Byte) (5 : BitVec 4) false false (3 : Byte) [(16777481 : BitVec 64)]).hop ≠
        (255 : Byte) ∧
      (wPk (5 : Byte) (254 : Byte) (5 : BitVec 4) false false (3 : Byte) [(16777481 : BitVec 64)]).src ≠
        (wKl KlRx.up).kl.addr ∧
      (wPk (5 : Byte) (254 : Byte) (5 : BitVec 4) false false (3 : Byte) [(16777481 : BitVec 64)]).dest =
        (wKl KlRx.up).kl.addr ∧
      ((wKl KlRx.up).modes.mode ≠ Mode.reset ∧ (wKl KlRx.up).modes.mode ≠ Mode.boot ∧
        (wKl KlRx.up).modes.mode ≠ Mode.enumerate) ∧
      (¬((wPk (5 : Byte) (254 : Byte) (5 : BitVec 4) false false
        (3 : Byte) [(16777481 : BitVec 64)]).context ≠ KlContext.whole ∨ (wPk (5 : Byte) (254 : Byte)
        (5 : BitVec 4) false false (3 : Byte) [(16777481 : BitVec 64)]).kind = (0 : BitVec 4) ∨ (9 : ℕ) < (wPk
        (5 : Byte) (254 : Byte) (5 : BitVec 4) false false (3 : Byte) [(16777481 : BitVec 64)]).kind.toNat ∨
        (512 : ℕ) < (wPk (5 : Byte) (254 : Byte) (5 : BitVec 4) false false
        (3 : Byte) [(16777481 : BitVec 64)]).len.toNat) ∧ ¬((wPk (5 : Byte) (254 : Byte) (5 : BitVec 4) false false
        (3 : Byte) [(16777481 : BitVec 64)]).len.toNat ≠ (wPk (5 : Byte) (254 : Byte) (5 : BitVec 4) false false
        (3 : Byte) [(16777481 : BitVec 64)]).payload.length ∨ (wPk (5 : Byte) (254 : Byte)
        (5 : BitVec 4) false false (3 : Byte) [(16777481 : BitVec 64)]).crc ≠ klCrc (wPk (5 : Byte) (254 : Byte)
        (5 : BitVec 4) false false (3 : Byte) [(16777481 : BitVec 64)]))) ∧
      (wPk (5 : Byte) (254 : Byte) (5 : BitVec 4) false false (3 : Byte) [(16777481 : BitVec 64)]).resp = false ∧
      (wPk (5 : Byte) (254 : Byte) (5 : BitVec 4) false false (3 : Byte) [(16777481 : BitVec 64)]).kind.toNat =
        (5 : ℕ) := by
  and_intros <;> decide +kernel

theorem witness_KwenlinkReceiver_23 :
    ((wKl KlRx.up).kl.rx = KlRx.up ∧ (wKl KlRx.up).rootRuns = true) ∧
      (wKl KlRx.up).kl.addr ≠ (254 : Byte) ∧
      (wPk (5 : Byte) (254 : Byte) (9 : BitVec 4) false false (3 : Byte) [(2 : BitVec 64)]).hop ≠ (255 : Byte) ∧
      (wPk (5 : Byte) (254 : Byte) (9 : BitVec 4) false false (3 : Byte) [(2 : BitVec 64)]).src ≠
        (wKl KlRx.up).kl.addr ∧
      (wPk (5 : Byte) (254 : Byte) (9 : BitVec 4) false false (3 : Byte) [(2 : BitVec 64)]).dest =
        (wKl KlRx.up).kl.addr ∧
      ((wKl KlRx.up).modes.mode ≠ Mode.reset ∧ (wKl KlRx.up).modes.mode ≠ Mode.boot ∧
        (wKl KlRx.up).modes.mode ≠ Mode.enumerate) ∧
      (¬((wPk (5 : Byte) (254 : Byte) (9 : BitVec 4) false false
        (3 : Byte) [(2 : BitVec 64)]).context ≠ KlContext.whole ∨ (wPk (5 : Byte) (254 : Byte)
        (9 : BitVec 4) false false (3 : Byte) [(2 : BitVec 64)]).kind = (0 : BitVec 4) ∨ (9 : ℕ) < (wPk (5 : Byte)
        (254 : Byte) (9 : BitVec 4) false false (3 : Byte) [(2 : BitVec 64)]).kind.toNat ∨ (512 : ℕ) < (wPk
        (5 : Byte) (254 : Byte) (9 : BitVec 4) false false (3 : Byte) [(2 : BitVec 64)]).len.toNat) ∧ ¬((wPk
        (5 : Byte) (254 : Byte) (9 : BitVec 4) false false (3 : Byte) [(2 : BitVec 64)]).len.toNat ≠ (wPk
        (5 : Byte) (254 : Byte) (9 : BitVec 4) false false (3 : Byte) [(2 : BitVec 64)]).payload.length ∨ (wPk
        (5 : Byte) (254 : Byte) (9 : BitVec 4) false false (3 : Byte) [(2 : BitVec 64)]).crc ≠ klCrc (wPk
        (5 : Byte) (254 : Byte) (9 : BitVec 4) false false (3 : Byte) [(2 : BitVec 64)]))) ∧
      (wPk (5 : Byte) (254 : Byte) (9 : BitVec 4) false false (3 : Byte) [(2 : BitVec 64)]).kind = (9 : BitVec 4) ∧
      (2 : ℕ) ≤ (BitVec.extractLsb' (0 : ℕ) (4 : ℕ) ((wPk (5 : Byte) (254 : Byte) (9 : BitVec 4) false false
        (3 : Byte) [(2 : BitVec 64)]).payload.getD (0 : ℕ) (0 : BitVec 64))).toNat := by
  and_intros <;> decide +kernel

theorem witness_KwenlinkReceiver_24 :
    ((wKl KlRx.up).kl.rx = KlRx.up ∧ (wKl KlRx.up).rootRuns = true) ∧
      (wKl KlRx.up).kl.addr ≠ (254 : Byte) ∧
      (wPk (5 : Byte) (254 : Byte) (4 : BitVec 4) false false (3 : Byte) [(21491613696 : BitVec 64)]).hop ≠
        (255 : Byte) ∧
      (wPk (5 : Byte) (254 : Byte) (4 : BitVec 4) false false (3 : Byte) [(21491613696 : BitVec 64)]).src ≠
        (wKl KlRx.up).kl.addr ∧
      (wPk (5 : Byte) (254 : Byte) (4 : BitVec 4) false false (3 : Byte) [(21491613696 : BitVec 64)]).dest =
        (wKl KlRx.up).kl.addr ∧
      ((wKl KlRx.up).modes.mode ≠ Mode.reset ∧ (wKl KlRx.up).modes.mode ≠ Mode.boot ∧
        (wKl KlRx.up).modes.mode ≠ Mode.enumerate) ∧
      (¬((wPk (5 : Byte) (254 : Byte) (4 : BitVec 4) false false
        (3 : Byte) [(21491613696 : BitVec 64)]).context ≠ KlContext.whole ∨ (wPk (5 : Byte) (254 : Byte)
        (4 : BitVec 4) false false (3 : Byte) [(21491613696 : BitVec 64)]).kind = (0 : BitVec 4) ∨ (9 : ℕ) < (wPk
        (5 : Byte) (254 : Byte) (4 : BitVec 4) false false (3 : Byte) [(21491613696 : BitVec 64)]).kind.toNat ∨
        (512 : ℕ) < (wPk (5 : Byte) (254 : Byte) (4 : BitVec 4) false false
        (3 : Byte) [(21491613696 : BitVec 64)]).len.toNat) ∧ ¬((wPk (5 : Byte) (254 : Byte)
        (4 : BitVec 4) false false (3 : Byte) [(21491613696 : BitVec 64)]).len.toNat ≠ (wPk (5 : Byte) (254 : Byte)
        (4 : BitVec 4) false false (3 : Byte) [(21491613696 : BitVec 64)]).payload.length ∨ (wPk (5 : Byte)
        (254 : Byte) (4 : BitVec 4) false false (3 : Byte) [(21491613696 : BitVec 64)]).crc ≠ klCrc (wPk (5 : Byte)
        (254 : Byte) (4 : BitVec 4) false false (3 : Byte) [(21491613696 : BitVec 64)]))) ∧
      (wPk (5 : Byte) (254 : Byte) (4 : BitVec 4) false false (3 : Byte) [(21491613696 : BitVec 64)]).resp = false ∧
      (wPk (5 : Byte) (254 : Byte) (4 : BitVec 4) false false (3 : Byte) [(21491613696 : BitVec 64)]).kind.toNat =
        (4 : ℕ) := by
  and_intros <;> decide +kernel

theorem witness_KwenlinkReceiver_25 :
    (wKwenlinkReceiver2.kl.rx = KlRx.up ∧ wKwenlinkReceiver2.rootRuns = true) ∧
      wKwenlinkReceiver2.kl.addr ≠ (254 : Byte) ∧
      (wPk (5 : Byte) (254 : Byte) (4 : BitVec 4) false false (3 : Byte) [(21491613961 : BitVec 64)]).hop ≠
        (255 : Byte) ∧
      (wPk (5 : Byte) (254 : Byte) (4 : BitVec 4) false false
        (3 : Byte) [(21491613961 : BitVec 64)]).src ≠ wKwenlinkReceiver2.kl.addr ∧
      (wPk (5 : Byte) (254 : Byte) (4 : BitVec 4) false false (3 : Byte) [(21491613961 : BitVec 64)]).dest =
        wKwenlinkReceiver2.kl.addr ∧
      (wKwenlinkReceiver2.modes.mode = Mode.boot ∨ wKwenlinkReceiver2.modes.mode = Mode.enumerate) ∧
      (¬((wPk (5 : Byte) (254 : Byte) (4 : BitVec 4) false false
        (3 : Byte) [(21491613961 : BitVec 64)]).context ≠ KlContext.whole ∨ (wPk (5 : Byte) (254 : Byte)
        (4 : BitVec 4) false false (3 : Byte) [(21491613961 : BitVec 64)]).kind = (0 : BitVec 4) ∨ (9 : ℕ) < (wPk
        (5 : Byte) (254 : Byte) (4 : BitVec 4) false false (3 : Byte) [(21491613961 : BitVec 64)]).kind.toNat ∨
        (512 : ℕ) < (wPk (5 : Byte) (254 : Byte) (4 : BitVec 4) false false
        (3 : Byte) [(21491613961 : BitVec 64)]).len.toNat) ∧ ¬((wPk (5 : Byte) (254 : Byte)
        (4 : BitVec 4) false false (3 : Byte) [(21491613961 : BitVec 64)]).len.toNat ≠ (wPk (5 : Byte) (254 : Byte)
        (4 : BitVec 4) false false (3 : Byte) [(21491613961 : BitVec 64)]).payload.length ∨ (wPk (5 : Byte)
        (254 : Byte) (4 : BitVec 4) false false (3 : Byte) [(21491613961 : BitVec 64)]).crc ≠ klCrc (wPk (5 : Byte)
        (254 : Byte) (4 : BitVec 4) false false (3 : Byte) [(21491613961 : BitVec 64)]))) ∧
      (wPk (5 : Byte) (254 : Byte) (4 : BitVec 4) false false (3 : Byte) [(21491613961 : BitVec 64)]).resp = false ∧
      wKwenlinkReceiver2.boot.failed = false ∧
      (wPk (5 : Byte) (254 : Byte) (4 : BitVec 4) false false (3 : Byte) [(21491613961 : BitVec 64)]).kind.toNat =
        (4 : ℕ) := by
  and_intros <;> decide +kernel

theorem witness_KwenlinkReceiver_26 :
    ((wKl KlRx.up).kl.rx = KlRx.up ∧ (wKl KlRx.up).rootRuns = true) ∧
      (wKl KlRx.up).kl.addr ≠ (254 : Byte) ∧
      (wPk (5 : Byte) (254 : Byte) (6 : BitVec 4) false false (3 : Byte) [(7 : BitVec 64),
        (131075 : BitVec 64)]).hop ≠ (255 : Byte) ∧
      (wPk (5 : Byte) (254 : Byte) (6 : BitVec 4) false false (3 : Byte) [(7 : BitVec 64),
        (131075 : BitVec 64)]).src ≠ (wKl KlRx.up).kl.addr ∧
      (wPk (5 : Byte) (254 : Byte) (6 : BitVec 4) false false (3 : Byte) [(7 : BitVec 64),
        (131075 : BitVec 64)]).dest = (wKl KlRx.up).kl.addr ∧
      ((wKl KlRx.up).modes.mode ≠ Mode.reset ∧ (wKl KlRx.up).modes.mode ≠ Mode.boot ∧
        (wKl KlRx.up).modes.mode ≠ Mode.enumerate) ∧
      (¬((wPk (5 : Byte) (254 : Byte) (6 : BitVec 4) false false (3 : Byte) [(7 : BitVec 64),
        (131075 : BitVec 64)]).context ≠ KlContext.whole ∨ (wPk (5 : Byte) (254 : Byte) (6 : BitVec 4) false false
        (3 : Byte) [(7 : BitVec 64), (131075 : BitVec 64)]).kind = (0 : BitVec 4) ∨ (9 : ℕ) < (wPk (5 : Byte)
        (254 : Byte) (6 : BitVec 4) false false (3 : Byte) [(7 : BitVec 64), (131075 : BitVec 64)]).kind.toNat ∨
        (512 : ℕ) < (wPk (5 : Byte) (254 : Byte) (6 : BitVec 4) false false (3 : Byte) [(7 : BitVec 64),
        (131075 : BitVec 64)]).len.toNat) ∧ ¬((wPk (5 : Byte) (254 : Byte) (6 : BitVec 4) false false
        (3 : Byte) [(7 : BitVec 64), (131075 : BitVec 64)]).len.toNat ≠ (wPk (5 : Byte) (254 : Byte)
        (6 : BitVec 4) false false (3 : Byte) [(7 : BitVec 64), (131075 : BitVec 64)]).payload.length ∨ (wPk
        (5 : Byte) (254 : Byte) (6 : BitVec 4) false false (3 : Byte) [(7 : BitVec 64),
        (131075 : BitVec 64)]).crc ≠ klCrc (wPk (5 : Byte) (254 : Byte) (6 : BitVec 4) false false
        (3 : Byte) [(7 : BitVec 64), (131075 : BitVec 64)]))) ∧
      (wPk (5 : Byte) (254 : Byte) (6 : BitVec 4) false false (3 : Byte) [(7 : BitVec 64),
        (131075 : BitVec 64)]).kind.toNat = (6 : ℕ) := by
  and_intros <;> decide +kernel

theorem witness_KwenlinkReceiver_27 :
    ((wKl KlRx.up).kl.rx = KlRx.up ∧ (wKl KlRx.up).rootRuns = true) ∧
      (wKl KlRx.up).kl.addr ≠ (254 : Byte) ∧
      ((wPacket (5 : Byte) (3 : Byte) fun
        (p : KlPacket) => { context := KlContext.aborted, dest := p.dest, src := p.src, kind := p.kind, urg := p.urg, resp := p.resp, len := p.len, hop := p.hop, seq := p.seq, payload := p.payload, crc := p.crc : KlPacket }).hop ≠ (255 : Byte)) ∧
      ((wPacket (5 : Byte) (3 : Byte) fun
        (p : KlPacket) => { context := KlContext.aborted, dest := p.dest, src := p.src, kind := p.kind, urg := p.urg, resp := p.resp, len := p.len, hop := p.hop, seq := p.seq, payload := p.payload, crc := p.crc : KlPacket }).src ≠ (wKl KlRx.up).kl.addr) ∧
      ((wPacket (5 : Byte) (3 : Byte) fun
        (p : KlPacket) => { context := KlContext.aborted, dest := p.dest, src := p.src, kind := p.kind, urg := p.urg, resp := p.resp, len := p.len, hop := p.hop, seq := p.seq, payload := p.payload, crc := p.crc : KlPacket }).dest = (wKl KlRx.up).kl.addr) ∧
      ((wPacket (5 : Byte) (3 : Byte) fun
        (p : KlPacket) => { context := KlContext.aborted, dest := p.dest, src := p.src, kind := p.kind, urg := p.urg, resp := p.resp, len := p.len, hop := p.hop, seq := p.seq, payload := p.payload, crc := p.crc : KlPacket }).context ≠ KlContext.whole ∨ (wPacket (5 : Byte) (3 : Byte) fun (p : KlPacket) => { context := KlContext.aborted, dest := p.dest, src := p.src, kind := p.kind, urg := p.urg, resp := p.resp, len := p.len, hop := p.hop, seq := p.seq, payload := p.payload, crc := p.crc : KlPacket }).kind = (0 : BitVec 4) ∨ (9 : ℕ) < (wPacket (5 : Byte) (3 : Byte) fun (p : KlPacket) => { context := KlContext.aborted, dest := p.dest, src := p.src, kind := p.kind, urg := p.urg, resp := p.resp, len := p.len, hop := p.hop, seq := p.seq, payload := p.payload, crc := p.crc : KlPacket }).kind.toNat ∨ (512 : ℕ) < (wPacket (5 : Byte) (3 : Byte) fun (p : KlPacket) => { context := KlContext.aborted, dest := p.dest, src := p.src, kind := p.kind, urg := p.urg, resp := p.resp, len := p.len, hop := p.hop, seq := p.seq, payload := p.payload, crc := p.crc : KlPacket }).len.toNat) := by
  and_intros <;> decide +kernel

theorem witness_KwenlinkReceiver_28 :
    (wKwenlinkReceiver1.kl.rx = KlRx.up ∧ wKwenlinkReceiver1.rootRuns = true) ∧
      wKwenlinkReceiver1.kl.addr ≠ (254 : Byte) ∧
      (wPk (5 : Byte) (254 : Byte) (9 : BitVec 4) false false (3 : Byte) [(17592186437888 : BitVec 64)]).hop ≠
        (255 : Byte) ∧
      (wPk (5 : Byte) (254 : Byte) (9 : BitVec 4) false false
        (3 : Byte) [(17592186437888 : BitVec 64)]).src ≠ wKwenlinkReceiver1.kl.addr ∧
      (wPk (5 : Byte) (254 : Byte) (9 : BitVec 4) false false (3 : Byte) [(17592186437888 : BitVec 64)]).dest =
        wKwenlinkReceiver1.kl.addr ∧
      (wKwenlinkReceiver1.modes.mode ≠ Mode.reset ∧ wKwenlinkReceiver1.modes.mode ≠ Mode.boot ∧
        wKwenlinkReceiver1.modes.mode ≠ Mode.enumerate) ∧
      (¬((wPk (5 : Byte) (254 : Byte) (9 : BitVec 4) false false
        (3 : Byte) [(17592186437888 : BitVec 64)]).context ≠ KlContext.whole ∨ (wPk (5 : Byte) (254 : Byte)
        (9 : BitVec 4) false false (3 : Byte) [(17592186437888 : BitVec 64)]).kind = (0 : BitVec 4) ∨ (9 : ℕ) <
        (wPk (5 : Byte) (254 : Byte) (9 : BitVec 4) false false
        (3 : Byte) [(17592186437888 : BitVec 64)]).kind.toNat ∨ (512 : ℕ) < (wPk (5 : Byte) (254 : Byte)
        (9 : BitVec 4) false false (3 : Byte) [(17592186437888 : BitVec 64)]).len.toNat) ∧ ¬((wPk (5 : Byte)
        (254 : Byte) (9 : BitVec 4) false false (3 : Byte) [(17592186437888 : BitVec 64)]).len.toNat ≠ (wPk
        (5 : Byte) (254 : Byte) (9 : BitVec 4) false false
        (3 : Byte) [(17592186437888 : BitVec 64)]).payload.length ∨ (wPk (5 : Byte) (254 : Byte)
        (9 : BitVec 4) false false (3 : Byte) [(17592186437888 : BitVec 64)]).crc ≠ klCrc (wPk (5 : Byte)
        (254 : Byte) (9 : BitVec 4) false false (3 : Byte) [(17592186437888 : BitVec 64)]))) ∧
      BitVec.extractLsb' (0 : ℕ) (4 : ℕ) ((wPk (5 : Byte) (254 : Byte) (9 : BitVec 4) false false
        (3 : Byte) [(17592186437888 : BitVec 64)]).payload.getD (0 : ℕ) (0 : BitVec 64)) = (0 : BitVec 4) ∧
      ((wPk (5 : Byte) (254 : Byte) (9 : BitVec 4) false false
        (3 : Byte) [(17592186437888 : BitVec 64)]).payload.getD (0 : ℕ) (0 : BitVec 64)).getLsbD (8 : ℕ) = true ∧
      (wPk (5 : Byte) (254 : Byte) (9 : BitVec 4) false false (3 : Byte) [(17592186437888 : BitVec 64)]).kind.toNat =
        (9 : ℕ) := by
  and_intros <;> decide +kernel

theorem witness_KwenlinkReceiver_29 :
    (wKwenlinkReceiver1.kl.rx = KlRx.up ∧ wKwenlinkReceiver1.rootRuns = true) ∧
      wKwenlinkReceiver1.kl.addr ≠ (254 : Byte) ∧
      (wPk (5 : Byte) (254 : Byte) (9 : BitVec 4) false false (3 : Byte) [(17592186437632 : BitVec 64)]).hop ≠
        (255 : Byte) ∧
      (wPk (5 : Byte) (254 : Byte) (9 : BitVec 4) false false
        (3 : Byte) [(17592186437632 : BitVec 64)]).src ≠ wKwenlinkReceiver1.kl.addr ∧
      (wPk (5 : Byte) (254 : Byte) (9 : BitVec 4) false false (3 : Byte) [(17592186437632 : BitVec 64)]).dest =
        wKwenlinkReceiver1.kl.addr ∧
      (wKwenlinkReceiver1.modes.mode ≠ Mode.reset ∧ wKwenlinkReceiver1.modes.mode ≠ Mode.boot ∧
        wKwenlinkReceiver1.modes.mode ≠ Mode.enumerate) ∧
      (¬((wPk (5 : Byte) (254 : Byte) (9 : BitVec 4) false false
        (3 : Byte) [(17592186437632 : BitVec 64)]).context ≠ KlContext.whole ∨ (wPk (5 : Byte) (254 : Byte)
        (9 : BitVec 4) false false (3 : Byte) [(17592186437632 : BitVec 64)]).kind = (0 : BitVec 4) ∨ (9 : ℕ) <
        (wPk (5 : Byte) (254 : Byte) (9 : BitVec 4) false false
        (3 : Byte) [(17592186437632 : BitVec 64)]).kind.toNat ∨ (512 : ℕ) < (wPk (5 : Byte) (254 : Byte)
        (9 : BitVec 4) false false (3 : Byte) [(17592186437632 : BitVec 64)]).len.toNat) ∧ ¬((wPk (5 : Byte)
        (254 : Byte) (9 : BitVec 4) false false (3 : Byte) [(17592186437632 : BitVec 64)]).len.toNat ≠ (wPk
        (5 : Byte) (254 : Byte) (9 : BitVec 4) false false
        (3 : Byte) [(17592186437632 : BitVec 64)]).payload.length ∨ (wPk (5 : Byte) (254 : Byte)
        (9 : BitVec 4) false false (3 : Byte) [(17592186437632 : BitVec 64)]).crc ≠ klCrc (wPk (5 : Byte)
        (254 : Byte) (9 : BitVec 4) false false (3 : Byte) [(17592186437632 : BitVec 64)]))) ∧
      BitVec.extractLsb' (0 : ℕ) (4 : ℕ) ((wPk (5 : Byte) (254 : Byte) (9 : BitVec 4) false false
        (3 : Byte) [(17592186437632 : BitVec 64)]).payload.getD (0 : ℕ) (0 : BitVec 64)) = (0 : BitVec 4) ∧
      ((wPk (5 : Byte) (254 : Byte) (9 : BitVec 4) false false
        (3 : Byte) [(17592186437632 : BitVec 64)]).payload.getD (0 : ℕ) (0 : BitVec 64)).getLsbD (8 : ℕ) = false ∧
      (wPk (5 : Byte) (254 : Byte) (9 : BitVec 4) false false (3 : Byte) [(17592186437632 : BitVec 64)]).kind.toNat =
        (9 : ℕ) := by
  and_intros <;> decide +kernel

theorem witness_KwenlinkReceiver_30 :
    ((wKl KlRx.up).kl.rx = KlRx.up ∧ (wKl KlRx.up).rootRuns = true) ∧
      (wKl KlRx.up).kl.addr ≠ (254 : Byte) ∧
      (wPk (5 : Byte) (254 : Byte) (4 : BitVec 4) false true (3 : Byte) [(0 : BitVec 64)]).hop ≠ (255 : Byte) ∧
      (wPk (5 : Byte) (254 : Byte) (4 : BitVec 4) false true (3 : Byte) [(0 : BitVec 64)]).src ≠
        (wKl KlRx.up).kl.addr ∧
      (wPk (5 : Byte) (254 : Byte) (4 : BitVec 4) false true (3 : Byte) [(0 : BitVec 64)]).dest =
        (wKl KlRx.up).kl.addr ∧
      ((wKl KlRx.up).modes.mode ≠ Mode.reset ∧ (wKl KlRx.up).modes.mode ≠ Mode.boot ∧
        (wKl KlRx.up).modes.mode ≠ Mode.enumerate) ∧
      (¬((wPk (5 : Byte) (254 : Byte) (4 : BitVec 4) false true
        (3 : Byte) [(0 : BitVec 64)]).context ≠ KlContext.whole ∨ (wPk (5 : Byte) (254 : Byte)
        (4 : BitVec 4) false true (3 : Byte) [(0 : BitVec 64)]).kind = (0 : BitVec 4) ∨ (9 : ℕ) < (wPk (5 : Byte)
        (254 : Byte) (4 : BitVec 4) false true (3 : Byte) [(0 : BitVec 64)]).kind.toNat ∨ (512 : ℕ) < (wPk
        (5 : Byte) (254 : Byte) (4 : BitVec 4) false true (3 : Byte) [(0 : BitVec 64)]).len.toNat) ∧ ¬((wPk
        (5 : Byte) (254 : Byte) (4 : BitVec 4) false true (3 : Byte) [(0 : BitVec 64)]).len.toNat ≠ (wPk (5 : Byte)
        (254 : Byte) (4 : BitVec 4) false true (3 : Byte) [(0 : BitVec 64)]).payload.length ∨ (wPk (5 : Byte)
        (254 : Byte) (4 : BitVec 4) false true (3 : Byte) [(0 : BitVec 64)]).crc ≠ klCrc (wPk (5 : Byte)
        (254 : Byte) (4 : BitVec 4) false true (3 : Byte) [(0 : BitVec 64)]))) ∧
      ((wPk (5 : Byte) (254 : Byte) (4 : BitVec 4) false true (3 : Byte) [(0 : BitVec 64)]).kind = (3 : BitVec 4) ∨
        (wPk (5 : Byte) (254 : Byte) (4 : BitVec 4) false true (3 : Byte) [(0 : BitVec 64)]).resp = true ∧ ((wPk
        (5 : Byte) (254 : Byte) (4 : BitVec 4) false true (3 : Byte) [(0 : BitVec 64)]).kind = (4 : BitVec 4) ∨
        (wPk (5 : Byte) (254 : Byte) (4 : BitVec 4) false true (3 : Byte) [(0 : BitVec 64)]).kind = (5 : BitVec 4)) ∨
        (wPk (5 : Byte) (254 : Byte) (4 : BitVec 4) false true (3 : Byte) [(0 : BitVec 64)]).kind = (9 : BitVec 4) ∧
        BitVec.extractLsb' (0 : ℕ) (4 : ℕ) ((wPk (5 : Byte) (254 : Byte) (4 : BitVec 4) false true
        (3 : Byte) [(0 : BitVec 64)]).payload.getD (0 : ℕ) (0 : BitVec 64)) = (1 : BitVec 4)) := by
  and_intros <;> decide +kernel

theorem witness_KwenlinkReceiver_31 :
    ((wKl KlRx.up).kl.rx = KlRx.up ∧ (wKl KlRx.up).rootRuns = true) ∧
      (wKl KlRx.up).kl.addr ≠ (254 : Byte) ∧
      (wPk (5 : Byte) (254 : Byte) (2 : BitVec 4) false false (3 : Byte) [(144115188075855872 : BitVec 64),
        (1234605616436508552 : BitVec 64)]).hop ≠ (255 : Byte) ∧
      (wPk (5 : Byte) (254 : Byte) (2 : BitVec 4) false false (3 : Byte) [(144115188075855872 : BitVec 64),
        (1234605616436508552 : BitVec 64)]).src ≠ (wKl KlRx.up).kl.addr ∧
      (wPk (5 : Byte) (254 : Byte) (2 : BitVec 4) false false (3 : Byte) [(144115188075855872 : BitVec 64),
        (1234605616436508552 : BitVec 64)]).dest = (wKl KlRx.up).kl.addr ∧
      ((wKl KlRx.up).modes.mode ≠ Mode.reset ∧ (wKl KlRx.up).modes.mode ≠ Mode.boot ∧
        (wKl KlRx.up).modes.mode ≠ Mode.enumerate) ∧
      (¬((wPk (5 : Byte) (254 : Byte) (2 : BitVec 4) false false (3 : Byte) [(144115188075855872 : BitVec 64),
        (1234605616436508552 : BitVec 64)]).context ≠ KlContext.whole ∨ (wPk (5 : Byte) (254 : Byte)
        (2 : BitVec 4) false false (3 : Byte) [(144115188075855872 : BitVec 64),
        (1234605616436508552 : BitVec 64)]).kind = (0 : BitVec 4) ∨ (9 : ℕ) < (wPk (5 : Byte) (254 : Byte)
        (2 : BitVec 4) false false (3 : Byte) [(144115188075855872 : BitVec 64),
        (1234605616436508552 : BitVec 64)]).kind.toNat ∨ (512 : ℕ) < (wPk (5 : Byte) (254 : Byte)
        (2 : BitVec 4) false false (3 : Byte) [(144115188075855872 : BitVec 64),
        (1234605616436508552 : BitVec 64)]).len.toNat) ∧ ¬((wPk (5 : Byte) (254 : Byte) (2 : BitVec 4) false false
        (3 : Byte) [(144115188075855872 : BitVec 64), (1234605616436508552 : BitVec 64)]).len.toNat ≠ (wPk
        (5 : Byte) (254 : Byte) (2 : BitVec 4) false false (3 : Byte) [(144115188075855872 : BitVec 64),
        (1234605616436508552 : BitVec 64)]).payload.length ∨ (wPk (5 : Byte) (254 : Byte)
        (2 : BitVec 4) false false (3 : Byte) [(144115188075855872 : BitVec 64),
        (1234605616436508552 : BitVec 64)]).crc ≠ klCrc (wPk (5 : Byte) (254 : Byte) (2 : BitVec 4) false false
        (3 : Byte) [(144115188075855872 : BitVec 64), (1234605616436508552 : BitVec 64)]))) ∧
      BitVec.extractLsb' (62 : ℕ) (2 : ℕ) ((wPk (5 : Byte) (254 : Byte) (2 : BitVec 4) false false
        (3 : Byte) [(144115188075855872 : BitVec 64), (1234605616436508552 : BitVec 64)]).payload.getD (0 : ℕ)
        (0 : BitVec 64)) = (0 : BitVec 2) ∧
      (wPk (5 : Byte) (254 : Byte) (2 : BitVec 4) false false (3 : Byte) [(144115188075855872 : BitVec 64),
        (1234605616436508552 : BitVec 64)]).kind.toNat = (2 : ℕ) := by
  and_intros <;> decide +kernel

theorem witness_KwenlinkReceiver_32 :
    ((wKl KlRx.up).kl.rx = KlRx.up ∧ (wKl KlRx.up).rootRuns = true) ∧
      (wKl KlRx.up).kl.addr ≠ (254 : Byte) ∧
      (wPk (5 : Byte) (254 : Byte) (2 : BitVec 4) false false (3 : Byte) [(4755801206507438080 : BitVec 64),
        (1234605616436508552 : BitVec 64)]).hop ≠ (255 : Byte) ∧
      (wPk (5 : Byte) (254 : Byte) (2 : BitVec 4) false false (3 : Byte) [(4755801206507438080 : BitVec 64),
        (1234605616436508552 : BitVec 64)]).src ≠ (wKl KlRx.up).kl.addr ∧
      (wPk (5 : Byte) (254 : Byte) (2 : BitVec 4) false false (3 : Byte) [(4755801206507438080 : BitVec 64),
        (1234605616436508552 : BitVec 64)]).dest = (wKl KlRx.up).kl.addr ∧
      ((wKl KlRx.up).modes.mode ≠ Mode.reset ∧ (wKl KlRx.up).modes.mode ≠ Mode.boot ∧
        (wKl KlRx.up).modes.mode ≠ Mode.enumerate) ∧
      (¬((wPk (5 : Byte) (254 : Byte) (2 : BitVec 4) false false (3 : Byte) [(4755801206507438080 : BitVec 64),
        (1234605616436508552 : BitVec 64)]).context ≠ KlContext.whole ∨ (wPk (5 : Byte) (254 : Byte)
        (2 : BitVec 4) false false (3 : Byte) [(4755801206507438080 : BitVec 64),
        (1234605616436508552 : BitVec 64)]).kind = (0 : BitVec 4) ∨ (9 : ℕ) < (wPk (5 : Byte) (254 : Byte)
        (2 : BitVec 4) false false (3 : Byte) [(4755801206507438080 : BitVec 64),
        (1234605616436508552 : BitVec 64)]).kind.toNat ∨ (512 : ℕ) < (wPk (5 : Byte) (254 : Byte)
        (2 : BitVec 4) false false (3 : Byte) [(4755801206507438080 : BitVec 64),
        (1234605616436508552 : BitVec 64)]).len.toNat) ∧ ¬((wPk (5 : Byte) (254 : Byte) (2 : BitVec 4) false false
        (3 : Byte) [(4755801206507438080 : BitVec 64), (1234605616436508552 : BitVec 64)]).len.toNat ≠ (wPk
        (5 : Byte) (254 : Byte) (2 : BitVec 4) false false (3 : Byte) [(4755801206507438080 : BitVec 64),
        (1234605616436508552 : BitVec 64)]).payload.length ∨ (wPk (5 : Byte) (254 : Byte)
        (2 : BitVec 4) false false (3 : Byte) [(4755801206507438080 : BitVec 64),
        (1234605616436508552 : BitVec 64)]).crc ≠ klCrc (wPk (5 : Byte) (254 : Byte) (2 : BitVec 4) false false
        (3 : Byte) [(4755801206507438080 : BitVec 64), (1234605616436508552 : BitVec 64)]))) ∧
      BitVec.extractLsb' (62 : ℕ) (2 : ℕ) ((wPk (5 : Byte) (254 : Byte) (2 : BitVec 4) false false
        (3 : Byte) [(4755801206507438080 : BitVec 64), (1234605616436508552 : BitVec 64)]).payload.getD (0 : ℕ)
        (0 : BitVec 64)) = (1 : BitVec 2) ∧
      (wPk (5 : Byte) (254 : Byte) (2 : BitVec 4) false false (3 : Byte) [(4755801206507438080 : BitVec 64),
        (1234605616436508552 : BitVec 64)]).kind.toNat = (2 : ℕ) := by
  and_intros <;> decide +kernel

theorem witness_KwenlinkReceiver_33 :
    ((wKl KlRx.up).kl.rx = KlRx.up ∧ (wKl KlRx.up).rootRuns = true) ∧
      (wKl KlRx.up).kl.addr ≠ (254 : Byte) ∧
      ((wPacket (5 : Byte) (3 : Byte) fun
        (p : KlPacket) => { context := p.context, dest := p.dest, src := p.src, kind := p.kind, urg := p.urg, resp := p.resp, len := p.len, hop := p.hop, seq := p.seq, payload := p.payload, crc := p.crc + (1 : BitVec 32) : KlPacket }).hop ≠ (255 : Byte)) ∧
      ((wPacket (5 : Byte) (3 : Byte) fun
        (p : KlPacket) => { context := p.context, dest := p.dest, src := p.src, kind := p.kind, urg := p.urg, resp := p.resp, len := p.len, hop := p.hop, seq := p.seq, payload := p.payload, crc := p.crc + (1 : BitVec 32) : KlPacket }).src ≠ (wKl KlRx.up).kl.addr) ∧
      ((wPacket (5 : Byte) (3 : Byte) fun
        (p : KlPacket) => { context := p.context, dest := p.dest, src := p.src, kind := p.kind, urg := p.urg, resp := p.resp, len := p.len, hop := p.hop, seq := p.seq, payload := p.payload, crc := p.crc + (1 : BitVec 32) : KlPacket }).dest = (wKl KlRx.up).kl.addr) ∧
      (¬((wPacket (5 : Byte) (3 : Byte) fun
        (p : KlPacket) => { context := p.context, dest := p.dest, src := p.src, kind := p.kind, urg := p.urg, resp := p.resp, len := p.len, hop := p.hop, seq := p.seq, payload := p.payload, crc := p.crc + (1 : BitVec 32) : KlPacket }).context ≠ KlContext.whole ∨ (wPacket (5 : Byte) (3 : Byte) fun (p : KlPacket) => { context := p.context, dest := p.dest, src := p.src, kind := p.kind, urg := p.urg, resp := p.resp, len := p.len, hop := p.hop, seq := p.seq, payload := p.payload, crc := p.crc + (1 : BitVec 32) : KlPacket }).kind = (0 : BitVec 4) ∨ (9 : ℕ) < (wPacket (5 : Byte) (3 : Byte) fun (p : KlPacket) => { context := p.context, dest := p.dest, src := p.src, kind := p.kind, urg := p.urg, resp := p.resp, len := p.len, hop := p.hop, seq := p.seq, payload := p.payload, crc := p.crc + (1 : BitVec 32) : KlPacket }).kind.toNat ∨ (512 : ℕ) < (wPacket (5 : Byte) (3 : Byte) fun (p : KlPacket) => { context := p.context, dest := p.dest, src := p.src, kind := p.kind, urg := p.urg, resp := p.resp, len := p.len, hop := p.hop, seq := p.seq, payload := p.payload, crc := p.crc + (1 : BitVec 32) : KlPacket }).len.toNat)) ∧
      ((wPacket (5 : Byte) (3 : Byte) fun
        (p : KlPacket) => { context := p.context, dest := p.dest, src := p.src, kind := p.kind, urg := p.urg, resp := p.resp, len := p.len, hop := p.hop, seq := p.seq, payload := p.payload, crc := p.crc + (1 : BitVec 32) : KlPacket }).len.toNat ≠ (wPacket (5 : Byte) (3 : Byte) fun (p : KlPacket) => { context := p.context, dest := p.dest, src := p.src, kind := p.kind, urg := p.urg, resp := p.resp, len := p.len, hop := p.hop, seq := p.seq, payload := p.payload, crc := p.crc + (1 : BitVec 32) : KlPacket }).payload.length ∨ (wPacket (5 : Byte) (3 : Byte) fun (p : KlPacket) => { context := p.context, dest := p.dest, src := p.src, kind := p.kind, urg := p.urg, resp := p.resp, len := p.len, hop := p.hop, seq := p.seq, payload := p.payload, crc := p.crc + (1 : BitVec 32) : KlPacket }).crc ≠ klCrc (wPacket (5 : Byte) (3 : Byte) fun (p : KlPacket) => { context := p.context, dest := p.dest, src := p.src, kind := p.kind, urg := p.urg, resp := p.resp, len := p.len, hop := p.hop, seq := p.seq, payload := p.payload, crc := p.crc + (1 : BitVec 32) : KlPacket })) := by
  and_intros <;> decide +kernel

theorem witness_DrainAndReplay :
    (wDrainAndReplay1.rootRuns = false) ∧
    (wReplay.rootRuns = true ∧
      (wReplay.kl.replay = [{ seq := (5 : BitVec 16), words := [(1 : Word), (2 : Word)], tel := (0 : ℕ) : Held },
        { seq := (6 : BitVec 16), words := [(3 : Word), (4 : Word)], tel := (0 : ℕ) : Held }]) ∧
      (((6 : BitVec 16) - { seq := (5 : BitVec 16), words := [(1 : Word), (2 : Word)], tel := (0 : ℕ) : Held }.seq).toNat ≤ [{ seq := (6 : BitVec 16), words := [(3 : Word), (4 : Word)], tel := (0 : ℕ) : Held }].length + (1 : ℕ))) ∧
    (wReplay.rootRuns = true ∧
      (wReplay.kl.replay = [{ seq := (5 : BitVec 16), words := [(1 : Word), (2 : Word)], tel := (0 : ℕ) : Held },
        { seq := (6 : BitVec 16), words := [(3 : Word), (4 : Word)], tel := (0 : ℕ) : Held }]) ∧
      ([{ seq := (6 : BitVec 16), words := [(3 : Word), (4 : Word)], tel := (0 : ℕ) : Held }].length + (1 : ℕ) <
        ((8 : BitVec 16) - { seq := (5 : BitVec 16), words := [(1 : Word), (2 : Word)], tel := (0 : ℕ) : Held }.seq).toNat)) ∧
    (wDrain.rootRuns = true ∧
      wDrain.modes.mode ≠ Mode.mirror ∧
      takePacket wDrain.rings.unsent (4096 : ℕ) ≠ [] ∧
      wDrain.kl.addr ≠ (254 : Byte) ∧
      (wDrain.kl.credited (List.foldl (fun (n : ℕ) (u : Unsent) => n + (32 : ℕ) * u.slots) (0 : ℕ)
        (takePacket wDrain.rings.unsent (4096 : ℕ))) = true) ∧
      (wDrain.kl.room (List.foldl (fun (n : ℕ) (u : Unsent) => n + (32 : ℕ) * u.slots) (0 : ℕ)
        (takePacket wDrain.rings.unsent (4096 : ℕ))) = true) ∧
      wDrain.kl.wait = [] ∧
      (wDrain.fits none (3 : ℕ) (2 : ClassIx) (List.foldl (fun (n : ℕ) (u : Unsent) => if u.tel =
        true then n else n + (32 : ℕ) * u.slots) (0 : ℕ) (takePacket wDrain.rings.unsent (4096 : ℕ)) + (24 : ℕ)) =
        true) ∧
      (wDrain.fits none (2 : ℕ) (2 : ClassIx) (List.foldl (fun (n : ℕ) (u : Unsent) => if u.tel =
        true then n else n + (32 : ℕ) * u.slots) (0 : ℕ) (takePacket wDrain.rings.unsent (4096 : ℕ)) / (4 : ℕ)) =
        true) ∧
      (wDrain.fits none (2 : ℕ) (5 : ClassIx) ((List.foldl (fun (n : ℕ) (u : Unsent) => n + (32 : ℕ) * u.slots)
        (0 : ℕ) (takePacket wDrain.rings.unsent (4096 : ℕ)) - List.foldl (fun (n : ℕ) (u : Unsent) => if u.tel =
        true then n else n + (32 : ℕ) * u.slots) (0 : ℕ) (takePacket wDrain.rings.unsent (4096 : ℕ))) / (4 : ℕ)) =
        true) ∧
      (∀ u ∈ takePacket wDrain.rings.unsent (4096 : ℕ), (wDrain.desc u.sel).bad = false)) := by
  decide +kernel

theorem witness_RegisterRequests :
    (wLost.rootRuns = false) ∧
    (wBehind.rootRuns = true ∧
      (wBehind.kl.burst ≠ [] ∨ wBehind.kl.due.isSome = true ∨ wBehind.kl.reads.isSome = true)) ∧
    (wRun.rootRuns = true ∧
      (wRun.modes.mode = Mode.configure ∨ wRun.modes.mode = Mode.run) ∧
      wRun.kl.addr ≠ 254 ∧
      (wReq 265 0).broadcast = false ∧
      wRun.kl.burst = [] ∧
      wRun.kl.reads = none ∧
      wRun.kl.due = none ∧
      (List.find? (fun (c : BitVec 16 × KlPacket) => c.1 == (wReq 265 0).seq) wRun.kl.cache = none) ∧
      RegRequestOk true (wReq 265 0) = false ∧
      RegRequestOk false (wReq 265 0) = false) ∧
    (wCached.rootRuns = true ∧
      (wCached.modes.mode = Mode.configure ∨ wCached.modes.mode = Mode.run) ∧
      wCached.kl.addr ≠ 254 ∧
      (wReq 265 1).broadcast = false ∧
      wCached.kl.burst = [] ∧
      wCached.kl.reads = none ∧
      wCached.kl.due = none ∧
      (List.find? (fun (c : BitVec 16 × KlPacket) => c.1 == (wReq 265 1).seq) wCached.kl.cache = some
        ((wReq 265 1).seq, mkPacket 254 5 4 false true 9 [0])) ∧
      (wReq 265 1).command = false ∧
      (wReq 265 1).reserved = false ∧
      (wReq 265 1).noInc = true ∧
      (wReq 265 1).k = 1 ∧
      (wReq 265 1).len = 1 ∧
      wCached.readWaits (wReq 265 1).addr.toNat = false) ∧
    (wRun.rootRuns = true ∧
      (wRun.modes.mode = Mode.configure ∨ wRun.modes.mode = Mode.run) ∧
      wRun.kl.addr ≠ 254 ∧
      (wReq 265 1).broadcast = false ∧
      wRun.kl.burst = [] ∧
      wRun.kl.reads = none ∧
      wRun.kl.due = none ∧
      (List.find? (fun (c : BitVec 16 × KlPacket) => c.1 == (wReq 265 1).seq) wRun.kl.cache = none) ∧
      (wReq 265 1).command = false ∧
      (wReq 265 1).reserved = false ∧
      (wReq 265 1).noInc = true ∧
      (wReq 265 1).k = 1 ∧
      (wReq 265 1).len = 1 ∧
      (State.burstWrite [((wReq 265 1).addr.toNat, (wReq 265 1).data.getD 0 0)] wRun).1 = []) := by
  decide +kernel

theorem witness_Commands :
    TakesNow wTrig CommandFrom.msp (1 : ℕ) (5 : BitVec 24) ∧
      TakesNow wTrig CommandFrom.msp (2 : ℕ) (5 : BitVec 24) ∧
      TakesNow wTrig CommandFrom.msp (3 : ℕ) (5 : BitVec 24) ∧
      TakesNow wTrig CommandFrom.msp (9 : ℕ) (5 : BitVec 24) ∧
      TakesNow wTrig CommandFrom.msp (4 : ℕ) (5 : BitVec 24) ∧
      (wTrig.modes.mode = Mode.configure ∨ wTrig.modes.mode = Mode.run ∨ wTrig.modes.mode = Mode.mirror) ∧
      TakesNow wTrig CommandFrom.msp (7 : ℕ) (5 : BitVec 24) ∧
      wTrig.modes.mode ≠ Mode.run ∧
      TakesNow wTrig CommandFrom.msp (8 : ℕ) (5 : BitVec 24) ∧
      TakesNow wTrig CommandFrom.msp (6 : ℕ) (5 : BitVec 24) ∧
      BitVec.getLsbD (5 : BitVec 24) (2 : ℕ) = true := by
  unfold TakesNow; and_intros <;> decide +kernel

theorem witness_Commands_2 :
    TakesNow wRun CommandFrom.msp (7 : ℕ) (1 : BitVec 24) ∧
      wRun.modes.mode = Mode.run ∧
      TakesNow wRun CommandFrom.msp (6 : ℕ) (1 : BitVec 24) ∧
      BitVec.getLsbD (1 : BitVec 24) (2 : ℕ) = false ∧
      (firstFailing [((1 : ℕ), BitVec.getLsbD (wRun.reg (adr pTRG (8 : ℕ))) (0 : ℕ)), ((2 : ℕ),
        wRun.modes.mode == Mode.configure || wRun.modes.mode == Mode.run), ((3 : ℕ), decide
        (BitVec.toNat wRun.esc.frame + (2 : ℕ) ≤ BitVec.toNat (wRun.reg48 (adr pTRG (9 : ℕ))))), ((4 : ℕ),
        wRun.lines[(BitVec.extractLsb' (0 : ℕ) (2 : ℕ)
        (1 : BitVec 24)).toFin].st == LineState.idle || wRun.lines[(BitVec.extractLsb' (0 : ℕ) (2 : ℕ)
        (1 : BitVec 24)).toFin].st == LineState.triggered)] ≠ (0 : ℕ)) := by
  unfold TakesNow; and_intros <;> decide +kernel

theorem witness_Commands_3 :
    TakesNow wSafe CommandFrom.msp (4 : ℕ) (0 : BitVec 24) ∧
      (¬(wSafe.modes.mode = Mode.configure ∨ wSafe.modes.mode = Mode.run ∨ wSafe.modes.mode = Mode.mirror)) := by
  unfold TakesNow; and_intros <;> decide +kernel

theorem witness_Commands_4 :
    CommandFrom.msp ≠ CommandFrom.mcQueue ∧
      (CommandFrom.msp = CommandFrom.kwenlink → wCommands1.rootRuns = true) ∧
      (wCommands1.mc.queue ≠ [] ∨ wCommands1.mcRuns = false) ∧
      (16 : ℕ) ≤ wCommands1.mc.queue.length := by
  and_intros <;> decide +kernel

theorem witness_Commands_5 :
    CommandFrom.kwenlink ≠ CommandFrom.mcQueue ∧
      (CommandFrom.kwenlink = CommandFrom.kwenlink → wCommands2.rootRuns = true) ∧
      (wCommands2.mc.queue ≠ [] ∨ wCommands2.mcRuns = false) ∧
      wCommands2.mc.queue.length < (16 : ℕ) := by
  and_intros <;> decide +kernel

theorem witness_Commands_6 :
    TakesNow wTrig CommandFrom.msp (6 : ℕ) (1 : BitVec 24) ∧
      BitVec.getLsbD (1 : BitVec 24) (2 : ℕ) = false ∧
      (firstFailing [((1 : ℕ), BitVec.getLsbD (wTrig.reg (adr pTRG (8 : ℕ))) (0 : ℕ)), ((2 : ℕ),
        wTrig.modes.mode == Mode.configure || wTrig.modes.mode == Mode.run), ((3 : ℕ), decide
        (BitVec.toNat wTrig.esc.frame + (2 : ℕ) ≤ BitVec.toNat (wTrig.reg48 (adr pTRG (9 : ℕ))))), ((4 : ℕ),
        wTrig.lines[(BitVec.extractLsb' (0 : ℕ) (2 : ℕ)
        (1 : BitVec 24)).toFin].st == LineState.idle || wTrig.lines[(BitVec.extractLsb' (0 : ℕ) (2 : ℕ)
        (1 : BitVec 24)).toFin].st == LineState.triggered)] = (0 : ℕ)) := by
  unfold TakesNow; and_intros <;> decide +kernel

theorem witness_CrownAndUrgentStop :
    (wHalt.kl.enumIn = false ∧
      CommandFrom.msp ≠ CommandFrom.mcQueue ∧
      wHalt.modes.mode = Mode.boot ∧
      wHalt.boot.failed = true ∧
      wHalt.rootRuns = false ∧
      (wHalt.modes.mode = Mode.reset ∨ wHalt.modes.mode = Mode.boot ∨ wHalt.modes.mode = Mode.enumerate)) ∧
    ((wEnum true).modes.mode = Mode.enumerate ∧
      (wEnum true).kl.addr = (254 : Byte) ∧
      (wEnum true).kl.enumIn = true ∧
      BitVec.toNat (5 : Word) ≤ (253 : ℕ) ∧
      CommandFrom.msp ≠ CommandFrom.mcQueue ∧
      (CommandFrom.msp = CommandFrom.kwenlink → (wEnum true).rootRuns = true) ∧
      (wEnum true).kl.enumDue = true) ∧
    (wCrownAndUrgentStop1.rootRuns = true ∧
      wCrownAndUrgentStop1.modes.mode = Mode.safe) ∧
    (wCrownAndUrgentStop2.rootRuns = true ∧
      wCrownAndUrgentStop2.modes.mode = Mode.factory ∧
      wCrownAndUrgentStop2.modes.entryAt ≠ some wCrownAndUrgentStop2.rootNow) ∧
    (wForce.rootRuns = true ∧
      (wForce.modes.mode = Mode.configure ∨ wForce.modes.mode = Mode.run ∨ wForce.modes.mode = Mode.mirror) ∧
      wForce.modes.entryAt ≠ some wForce.rootNow) := by
  decide +kernel

theorem witness_ModeEntries :
    (wModeEntries4.rootRuns = false) ∧
    (wModeEntries6.modes.mode = Mode.configure ∧
      wModeEntries6.modes.cfg = CfgStep.relays ∧
      wModeEntries6.rootRuns = true ∧
      wModeEntries6.modes.factory = true ∧
      wModeEntries6.esc.startAt ≠ some wModeEntries6.esc.frame) ∧
    (wModeEntries10.modes.mode = Mode.configure ∧
      wModeEntries10.modes.cfg = CfgStep.values) ∧
    (wAssigned.rootRuns = true ∧
      wAssigned.modes.mode = Mode.enumerate ∧
      wAssigned.modes.assigned = true) ∧
    (wModeEntries2.rootRuns = true ∧
      wModeEntries2.modes.mode = Mode.run ∧
      wModeEntries2.esc.stopAt = some 0) ∧
    ((wCfg CfgStep.powerup).modes.mode = Mode.configure ∧
      (wCfg CfgStep.powerup).modes.cfg = CfgStep.powerup) ∧
    (wToSafe.modes.mode = Mode.safe ∧
      wToSafe.modes.recover = true ∧
      wToSafe.clk.domRco = false ∧
      wToSafe.rootRuns = true) ∧
    (wModeEntries1.rootRuns = true ∧
      wModeEntries1.modes.mode = Mode.configure ∧
      wModeEntries1.esc.startAt = some wModeEntries1.esc.frame) := by
  decide +kernel

theorem witness_ManagementPortFrames :
    wManagementPortFrames1.msp.quiet = false ∧
      ((let __src := wFrame (1 : BitVec 4) (3 : BitVec 4) (2 : Byte) [(7 : Word),
        (8 : Word)]; { quiet := false, bits := __src.bits, addr := __src.addr, op := __src.op, alive := __src.alive, reg := __src.reg, len := __src.len, reserved := __src.reserved, noInc := __src.noInc, low := __src.low, payload := __src.payload, crc := __src.crc : MspFrame }).quiet = false) := by
  and_intros <;> decide +kernel

theorem witness_ManagementPortFrames_2 :
    (((wRaw none).modes.mode = Mode.configure ∨ (wRaw none).modes.mode = Mode.run ∨ (wRaw none).modes.mode =
      Mode.safe) ∧ (wRaw none).clk.gated = false ∧ (wRaw none).msp.mastering = false ∧ (wRaw none).msp.quiet = true ∧
      (wRaw none).msp.burst = []) ∧
      (wRaw none).msp.reply = none ∧
      (wRaw none).msp.raw ≠ (0 : BitVec 16) ∧
      (8 : ℕ) % (wRaw none).wordSize = (0 : ℕ) ∧
      (8 : ℕ) = (wRaw none).regF (adr pMSP (10 : ℕ)) (0 : ℕ) (14 : ℕ) ∧
      (wRaw none).msp.mbox = none := by
  and_intros <;> decide +kernel

theorem witness_ManagementPortFrames_3 :
    ((wPort.modes.mode = Mode.configure ∨ wPort.modes.mode = Mode.run ∨ wPort.modes.mode = Mode.safe) ∧
      wPort.clk.gated = false ∧ wPort.msp.mastering = false ∧ wPort.msp.quiet = true ∧ wPort.msp.burst = []) ∧
      wPort.msp.raw = (0 : BitVec 16) ∧
      wPort.msp.reply = none ∧
      (wBadCrc.addr = wPort.kl.addr ∧ wBadCrc.addr ≠ (254 : Byte) ∧ wBadCrc.addr ≠ (255 : Byte)) ∧
      (BitVec.toNat wBadCrc.len ≤ (128 : ℕ) ∧ wBadCrc.bits = (32 : ℕ) * ((3 : ℕ) + BitVec.toNat wBadCrc.len) ∧
        wBadCrc.payload.length = BitVec.toNat wBadCrc.len) ∧
      wBadCrc.crc ≠ frameCrc wBadCrc := by
  and_intros <;> decide +kernel

theorem witness_ManagementPortFrames_4 :
    (((wRaw (some ((8 : ℕ), [(2 : Byte)]))).modes.mode = Mode.configure ∨ (wRaw (some ((8 : ℕ),
      [(2 : Byte)]))).modes.mode = Mode.run ∨ (wRaw (some ((8 : ℕ), [(2 : Byte)]))).modes.mode = Mode.safe) ∧ (wRaw
      (some ((8 : ℕ), [(2 : Byte)]))).clk.gated = false ∧ (wRaw (some ((8 : ℕ), [(2 : Byte)]))).msp.mastering =
      false ∧ (wRaw (some ((8 : ℕ), [(2 : Byte)]))).msp.quiet = true ∧ (wRaw (some ((8 : ℕ),
      [(2 : Byte)]))).msp.burst = []) ∧
      (wRaw (some ((8 : ℕ), [(2 : Byte)]))).msp.reply = none ∧
      (wRaw (some ((8 : ℕ), [(2 : Byte)]))).msp.raw ≠ (0 : BitVec 16) ∧
      (8 : ℕ) % (wRaw (some ((8 : ℕ), [(2 : Byte)]))).wordSize = (0 : ℕ) ∧
      (8 : ℕ) = (wRaw (some ((8 : ℕ), [(2 : Byte)]))).regF (adr pMSP (10 : ℕ)) (0 : ℕ) (14 : ℕ) ∧
      (wRaw (some ((8 : ℕ), [(2 : Byte)]))).msp.mbox ≠ none := by
  and_intros <;> decide +kernel

theorem witness_ManagementPortFrames_5 :
    ((wPort.modes.mode = Mode.configure ∨ wPort.modes.mode = Mode.run ∨ wPort.modes.mode = Mode.safe) ∧
      wPort.clk.gated = false ∧ wPort.msp.mastering = false ∧ wPort.msp.quiet = true ∧ wPort.msp.burst = []) ∧
      wPort.msp.raw = (0 : BitVec 16) ∧
      wPort.msp.reply = none ∧
      ((wFrame (1 : BitVec 4) (4 : BitVec 4) (2 : Byte) [(7 : Word), (8 : Word)]).addr = wPort.kl.addr ∧ (wFrame
        (1 : BitVec 4) (4 : BitVec 4) (2 : Byte) [(7 : Word), (8 : Word)]).addr ≠ (254 : Byte) ∧ (wFrame
        (1 : BitVec 4) (4 : BitVec 4) (2 : Byte) [(7 : Word), (8 : Word)]).addr ≠ (255 : Byte)) ∧
      (BitVec.toNat (wFrame (1 : BitVec 4) (4 : BitVec 4) (2 : Byte) [(7 : Word), (8 : Word)]).len ≤ (128 : ℕ) ∧
        (wFrame (1 : BitVec 4) (4 : BitVec 4) (2 : Byte) [(7 : Word), (8 : Word)]).bits = (32 : ℕ) *
        ((3 : ℕ) + BitVec.toNat (wFrame (1 : BitVec 4) (4 : BitVec 4) (2 : Byte) [(7 : Word), (8 : Word)]).len) ∧
        (wFrame (1 : BitVec 4) (4 : BitVec 4) (2 : Byte) [(7 : Word), (8 : Word)]).payload.length = BitVec.toNat
        (wFrame (1 : BitVec 4) (4 : BitVec 4) (2 : Byte) [(7 : Word), (8 : Word)]).len) ∧
      (wFrame (1 : BitVec 4) (4 : BitVec 4) (2 : Byte) [(7 : Word), (8 : Word)]).crc = frameCrc (wFrame
        (1 : BitVec 4) (4 : BitVec 4) (2 : Byte) [(7 : Word), (8 : Word)]) ∧
      (¬(wPort.msp.ucSync = false ∨ wPort.msp.uc = (wFrame (1 : BitVec 4) (4 : BitVec 4) (2 : Byte) [(7 : Word),
        (8 : Word)]).alive)) := by
  and_intros <;> decide +kernel

theorem witness_ManagementPortFrames_6 :
    ((wPort.modes.mode = Mode.configure ∨ wPort.modes.mode = Mode.run ∨ wPort.modes.mode = Mode.safe) ∧
      wPort.clk.gated = false ∧ wPort.msp.mastering = false ∧ wPort.msp.quiet = true ∧ wPort.msp.burst = []) ∧
      wPort.msp.raw = (0 : BitVec 16) ∧
      wPort.msp.reply = none ∧
      ((wFrame (15 : BitVec 4) (3 : BitVec 4) (0 : Byte) []).addr = wPort.kl.addr ∧ (wFrame (15 : BitVec 4)
        (3 : BitVec 4) (0 : Byte) []).addr ≠ (254 : Byte) ∧ (wFrame (15 : BitVec 4) (3 : BitVec 4)
        (0 : Byte) []).addr ≠ (255 : Byte)) ∧
      (BitVec.toNat (wFrame (15 : BitVec 4) (3 : BitVec 4) (0 : Byte) []).len ≤ (128 : ℕ) ∧ (wFrame (15 : BitVec 4)
        (3 : BitVec 4) (0 : Byte) []).bits = (32 : ℕ) * ((3 : ℕ) + BitVec.toNat (wFrame (15 : BitVec 4)
        (3 : BitVec 4) (0 : Byte) []).len) ∧ (wFrame (15 : BitVec 4) (3 : BitVec 4) (0 : Byte) []).payload.length =
        BitVec.toNat (wFrame (15 : BitVec 4) (3 : BitVec 4) (0 : Byte) []).len) ∧
      (wFrame (15 : BitVec 4) (3 : BitVec 4) (0 : Byte) []).crc = frameCrc (wFrame (15 : BitVec 4) (3 : BitVec 4)
        (0 : Byte) []) ∧
      (wPort.msp.ucSync = false ∨ wPort.msp.uc = (wFrame (15 : BitVec 4) (3 : BitVec 4) (0 : Byte) []).alive) ∧
      ((wFrame (15 : BitVec 4) (3 : BitVec 4) (0 : Byte) []).reserved = (0 : BitVec 7) ∧ (wFrame (15 : BitVec 4)
        (3 : BitVec 4) (0 : Byte) []).low = (0 : BitVec 16)) ∧
      (wFrame (15 : BitVec 4) (3 : BitVec 4) (0 : Byte) []).op = (15 : BitVec 4) := by
  and_intros <;> decide +kernel

theorem witness_ManagementPortFrames_7 :
    ((wPort.modes.mode = Mode.configure ∨ wPort.modes.mode = Mode.run ∨ wPort.modes.mode = Mode.safe) ∧
      wPort.clk.gated = false ∧ wPort.msp.mastering = false ∧ wPort.msp.quiet = true ∧ wPort.msp.burst = []) ∧
      wPort.msp.raw = (0 : BitVec 16) ∧
      wPort.msp.reply = none ∧
      ((wFrame (2 : BitVec 4) (3 : BitVec 4) (1 : Byte) [(0 : Word)]).addr = wPort.kl.addr ∧ (wFrame (2 : BitVec 4)
        (3 : BitVec 4) (1 : Byte) [(0 : Word)]).addr ≠ (254 : Byte) ∧ (wFrame (2 : BitVec 4) (3 : BitVec 4)
        (1 : Byte) [(0 : Word)]).addr ≠ (255 : Byte)) ∧
      (BitVec.toNat (wFrame (2 : BitVec 4) (3 : BitVec 4) (1 : Byte) [(0 : Word)]).len ≤ (128 : ℕ) ∧ (wFrame
        (2 : BitVec 4) (3 : BitVec 4) (1 : Byte) [(0 : Word)]).bits = (32 : ℕ) * ((3 : ℕ) + BitVec.toNat (wFrame
        (2 : BitVec 4) (3 : BitVec 4) (1 : Byte) [(0 : Word)]).len) ∧ (wFrame (2 : BitVec 4) (3 : BitVec 4)
        (1 : Byte) [(0 : Word)]).payload.length = BitVec.toNat (wFrame (2 : BitVec 4) (3 : BitVec 4)
        (1 : Byte) [(0 : Word)]).len) ∧
      (wFrame (2 : BitVec 4) (3 : BitVec 4) (1 : Byte) [(0 : Word)]).crc = frameCrc (wFrame (2 : BitVec 4)
        (3 : BitVec 4) (1 : Byte) [(0 : Word)]) ∧
      (wPort.msp.ucSync = false ∨ wPort.msp.uc = (wFrame (2 : BitVec 4) (3 : BitVec 4)
        (1 : Byte) [(0 : Word)]).alive) ∧
      ((wFrame (2 : BitVec 4) (3 : BitVec 4) (1 : Byte) [(0 : Word)]).reserved = (0 : BitVec 7) ∧ (wFrame
        (2 : BitVec 4) (3 : BitVec 4) (1 : Byte) [(0 : Word)]).low = (0 : BitVec 16)) ∧
      (wFrame (2 : BitVec 4) (3 : BitVec 4) (1 : Byte) [(0 : Word)]).op = (2 : BitVec 4) ∧
      (1 : ℕ) ≤ BitVec.toNat (wFrame (2 : BitVec 4) (3 : BitVec 4) (1 : Byte) [(0 : Word)]).len ∧
      (wFrame (2 : BitVec 4) (3 : BitVec 4) (1 : Byte) [(0 : Word)]).payload.getD (0 : ℕ) (0 : Word) =
        (0 : Word) := by
  and_intros <;> decide +kernel

theorem witness_ManagementPortFrames_8 :
    ((wPort.modes.mode = Mode.configure ∨ wPort.modes.mode = Mode.run ∨ wPort.modes.mode = Mode.safe) ∧
      wPort.clk.gated = false ∧ wPort.msp.mastering = false ∧ wPort.msp.quiet = true ∧ wPort.msp.burst = []) ∧
      wPort.msp.raw = (0 : BitVec 16) ∧
      wPort.msp.reply = none ∧
      ((wFrame (1 : BitVec 4) (3 : BitVec 4) (2 : Byte) [(7 : Word), (8 : Word)]).addr = wPort.kl.addr ∧ (wFrame
        (1 : BitVec 4) (3 : BitVec 4) (2 : Byte) [(7 : Word), (8 : Word)]).addr ≠ (254 : Byte) ∧ (wFrame
        (1 : BitVec 4) (3 : BitVec 4) (2 : Byte) [(7 : Word), (8 : Word)]).addr ≠ (255 : Byte)) ∧
      (BitVec.toNat (wFrame (1 : BitVec 4) (3 : BitVec 4) (2 : Byte) [(7 : Word), (8 : Word)]).len ≤ (128 : ℕ) ∧
        (wFrame (1 : BitVec 4) (3 : BitVec 4) (2 : Byte) [(7 : Word), (8 : Word)]).bits = (32 : ℕ) *
        ((3 : ℕ) + BitVec.toNat (wFrame (1 : BitVec 4) (3 : BitVec 4) (2 : Byte) [(7 : Word), (8 : Word)]).len) ∧
        (wFrame (1 : BitVec 4) (3 : BitVec 4) (2 : Byte) [(7 : Word), (8 : Word)]).payload.length = BitVec.toNat
        (wFrame (1 : BitVec 4) (3 : BitVec 4) (2 : Byte) [(7 : Word), (8 : Word)]).len) ∧
      (wFrame (1 : BitVec 4) (3 : BitVec 4) (2 : Byte) [(7 : Word), (8 : Word)]).crc = frameCrc (wFrame
        (1 : BitVec 4) (3 : BitVec 4) (2 : Byte) [(7 : Word), (8 : Word)]) ∧
      (wPort.msp.ucSync = false ∨ wPort.msp.uc = (wFrame (1 : BitVec 4) (3 : BitVec 4) (2 : Byte) [(7 : Word),
        (8 : Word)]).alive) ∧
      ((wFrame (1 : BitVec 4) (3 : BitVec 4) (2 : Byte) [(7 : Word), (8 : Word)]).reserved = (0 : BitVec 7) ∧
        (wFrame (1 : BitVec 4) (3 : BitVec 4) (2 : Byte) [(7 : Word), (8 : Word)]).low = (0 : BitVec 16)) ∧
      (wFrame (1 : BitVec 4) (3 : BitVec 4) (2 : Byte) [(7 : Word), (8 : Word)]).op = (1 : BitVec 4) ∧
      (1 : ℕ) ≤ BitVec.toNat (wFrame (1 : BitVec 4) (3 : BitVec 4) (2 : Byte) [(7 : Word), (8 : Word)]).len := by
  and_intros <;> decide +kernel

theorem witness_ManagementPortFrames_9 :
    ((wPort.modes.mode = Mode.configure ∨ wPort.modes.mode = Mode.run ∨ wPort.modes.mode = Mode.safe) ∧
      wPort.clk.gated = false ∧ wPort.msp.mastering = false ∧ wPort.msp.quiet = true ∧ wPort.msp.burst = []) ∧
      wPort.msp.raw = (0 : BitVec 16) ∧
      wPort.msp.reply = none ∧
      ((wFrame (5 : BitVec 4) (3 : BitVec 4) (2 : Byte) [(7 : Word), (8 : Word)]).addr = wPort.kl.addr ∧ (wFrame
        (5 : BitVec 4) (3 : BitVec 4) (2 : Byte) [(7 : Word), (8 : Word)]).addr ≠ (254 : Byte) ∧ (wFrame
        (5 : BitVec 4) (3 : BitVec 4) (2 : Byte) [(7 : Word), (8 : Word)]).addr ≠ (255 : Byte)) ∧
      (BitVec.toNat (wFrame (5 : BitVec 4) (3 : BitVec 4) (2 : Byte) [(7 : Word), (8 : Word)]).len ≤ (128 : ℕ) ∧
        (wFrame (5 : BitVec 4) (3 : BitVec 4) (2 : Byte) [(7 : Word), (8 : Word)]).bits = (32 : ℕ) *
        ((3 : ℕ) + BitVec.toNat (wFrame (5 : BitVec 4) (3 : BitVec 4) (2 : Byte) [(7 : Word), (8 : Word)]).len) ∧
        (wFrame (5 : BitVec 4) (3 : BitVec 4) (2 : Byte) [(7 : Word), (8 : Word)]).payload.length = BitVec.toNat
        (wFrame (5 : BitVec 4) (3 : BitVec 4) (2 : Byte) [(7 : Word), (8 : Word)]).len) ∧
      (wFrame (5 : BitVec 4) (3 : BitVec 4) (2 : Byte) [(7 : Word), (8 : Word)]).crc = frameCrc (wFrame
        (5 : BitVec 4) (3 : BitVec 4) (2 : Byte) [(7 : Word), (8 : Word)]) ∧
      (wPort.msp.ucSync = false ∨ wPort.msp.uc = (wFrame (5 : BitVec 4) (3 : BitVec 4) (2 : Byte) [(7 : Word),
        (8 : Word)]).alive) ∧
      ((wFrame (5 : BitVec 4) (3 : BitVec 4) (2 : Byte) [(7 : Word), (8 : Word)]).reserved = (0 : BitVec 7) ∧
        (wFrame (5 : BitVec 4) (3 : BitVec 4) (2 : Byte) [(7 : Word), (8 : Word)]).low = (0 : BitVec 16)) ∧
      (wFrame (5 : BitVec 4) (3 : BitVec 4) (2 : Byte) [(7 : Word), (8 : Word)]).op = (5 : BitVec 4) ∧
      (1 : ℕ) ≤ BitVec.toNat (wFrame (5 : BitVec 4) (3 : BitVec 4) (2 : Byte) [(7 : Word), (8 : Word)]).len := by
  and_intros <;> decide +kernel

theorem witness_ManagementPortFrames_10 :
    ((wPort.modes.mode = Mode.configure ∨ wPort.modes.mode = Mode.run ∨ wPort.modes.mode = Mode.safe) ∧
      wPort.clk.gated = false ∧ wPort.msp.mastering = false ∧ wPort.msp.quiet = true ∧ wPort.msp.burst = []) ∧
      wPort.msp.raw = (0 : BitVec 16) ∧
      wPort.msp.reply = none ∧
      ((wFrame (4 : BitVec 4) (3 : BitVec 4) (1 : Byte) [(4 : Word)]).addr = wPort.kl.addr ∧ (wFrame (4 : BitVec 4)
        (3 : BitVec 4) (1 : Byte) [(4 : Word)]).addr ≠ (254 : Byte) ∧ (wFrame (4 : BitVec 4) (3 : BitVec 4)
        (1 : Byte) [(4 : Word)]).addr ≠ (255 : Byte)) ∧
      (BitVec.toNat (wFrame (4 : BitVec 4) (3 : BitVec 4) (1 : Byte) [(4 : Word)]).len ≤ (128 : ℕ) ∧ (wFrame
        (4 : BitVec 4) (3 : BitVec 4) (1 : Byte) [(4 : Word)]).bits = (32 : ℕ) * ((3 : ℕ) + BitVec.toNat (wFrame
        (4 : BitVec 4) (3 : BitVec 4) (1 : Byte) [(4 : Word)]).len) ∧ (wFrame (4 : BitVec 4) (3 : BitVec 4)
        (1 : Byte) [(4 : Word)]).payload.length = BitVec.toNat (wFrame (4 : BitVec 4) (3 : BitVec 4)
        (1 : Byte) [(4 : Word)]).len) ∧
      (wFrame (4 : BitVec 4) (3 : BitVec 4) (1 : Byte) [(4 : Word)]).crc = frameCrc (wFrame (4 : BitVec 4)
        (3 : BitVec 4) (1 : Byte) [(4 : Word)]) ∧
      (wPort.msp.ucSync = false ∨ wPort.msp.uc = (wFrame (4 : BitVec 4) (3 : BitVec 4)
        (1 : Byte) [(4 : Word)]).alive) ∧
      ((wFrame (4 : BitVec 4) (3 : BitVec 4) (1 : Byte) [(4 : Word)]).reserved = (0 : BitVec 7) ∧ (wFrame
        (4 : BitVec 4) (3 : BitVec 4) (1 : Byte) [(4 : Word)]).low = (0 : BitVec 16)) ∧
      (wFrame (4 : BitVec 4) (3 : BitVec 4) (1 : Byte) [(4 : Word)]).op = (4 : BitVec 4) ∧
      (1 : ℕ) ≤ BitVec.toNat (wFrame (4 : BitVec 4) (3 : BitVec 4) (1 : Byte) [(4 : Word)]).len ∧
      (1 : ℕ) ≤ BitVec.toNat ((wFrame (4 : BitVec 4) (3 : BitVec 4) (1 : Byte) [(4 : Word)]).payload.getD (0 : ℕ)
        (0 : Word)) ∧
      BitVec.toNat ((wFrame (4 : BitVec 4) (3 : BitVec 4) (1 : Byte) [(4 : Word)]).payload.getD (0 : ℕ) (0 : Word)) ≤
        (128 : ℕ) := by
  and_intros <;> decide +kernel

theorem witness_PairOperation :
    (wPairOperation4.pair.en = true ∧
      wPairOperation4.rootRuns = true ∧
      (wBeat true (0 : FrameNo)).valid = true ∧
      wPairOperation4.pair.ownIn ≠ true ∧
      wPairOperation4.modes.mode ≠ Mode.configure ∧
      BitVec.getLsbD (0 : Word) (0 : ℕ) ≠ wPairOperation4.pair.en ∧
      BitVec.getLsbD (0 : Word) (1 : ℕ) = false ∧
      (wPairOperation4.pair.en = false ∨ wPairOperation4.pair.ownOut = false) ∧
      wPairOperation4.modes.mode = Mode.mirror ∧
      (3 : ℕ) ≤ wPairOperation4.pair.miss ∧
      wPairOperation4.pair.ownIn = false ∧
      (3 : ℕ) ≤ wPairOperation4.pair.ownLow ∧
      wPairOperation4.lockWindow = true ∧
      wPairOperation4.pair.snap = some (wSnap true) ∧
      wPairOperation4.pair.takeAt ≠ none) ∧
    (wPairOperation2.modes.mode = Mode.configure ∧
      BitVec.getLsbD (0 : Word) (0 : ℕ) ≠ wPairOperation2.pair.en ∧
      BitVec.getLsbD (0 : Word) (1 : ℕ) = false ∧
      wPairOperation2.pair.en = true ∧
      wPairOperation2.pair.ownOut = true ∧
      (wPairOperation2.modes.mode = Mode.configure ∨ wPairOperation2.modes.mode = Mode.safe) ∧
      wPairOperation2.pair.ownIn = true) ∧
    (wPairOperation5.rootRuns = false) ∧
    ((wPair Mode.run id).pair.en = true ∧
      (wPair Mode.run id).rootRuns = true ∧
      (wBeat false (1 : FrameNo)).valid = false ∧
      (wPair Mode.run id).pair.ownOut = false ∧
      ((wSnap false).valid = false ∨ (wSnap false).bad ≠ (0 : ℕ))) ∧
    (wPairOperation3.pair.relPend = true) ∧
    ((wPair Mode.run id).pair.en = true ∧
      (wPair Mode.run id).rootRuns = true ∧
      (wPair Mode.run id).pair.ownOut = false ∧
      (wSnap true).valid = true ∧
      (wSnap true).bad = (0 : ℕ) ∧
      (wPair Mode.run id).pair.reason ≠ (2 : BitVec 3) ∧
      (wPair Mode.run id).pair.reason ≠ (4 : BitVec 3) ∧
      (wPair Mode.run id).modes.mode ≠ Mode.mirror) := by
  decide +kernel

theorem witness_FaultCollector :
    ((wMsg wNote (0 : Word)).clk.gated = false ∧ ((wMsg wNote (0 : Word)).flt.queues = [((8 : ℕ), [wNote])] ∧
      (wMsg wNote (0 : Word)).flt.injected = [] ∨ (wMsg wNote (0 : Word)).flt.queues = [] ∧ (wMsg wNote
      (0 : Word)).flt.injected = [wNote])) ∧
      (wNote.acted = true ∨ stopsGroup wNote.kind = false ∧ wNote.kind ≠ kOWN_CONFLICT ∧ (wMsg wNote
        (0 : Word)).fixedCause wNote.kind = none) ∧
      (wMsg wNote (0 : Word)).severity wNote = (0 : ℕ) ∧
      (wMsg wNote (0 : Word)).clk.gated = false ∧
      BitVec.extractLsb' (0 : ℕ) (31 : ℕ) (1 : Word) ≠ (wMsg wNote (0 : Word)).flt.logSeq ∧
      (wMsg wNote (0 : Word)).modes.mode ≠ Mode.factory := by
  and_intros <;> decide +kernel

theorem witness_FaultCollector_2 :
    wFactory.modes.mode = Mode.factory ∧
      wFactory.modes.perm.getLsbD (0 : ℕ) = true := by
  and_intros <;> decide +kernel

theorem witness_FaultCollector_3 :
    ((wGrpMsg wStopNote (1 : Word)).clk.gated = false ∧ ((wGrpMsg wStopNote (1 : Word)).flt.queues = [((64 : ℕ),
      [wStopNote])] ∧ (wGrpMsg wStopNote (1 : Word)).flt.injected = [] ∨ (wGrpMsg wStopNote (1 : Word)).flt.queues =
      [] ∧ (wGrpMsg wStopNote (1 : Word)).flt.injected = [wStopNote])) ∧
      wStopNote.acted = false ∧
      stopsGroup wStopNote.kind = true ∧
      (wGrpMsg wStopNote (1 : Word)).severity wStopNote ≤ (2 : ℕ) ∧
      BitVec.extractLsb' (0 : ℕ) (31 : ℕ) (0 : Word) = (wGrpMsg wStopNote (1 : Word)).flt.logSeq := by
  and_intros <;> decide +kernel

theorem witness_FaultCollector_4 :
    ((wMsg wNote (1 : Word)).clk.gated = false ∧ ((wMsg wNote (1 : Word)).flt.queues = [((8 : ℕ), [wNote])] ∧
      (wMsg wNote (1 : Word)).flt.injected = [] ∨ (wMsg wNote (1 : Word)).flt.queues = [] ∧ (wMsg wNote
      (1 : Word)).flt.injected = [wNote])) ∧
      (wNote.acted = true ∨ stopsGroup wNote.kind = false ∧ wNote.kind ≠ kOWN_CONFLICT ∧ (wMsg wNote
        (1 : Word)).fixedCause wNote.kind = none) ∧
      (1 : ℕ) ≤ (wMsg wNote (1 : Word)).severity wNote ∧
      (wMsg wNote (1 : Word)).severity wNote ≤ (2 : ℕ) := by
  and_intros <;> decide +kernel

theorem witness_FaultCollector_5 :
    ((wGrpMsg wPlainNote (3 : Word)).clk.gated = false ∧ ((wGrpMsg wPlainNote (3 : Word)).flt.queues = [((64 : ℕ),
      [wPlainNote])] ∧ (wGrpMsg wPlainNote (3 : Word)).flt.injected = [] ∨ (wGrpMsg wPlainNote
      (3 : Word)).flt.queues = [] ∧ (wGrpMsg wPlainNote (3 : Word)).flt.injected = [wPlainNote])) ∧
      (wPlainNote.acted = true ∨ stopsGroup wPlainNote.kind = false ∧ wPlainNote.kind ≠ kOWN_CONFLICT ∧
        (wGrpMsg wPlainNote (3 : Word)).fixedCause wPlainNote.kind = none) ∧
      (wGrpMsg wPlainNote (3 : Word)).severity wPlainNote = (3 : ℕ) ∧
      stopsGroup wPlainNote.kind = false := by
  and_intros <;> decide +kernel

theorem witness_FaultCollector_6 :
    ((wMsg wSafeNote (1 : Word)).clk.gated = false ∧ ((wMsg wSafeNote (1 : Word)).flt.queues = [((8 : ℕ),
      [wSafeNote])] ∧ (wMsg wSafeNote (1 : Word)).flt.injected = [] ∨ (wMsg wSafeNote (1 : Word)).flt.queues = [] ∧
      (wMsg wSafeNote (1 : Word)).flt.injected = [wSafeNote])) ∧
      wSafeNote.acted = false ∧
      (wMsg wSafeNote (1 : Word)).fixedCause wSafeNote.kind = some causeTHERMAL ∧
      ((wMsg wSafeNote (1 : Word)).modes.mode = Mode.configure ∨ (wMsg wSafeNote (1 : Word)).modes.mode = Mode.run ∨
        (wMsg wSafeNote (1 : Word)).modes.mode = Mode.mirror) ∧
      (wMsg wSafeNote (1 : Word)).modes.entryAt ≠ some (wMsg wSafeNote (1 : Word)).rootNow := by
  and_intros <;> decide +kernel

theorem witness_FaultCollector_7 :
    ((wGrpMsg wPlainNote (4 : Word)).clk.gated = false ∧ ((wGrpMsg wPlainNote (4 : Word)).flt.queues = [((64 : ℕ),
      [wPlainNote])] ∧ (wGrpMsg wPlainNote (4 : Word)).flt.injected = [] ∨ (wGrpMsg wPlainNote
      (4 : Word)).flt.queues = [] ∧ (wGrpMsg wPlainNote (4 : Word)).flt.injected = [wPlainNote])) ∧
      (wPlainNote.acted = true ∨ stopsGroup wPlainNote.kind = false ∧ wPlainNote.kind ≠ kOWN_CONFLICT ∧
        (wGrpMsg wPlainNote (4 : Word)).fixedCause wPlainNote.kind = none) ∧
      (wGrpMsg wPlainNote (4 : Word)).severity wPlainNote = (4 : ℕ) ∧
      (wGrpMsg wPlainNote (4 : Word)).fixedCause wPlainNote.kind = none ∧
      ((wGrpMsg wPlainNote (4 : Word)).modes.mode = Mode.configure ∨ (wGrpMsg wPlainNote (4 : Word)).modes.mode =
        Mode.run ∨ (wGrpMsg wPlainNote (4 : Word)).modes.mode = Mode.mirror) ∧
      (wGrpMsg wPlainNote (4 : Word)).modes.entryAt ≠ some (wGrpMsg wPlainNote (4 : Word)).rootNow := by
  and_intros <;> decide +kernel

theorem witness_ThermalManagement :
    (wThermalManagement5.clk.gated = true ∧
      (wThermalManagement5.setReg (adr pTHM ((16 : ℕ) + (↑(0 : Fin (6 : ℕ)) : ℕ))) ((0 : Word) &&&
        (65535 : Word))).limitsOrdered = true) ∧
    (wThermalManagement1.clk.gated = false ∧
      wThermalManagement1.thm.sensors[(1 : Fin (5 : ℕ))].failed = false ∧
      outOfRange (BitVec.toInt (3100 : BitVec 16)) = false ∧
      (wThermalManagement1.thm.sensors[(1 : Fin (5 : ℕ))].seen = true → (BitVec.toInt
        (3100 : BitVec 16) - wThermalManagement1.thm.sensors[(1 : Fin (5 : ℕ))].lastGood.toInt).natAbs ≤ (2000 : ℕ)) ∧
      wThermalManagement1.thm.req = true ∧
      wThermalManagement1.thm.grace = true ∧
      wThermalManagement1.thm.maxlock = []) ∧
    (((wThm (3000 : BitVec 16) id).setReg (adr pTHM ((16 : ℕ) + (↑(2 : Fin (6 : ℕ)) : ℕ))) ((0 : Word) &&&
      (65535 : Word))).limitsOrdered = false) ∧
    ((wThermalManagement2.clk.gated = false ∧ wThermalManagement2.thm.enforced = true ∧
      wThermalManagement2.thm.maxlock = []) ∧
      wThermalManagement2.thmLimit (1 : ℕ) ≤ wThermalManagement2.thm.top) ∧
    ((wThermalManagement3.clk.gated = false ∧ wThermalManagement3.thm.enforced = true ∧
      wThermalManagement3.thm.maxlock = []) ∧
      wThermalManagement3.thm.top < wThermalManagement3.thmLimit (1 : ℕ) - wThermalManagement3.thmLimit (5 : ℕ) ∧
      (¬wThermalManagement3.thmLimit (1 : ℕ) ≤ wThermalManagement3.thm.top) ∧
      (2 : ℕ) ≤ wThermalManagement3.thm.step.toNat) ∧
    ((wThermalManagement4.clk.gated = false ∧ wThermalManagement4.thm.enforced = true ∧
      wThermalManagement4.thm.maxlock = []) ∧
      wThermalManagement4.thm.top < wThermalManagement4.thmLimit (1 : ℕ) - wThermalManagement4.thmLimit (5 : ℕ) ∧
      (¬wThermalManagement4.thmLimit (1 : ℕ) ≤ wThermalManagement4.thm.top) ∧
      wThermalManagement4.thm.step.toNat ≤ (1 : ℕ)) := by
  decide +kernel

theorem witness_IndirectReads :
    (wAllBusy.busy (pGRP 0) = true ∧
      wAllBusy.busy (pACQ 0) = true ∧
      wAllBusy.busy pRING = true ∧
      wAllBusy.busy pFLT = true ∧
      wAllBusy.busy pNVM = true ∧
      wAllBusy.busy pMODE = true) ∧
    (wRun.busy (pGRP 0) = false ∧
      wRun.regF (adr (pGRP 0) 48) 0 15 % 8 < 6 ∧
      wRun.busy (pACQ 0) = false ∧
      wRun.busy pRING = false ∧
      wRun.busy pFLT = false ∧
      wRun.busy pNVM = false ∧
      wRun.busy pMODE = false ∧
      BitVec.toNat (wRun.reg (adr pMODE 14)) < 22 ∧
      BitVec.toNat (wRun.reg (adr pRING 8)) < 262216 ∧
      wRun.rings.waits = [] ∧
      wRun.rings.pending = none ∧
      (262144 ≤ BitVec.toNat (wRun.reg (adr pRING 8)) ∨ wRun.fits none 2 cHOST 4 = true)) ∧
    ((wPoor (wAt Mode.run)).busy pRING = false ∧
      BitVec.toNat ((wPoor (wAt Mode.run)).reg (adr pRING 8)) < 262144 ∧
      (wPoor (wAt Mode.run)).fits none 2 cHOST 4 = false) := by
  decide +kernel

theorem witness_PostedWrites :
    ((wBusyAt pNVM).busy (pGRP (0 : GroupIx)) = false ∧
      tblWritable ((wBusyAt pNVM).regF (adr (pGRP (0 : GroupIx)) (58 : ℕ)) (0 : ℕ) (12 : ℕ)) = true ∧
      (wBusyAt pNVM).regF (adr (pGRP (0 : GroupIx)) (48 : ℕ)) (0 : ℕ) (15 : ℕ) % (8 : ℕ) < (6 : ℕ) ∧
      (wBusyAt pNVM).regF (adr (pGRP (0 : GroupIx)) (48 : ℕ)) (0 : ℕ) (15 : ℕ) / (8 : ℕ) < (3072 : ℕ) ∧
      (wBusyAt pNVM).ucProtected (0 : GroupIx) ((wBusyAt pNVM).regF (adr (pGRP (0 : GroupIx)) (48 : ℕ)) (0 : ℕ)
        (15 : ℕ) / (8 : ℕ)) = false ∧
      (wBusyAt pNVM).busy (pACQ (0 : GroupIx)) = false ∧
      (wBusyAt pNVM).busy pRING = false ∧
      (wBusyAt pNVM).busy pNVM = true) ∧
    ((wBusyAt (pGRP (0 : GroupIx))).busy (pGRP (0 : GroupIx)) = true) ∧
    (((wAt Mode.run).setReg (adr (pGRP (0 : GroupIx)) (58 : ℕ)) (1823 : Word)).busy (pGRP (0 : GroupIx)) = false ∧
      tblWritable (((wAt Mode.run).setReg (adr (pGRP (0 : GroupIx)) (58 : ℕ)) (1823 : Word)).regF (adr (pGRP
        (0 : GroupIx)) (58 : ℕ)) (0 : ℕ) (12 : ℕ)) = false ∧
      ((wAt Mode.run).setReg (adr (pGRP (0 : GroupIx)) (58 : ℕ)) (1823 : Word)).busy pNVM = false ∧
      nvmRegionOf (((wAt Mode.run).setReg (adr (pGRP (0 : GroupIx)) (58 : ℕ)) (1823 : Word)).regF (adr pNVM
        (8 : ℕ)) (0 : ℕ) (15 : ℕ)) = some (3 : Fin (8 : ℕ)) ∧
      BitVec.getLsbD (49 : Word) (0 : ℕ) = true ∧
      fld (49 : Word) (4 : ℕ) (4 : ℕ) = (↑(3 : Fin (8 : ℕ)) : ℕ)) ∧
    (((wAt Mode.run).setReg (adr (pGRP (0 : GroupIx)) (48 : ℕ)) (24576 : Word)).busy (pGRP (0 : GroupIx)) = false ∧
      ((wAt Mode.run).setReg (adr (pGRP (0 : GroupIx)) (48 : ℕ)) (24576 : Word)).regF (adr (pGRP (0 : GroupIx))
        (48 : ℕ)) (0 : ℕ) (15 : ℕ) % (8 : ℕ) < (6 : ℕ) ∧
      ((3072 : ℕ) ≤ ((wAt Mode.run).setReg (adr (pGRP (0 : GroupIx)) (48 : ℕ)) (24576 : Word)).regF (adr (pGRP
        (0 : GroupIx)) (48 : ℕ)) (0 : ℕ) (15 : ℕ) / (8 : ℕ) ∨ ((wAt Mode.run).setReg (adr (pGRP (0 : GroupIx))
        (48 : ℕ)) (24576 : Word)).ucProtected (0 : GroupIx) (((wAt Mode.run).setReg (adr (pGRP (0 : GroupIx))
        (48 : ℕ)) (24576 : Word)).regF (adr (pGRP (0 : GroupIx)) (48 : ℕ)) (0 : ℕ) (15 : ℕ) / (8 : ℕ)) = true)) := by
  decide +kernel

theorem witness_DescriptorsAndCompletions :
    (wBusyAt pRING).busy pRING = true ∧
      NothingPaced (wBusyAt pRING) ∧
      (wBusyAt pRING).rings.pending = none ∧
      (wBusyAt pRING).nvm.commit = none := by
  unfold NothingPaced; and_intros <;> decide +kernel

theorem witness_DescriptorsAndCompletions_2 :
    NothingPaced wNvmBusy ∧
      wNvmBusy.nvm.commit = some (3 : Fin (8 : ℕ)) := by
  unfold NothingPaced; and_intros <;> decide +kernel

theorem witness_DescriptorsAndCompletions_3 :
    wBurst.msp.burst = [(BitVec.toNat (265 : BitVec 16), (5 : Word))] := by
  decide +kernel

theorem witness_DescriptorsAndCompletions_4 :
    (wTested (6 : BitVec 4)).modes.test = some ((6 : BitVec 4), (0 : GroupIx)) := by
  decide +kernel

theorem witness_DescriptorsAndCompletions_5 :
    NothingPaced wDescWait ∧
      wDescWait.rings.pending = some ((9 : ℕ), (100 : BitVec 19), (10 : BitVec 16), (5 : BitVec 16)) ∧
      wDescWait.hasUnsent (9 : ℕ) = false := by
  unfold NothingPaced; and_intros <;> decide +kernel

theorem witness_DescriptorsAndCompletions_6 :
    (wTest (5 : Word) none).modes.mode = Mode.factory ∧
      (wTest (5 : Word) none).modes.perm.getLsbD (3 : ℕ) = true ∧
      BitVec.getLsbD (5 : Word) (0 : ℕ) = true ∧
      (wTest (5 : Word) none).modes.test = none ∧
      fld ((wTest (5 : Word) none).reg (adr pFACT (9 : ℕ))) (0 : ℕ) (4 : ℕ) ≤ (9 : ℕ) := by
  and_intros <;> decide +kernel

theorem witness_DescriptorsAndCompletions_7 :
    NothingPaced wDescriptorsAndCompletions2 ∧
      wDescriptorsAndCompletions2.rings.pending = some ((9 : ℕ), (100 : BitVec 19), (10 : BitVec 16),
        (5 : BitVec 16)) ∧
      wDescriptorsAndCompletions2.busy pRING = true ∧
      wDescriptorsAndCompletions2.hasUnsent (9 : ℕ) = true ∧
      (wDescriptorsAndCompletions2.desc (9 : ℕ)).failed = false := by
  unfold NothingPaced; and_intros <;> decide +kernel

theorem witness_DescriptorsAndCompletions_8 :
    (wPoor (wDesc Mode.run (10 : Word))).busy pRING = false ∧
      BitVec.toNat ((wPoor (wDesc Mode.run (10 : Word))).reg (adr pRING (8 : ℕ))) < (262144 : ℕ) ∧
      (wPoor (wDesc Mode.run (10 : Word))).rings.waits = [] ∧
      (wPoor (wDesc Mode.run (10 : Word))).rings.pending = none ∧
      (wPoor (wDesc Mode.run (10 : Word))).fits none (2 : ℕ) cHOST (4 : ℕ) = false := by
  and_intros <;> decide +kernel

theorem witness_DescriptorsAndCompletions_9 :
    (wDesc Mode.run (1310730 : Word)).busy pRING = false ∧
      BitVec.toNat ((wDesc Mode.run (1310730 : Word)).reg (adr pRING (8 : ℕ))) < (262216 : ℕ) ∧
      ((wDesc Mode.run (1310730 : Word)).rings.fill.getD (0 : ℕ) (0 : Word) = BitVec.setWidth (32 : ℕ)
        (100 : BitVec 19) ∧ (wDesc Mode.run (1310730 : Word)).rings.fill.getD (1 : ℕ) (0 : Word) =
        (20 : BitVec 16) ++ (10 : BitVec 16)) ∧
      ((wDesc Mode.run (1310730 : Word)).rings.waits = [] ∧ (wDesc Mode.run (1310730 : Word)).rings.pending = none ∧
        ((262144 : ℕ) ≤ BitVec.toNat ((wDesc Mode.run (1310730 : Word)).reg (adr pRING (8 : ℕ))) ∨ (wDesc Mode.run
        (1310730 : Word)).fits none (2 : ℕ) cHOST (4 : ℕ) = true)) ∧
      ((if (10 : BitVec 16) = (0 : BitVec 16) then (0 : ℕ) else firstFailing [((1 : ℕ), decide (BitVec.toNat
        (100 : BitVec 19) + BitVec.toNat (10 : BitVec 16) ≤ (393216 : ℕ))), ((2 : ℕ), decide ((20 : BitVec 16) ≤
        (10 : BitVec 16))), ((3 : ℕ), decide (∀ d ∈ (wDesc Mode.run (1310730 : Word)).rings.desc,
        d.1 ≠ BitVec.toNat ((wDesc Mode.run (1310730 : Word)).reg (adr pRING (8 : ℕ))) → d.2.size ≠ (0 : BitVec 16) →
        BitVec.toNat (100 : BitVec 19) + BitVec.toNat (10 : BitVec 16) ≤ d.2.base.toNat ∨
        d.2.base.toNat + d.2.size.toNat ≤ BitVec.toNat (100 : BitVec 19)))]) ≠ (0 : ℕ)) := by
  and_intros <;> decide +kernel

theorem witness_DescriptorsAndCompletions_10 :
    (wDesc Mode.run (10 : Word)).busy pRING = false ∧
      BitVec.toNat ((wDesc Mode.run (10 : Word)).reg (adr pRING (8 : ℕ))) < (262216 : ℕ) ∧
      ((wDesc Mode.run (10 : Word)).rings.fill.getD (0 : ℕ) (0 : Word) = BitVec.setWidth (32 : ℕ) (100 : BitVec 19) ∧
        (wDesc Mode.run (10 : Word)).rings.fill.getD (1 : ℕ) (0 : Word) = (0 : BitVec 16) ++ (10 : BitVec 16)) ∧
      ((wDesc Mode.run (10 : Word)).rings.waits = [] ∧ (wDesc Mode.run (10 : Word)).rings.pending = none ∧
        ((262144 : ℕ) ≤ BitVec.toNat ((wDesc Mode.run (10 : Word)).reg (adr pRING (8 : ℕ))) ∨ (wDesc Mode.run
        (10 : Word)).fits none (2 : ℕ) cHOST (4 : ℕ) = true)) ∧
      ((if (10 : BitVec 16) = (0 : BitVec 16) then (0 : ℕ) else firstFailing [((1 : ℕ), decide (BitVec.toNat
        (100 : BitVec 19) + BitVec.toNat (10 : BitVec 16) ≤ (393216 : ℕ))), ((2 : ℕ), decide ((0 : BitVec 16) ≤
        (10 : BitVec 16))), ((3 : ℕ), decide (∀ d ∈ (wDesc Mode.run (10 : Word)).rings.desc, d.1 ≠ BitVec.toNat
        ((wDesc Mode.run (10 : Word)).reg (adr pRING (8 : ℕ))) → d.2.size ≠ (0 : BitVec 16) → BitVec.toNat
        (100 : BitVec 19) + BitVec.toNat (10 : BitVec 16) ≤ d.2.base.toNat ∨ d.2.base.toNat + d.2.size.toNat ≤
        BitVec.toNat (100 : BitVec 19)))]) = (0 : ℕ)) ∧
      ((wDesc Mode.run (10 : Word)).modes.mode = Mode.run ∨ (wDesc Mode.run (10 : Word)).modes.mode = Mode.mirror ∨
        (wDesc Mode.run (10 : Word)).modes.mode = Mode.safe) := by
  and_intros <;> decide +kernel

theorem witness_DescriptorsAndCompletions_11 :
    (wDesc Mode.configure (10 : Word)).busy pRING = false ∧
      BitVec.toNat ((wDesc Mode.configure (10 : Word)).reg (adr pRING (8 : ℕ))) < (262216 : ℕ) ∧
      ((wDesc Mode.configure (10 : Word)).rings.fill.getD (0 : ℕ) (0 : Word) = BitVec.setWidth (32 : ℕ)
        (100 : BitVec 19) ∧ (wDesc Mode.configure (10 : Word)).rings.fill.getD (1 : ℕ) (0 : Word) =
        (0 : BitVec 16) ++ (10 : BitVec 16)) ∧
      ((wDesc Mode.configure (10 : Word)).rings.waits = [] ∧ (wDesc Mode.configure (10 : Word)).rings.pending =
        none ∧ ((262144 : ℕ) ≤ BitVec.toNat ((wDesc Mode.configure (10 : Word)).reg (adr pRING (8 : ℕ))) ∨
        (wDesc Mode.configure (10 : Word)).fits none (2 : ℕ) cHOST (4 : ℕ) = true)) ∧
      ((if (10 : BitVec 16) = (0 : BitVec 16) then (0 : ℕ) else firstFailing [((1 : ℕ), decide (BitVec.toNat
        (100 : BitVec 19) + BitVec.toNat (10 : BitVec 16) ≤ (393216 : ℕ))), ((2 : ℕ), decide ((0 : BitVec 16) ≤
        (10 : BitVec 16))), ((3 : ℕ), decide (∀ d ∈ (wDesc Mode.configure (10 : Word)).rings.desc,
        d.1 ≠ BitVec.toNat ((wDesc Mode.configure (10 : Word)).reg (adr pRING (8 : ℕ))) → d.2.size ≠
        (0 : BitVec 16) → BitVec.toNat (100 : BitVec 19) + BitVec.toNat (10 : BitVec 16) ≤ d.2.base.toNat ∨
        d.2.base.toNat + d.2.size.toNat ≤ BitVec.toNat (100 : BitVec 19)))]) = (0 : ℕ)) ∧
      ((wDesc Mode.configure (10 : Word)).modes.mode = Mode.configure ∨ ¬((wDesc Mode.configure
        (10 : Word)).modes.mode = Mode.run ∨ (wDesc Mode.configure (10 : Word)).modes.mode = Mode.mirror ∨
        (wDesc Mode.configure (10 : Word)).modes.mode = Mode.safe) ∧ (wDesc Mode.configure (10 : Word)).hasUnsent
        (BitVec.toNat ((wDesc Mode.configure (10 : Word)).reg (adr pRING (8 : ℕ)))) = false) := by
  and_intros <;> decide +kernel

theorem witness_EventClear :
    (pageListed ((1 : ℕ) % (512 : ℕ)) = true ∧
      BitVec.extractLsb' (16 : ℕ) (16 : ℕ) (3 : Word) = (wRun.hdr ((1 : ℕ) % (512 : ℕ))).seq) ∧
    (pageListed ((1 : ℕ) % (512 : ℕ)) = true ∧
      BitVec.extractLsb' (16 : ℕ) (16 : ℕ) (65539 : Word) ≠ (wRun.hdr ((1 : ℕ) % (512 : ℕ))).seq) := by
  decide +kernel

theorem witness_SettingsAndHeaders :
    ((¬((inMode Mode.configure).modes.mode = Mode.configure ∧ (inMode Mode.configure).armHeld = false ∧ (400 : ℕ) ≤
      fld (10 : Word) (0 : ℕ) (28 : ℕ) ∧ fld (10 : Word) (0 : ℕ) (28 : ℕ) ≤ (200000000 : ℕ))) ∧
      (fld (10 : Word) (0 : ℕ) (11 : ℕ) + List.foldl (fun (t k : ℕ) => if k =
        (↑(0 : ClassIx) : ℕ) then t else t + BitVec.toNat ((inMode Mode.configure).reg (shareAdr (↑(0 : Fin
        (4 : ℕ)) : ℕ) k))) (0 : ℕ) (List.range (8 : ℕ)) ≤ (1024 : ℕ)) ∧
      (inMode Mode.configure).cmpLatch (0 : GroupIx) &&& (10 : Word) = (0 : Word) ∧
      (inMode Mode.configure).modes.mode = Mode.configure ∧
      (inMode Mode.configure).armHeld = false ∧
      pageListed ((0 : ℕ) % (512 : ℕ)) = true ∧
      decodeAdr (BitVec.toNat (32767 : BitVec 16)) = none) ∧
    (((inMode Mode.configure).modes.mode = Mode.configure ∧ (inMode Mode.configure).armHeld = false ∧ (400 : ℕ) ≤
      fld (4000 : Word) (0 : ℕ) (28 : ℕ) ∧ fld (4000 : Word) (0 : ℕ) (28 : ℕ) ≤ (200000000 : ℕ)) ∧
      (¬fld (4000 : Word) (0 : ℕ) (11 : ℕ) + List.foldl (fun (t k : ℕ) => if k =
        (↑(0 : ClassIx) : ℕ) then t else t + BitVec.toNat ((inMode Mode.configure).reg (shareAdr (↑(0 : Fin
        (4 : ℕ)) : ℕ) k))) (0 : ℕ) (List.range (8 : ℕ)) ≤ (1024 : ℕ)) ∧
      BitVec.toNat (264 : BitVec 16) = adr pESC (8 : ℕ)) ∧
    ((wRun.modes.mode ≠ Mode.configure ∨ wRun.armHeld = true)) ∧
    ((BitVec.ofNat (16 : ℕ) (adr (pGRP (0 : GroupIx)) (17 : ℕ))).toNat = adr (pGRP (0 : GroupIx)) (17 : ℕ)) ∧
    ((BitVec.ofNat (16 : ℕ) (adr (pGRP (0 : GroupIx)) (49 : ℕ))).toNat = adr (pGRP (0 : GroupIx)) (49 : ℕ)) := by
  decide +kernel

end Sys2Proof.Tests
end

section
/-! PROOFS. The flags of the engine's additions (05 R131, R539). -/

namespace Sys2Proof.Machine

open Sys2Proof

/-! ## Two's complement -/

/-- The result of the one addition, with its carry in, is a 32-bit sum. -/
theorem addFlags_fst (a b : Word) (cin : Bool) : (addFlags a b cin).1 = a + b + BitVec.ofNat 32 (b2n cin) := by
  apply BitVec.eq_of_toNat_eq
  simp [addFlags, BitVec.toNat_add]

/-- A 32-bit sum reads as the exact sum just where that lies in the signed range. -/
theorem toInt_sum_ne_iff (a b : Word) (c : Nat) :
    (a + b + BitVec.ofNat 32 c).toInt ≠ a.toInt + b.toInt + c ↔
      a.toInt + b.toInt + c < -(2 ^ 31) ∨ 2 ^ 31 ≤ a.toInt + b.toInt + c := by
  have hr : (a + b + BitVec.ofNat 32 c).toInt = (a.toInt + b.toInt + c).bmod (2 ^ 32) := by
    rw [BitVec.toInt_add, BitVec.toInt_add, BitVec.toInt_ofNat', Int.bmod_add_bmod, Int.add_bmod_bmod]
  rw [hr, Int.bmod_def]
  split <;> omega

/-- The flags the engine computes are those R539 defines. -/
theorem addFlags_snd (a b : Word) (cin : Bool) : (addFlags a b cin).2 = sumFlags a b (b2n cin) := by
  have hr := addFlags_fst a b cin
  have hv := toInt_sum_ne_iff a b (b2n cin)
  rw [← hr] at hv
  simp only [sumFlags, ← hr]
  simp only [addFlags] at hv ⊢
  simp only [hv, BitVec.msb_eq_getLsbD_last]
  rfl

theorem subFlags_fst (a b : Word) : (subFlags a b).1 = a - b := by
  simp only [subFlags, addFlags_fst, b2n, if_true]
  rw [BitVec.sub_eq_add_neg, BitVec.neg_eq_not_add, BitVec.add_assoc]

theorem subFlags_snd (a b : Word) : (subFlags a b).2 = sumFlags a (~~~b) 1 := addFlags_snd a (~~~b) true

/-- Of A + NOT B + 1 the carry says that A is at or above B. -/
theorem sumFlags_not_carry_iff (a b : Word) : (sumFlags a (~~~b) 1).c = true ↔ b.toNat ≤ a.toNat := by
  simp only [sumFlags, decide_eq_true_eq, BitVec.toNat_not]
  omega

/-! ## The word's effect -/

section
variable (s : State) (g : GroupIx)

/-- Two changes of one element are one. -/
theorem vmod_vmod {α : Type} {n : Nat} (v : Vector α n) (i : Fin n) (f h : α → α) :
    vmod (vmod v i f) i h = vmod v i (h ∘ f) := by
  simp [vmod]

theorem State.modE_modE (f h : Engine → Engine) : (s.modE g f).modE g h = s.modE g (h ∘ f) := by
  simp only [State.modE, State.modG, vmod_vmod]; rfl

/-- A result and its flags are written at the end of a field (R131). -/
theorem State.setX_setFlags (a : RegIx) (v : Word) (f : Flags) :
    (s.setX g a v).setFlags g f = s.aluDone g a v fun _ => f := by
  rw [State.setX, State.setFlags, State.modE_modE, State.aluDone]
  congr 1; funext e
  by_cases h : a = 0 <;> simp [Regs.set, h]

/-- A write of X0 with flags is a write of the flags (R131). -/
theorem State.setFlags_eq_aluDone (f : Flags) : s.setFlags g f = s.aluDone g 0 0 fun _ => f := rfl

variable {s g}

/-- An operation of a word that the engine stands at writes its result and its flags (R123, R131). -/
theorem State.alu_of_runs (h : Runs s g) (a : RegIx) (r : State → Word × Flags) :
    s.alu g a r = s.aluDone g a (r s).1 fun _ => (r s).2 := by
  rw [State.alu, s.field_ready g _ h, State.setX_setFlags]

/-- A compare of a word that the engine stands at writes its flags alone (R131). -/
theorem State.aluTest_of_runs (h : Runs s g) (f : State → Flags) : s.aluTest g f = s.aluDone g 0 0 fun _ => f s := by
  rw [State.aluTest, s.field_ready g _ h, State.setFlags_eq_aluDone]

end

/-- Settles O9: each operation's result and flags are those of the one addition of R539. -/
theorem engineSumFlags : Obligations.EngineSumFlags := by
  intro s g a b imm hr x y i
  have hsum (p q : Word) : addFlags p q false = (p + q, sumFlags p q 0) :=
    Prod.ext (by simp [addFlags_fst, b2n]) (addFlags_snd p q false)
  refine ⟨?add, ?addi, ?sub, ?cmp, ?cmpi, sumFlags_not_carry_iff x y, sumFlags_not_carry_iff x i⟩
  case add => exact congrArg _ ((State.alu_of_runs hr a _).trans (by rw [hsum]; rfl))
  case addi => exact congrArg _ ((State.alu_of_runs hr a _).trans (by rw [hsum]; rfl))
  case sub => exact congrArg _ ((State.alu_of_runs hr a _).trans (by rw [subFlags_fst, subFlags_snd]; rfl))
  case cmp => exact congrArg _ ((State.aluTest_of_runs hr _).trans (by rw [subFlags_snd]; rfl))
  case cmpi => exact congrArg _ ((State.aluTest_of_runs hr _).trans (by rw [subFlags_snd]; rfl))

end Sys2Proof.Machine
end

section
/-! PROOFS. Operations of the unit's stores, queues and fault messages leave the groups, and the registers of the groups'
pages, as they are. -/

namespace Sys2Proof.Machine

open Sys2Proof

/-- Neither a group nor a register of a group's page differs. -/
def GroupsKept (s t : State) : Prop := t.groups = s.groups ∧ ∀ g o, t.reg (adr (pGRP g) o) = s.reg (adr (pGRP g) o)

theorem GroupsKept.refl (s : State) : GroupsKept s s := ⟨rfl, fun _ _ => rfl⟩

theorem GroupsKept.trans {s t u : State} (h : GroupsKept s t) (k : GroupsKept t u) : GroupsKept s u :=
  ⟨k.1.trans h.1, fun g o => (k.2 g o).trans (h.2 g o)⟩

/-- A state with the same groups and the same live registers keeps both. -/
theorem GroupsKept.of_eq {s t : State} (hg : t.groups = s.groups) (hr : t.rf.live = s.rf.live) : GroupsKept s t :=
  ⟨hg, fun _ _ => by simp only [State.reg, hr]⟩

theorem GroupsKept.foldl {α : Type} {f : State → α → State} (h : ∀ s x, GroupsKept s (f s x)) (l : List α) (s : State) :
    GroupsKept s (l.foldl f s) :=
  List.foldlRecOn l f (.refl s) fun t ht x _ => ht.trans (h t x)

theorem GroupsKept.ite {c : Prop} [Decidable c] {s t u : State} (h : GroupsKept s t) (k : GroupsKept s u) :
    GroupsKept s (if c then t else u) := by
  split
  · exact h
  · exact k

variable (s : State)

/-! ## Registers and events -/

/-- The pages of the unit's blocks lie below the groups' pages (R479). -/
theorem State.setReg_groupsKept {a : Nat} (v : Word) (ha : a < adr 0x100 0) : GroupsKept s (s.setReg a v) :=
  ⟨rfl, fun g o => s.reg_setReg_ne v (by simp only [adr, pGRP] at ha ⊢; omega)⟩

theorem State.bump_groupsKept {a : Nat} (ha : a < adr 0x100 0) : GroupsKept s (s.bump a) := s.setReg_groupsKept _ ha

theorem State.bumpBy_groupsKept {a : Nat} (n : Nat) (ha : a < adr 0x100 0) : GroupsKept s (s.bumpBy a n) :=
  s.setReg_groupsKept _ ha

theorem State.event_groupsKept (p i : Nat) : GroupsKept s (s.event p i) := ⟨rfl, fun _ _ => rfl⟩

theorem State.takeInjection_groupsKept (t : Nat) : GroupsKept s (s.takeInjection t).2 := by
  unfold State.takeInjection
  dsimp only
  split
  · exact s.setReg_groupsKept _ (by decide)
  · exact .refl s

/-! ## The main SRAM (11 R291, R292) -/

theorem State.skipBack_groupsKept (a : Nat) : GroupsKept s (s.skipBack a) :=
  .ite (.trans (.of_eq rfl rfl) (State.bump_groupsKept _ (by decide))) (.refl s)

theorem State.sramWrite_groupsKept (a : Nat) (v : Word) : GroupsKept s (s.sramWrite a v) := by
  have h := (s.skipBack_groupsKept a).trans ((s.skipBack a).takeInjection_groupsKept (sramTarget a))
  unfold State.sramWrite
  generalize (s.skipBack a).takeInjection (sramTarget a) = x at h
  obtain ⟨_ | i, t⟩ := x
  · exact h.trans (.of_eq rfl rfl)
  · exact h.trans (.of_eq rfl rfl)

theorem State.writeBack_groupsKept : GroupsKept s s.writeBack := by
  have hFold := GroupsKept.foldl (fun t (e : Nat × Word) => t.sramWrite_groupsKept e.1 e.2) s.sram.back
    { s with sram := { s.sram with back := [] } }
  exact GroupsKept.trans (.of_eq rfl rfl) hFold

/-! ## Fault messages (18 R432), parity errors (11 R293) -/

theorem State.sendMsg_groupsKept (src : Nat) (m : Msg) : GroupsKept s (s.sendMsg src m) :=
  .ite (.of_eq rfl rfl)
    ((GroupsKept.of_eq rfl rfl).trans ((State.bump_groupsKept _ (by decide)).trans (State.event_groupsKept _ _ _)))

theorem State.raise_groupsKept (src kind a : Nat) : GroupsKept s (s.raise src kind a) := s.sendMsg_groupsKept src _

theorem State.raiseActed_groupsKept (src kind a : Nat) : GroupsKept s (s.raiseActed src kind a) :=
  s.sendMsg_groupsKept src _

theorem State.parityError_groupsKept (store loc : Nat) : GroupsKept s (s.parityError store loc) :=
  ((s.bump_groupsKept (by decide)).trans (State.setReg_groupsKept _ _ (by decide))).trans (State.event_groupsKept _ _ _)

/-! ## Queues (11 R270 to R294) -/

theorem State.setDesc_groupsKept (sel : Nat) (d : Desc) : GroupsKept s (s.setDesc sel d) :=
  (s.takeInjection_groupsKept 5).trans (.of_eq rfl rfl)

theorem State.writeSlot_groupsKept (d : Desc) (slot : Nat) (ws : List Word) : GroupsKept s (s.writeSlot d slot ws) :=
  .foldl (fun t _ => t.sramWrite_groupsKept _ _) _ _

theorem State.putEntry_groupsKept (sel : Nat) (ws : List Word) (frame : FrameNo) (tel : Bool) :
    GroupsKept s (s.putEntry sel ws frame tel) :=
  .trans (.trans (s.writeSlot_groupsKept _ _ ws) (.ite (State.writeSlot_groupsKept _ _ _ _) (.refl _))) (.of_eq rfl rfl)

theorem State.dropEntry_groupsKept (sel : Nat) : GroupsKept s (s.dropEntry sel) :=
  .trans (.ite (.refl s) (s.setDesc_groupsKept sel _))
    ((State.bump_groupsKept _ (by decide)).trans (State.event_groupsKept _ _ _))

theorem State.failQueue_groupsKept (sel : Nat) : GroupsKept s (s.failQueue sel) := by
  have hDiscard : GroupsKept s ((s.markDesc sel { s.desc sel with failed := true }).discardUnsent sel) :=
    .trans (.of_eq rfl rfl) (State.bumpBy_groupsKept _ _ (by decide))
  have hCount (t : State) : GroupsKept t ((t.setReg (adr pRING 0x15) (BitVec.ofNat 32 sel)).bump (adr pRING 0x16)) :=
    (t.setReg_groupsKept _ (by decide)).trans (State.bump_groupsKept _ (by decide))
  have hReport (t : State) (a : Nat) : GroupsKept t (((t.event pRING 4).parityError 3 sel).raise srcRING kDESC_PARITY a) :=
    ((t.event_groupsKept _ _).trans (State.parityError_groupsKept _ _ _)).trans (State.raise_groupsKept _ _ _ _)
  exact (hDiscard.trans (hCount _)).trans (hReport _ _)

theorem State.clearPend_groupsKept (sel : Nat) : GroupsKept s (s.clearPend sel) :=
  .ite (.refl s) (s.setDesc_groupsKept sel _)

theorem State.enterEvent_groupsKept (sel : Nat) (frame : FrameNo) (chan src reason : Nat) (value : Word) (pos : BitVec 28) :
    GroupsKept s (s.enterEvent sel frame chan src reason value pos) := by
  have hCount (t : State) : GroupsKept t (t.bump (adr pRING 0x10)) := t.bump_groupsKept (by decide)
  have hPut (ws : List Word) : GroupsKept s ((s.clearPend sel).putEntry sel ws frame false) :=
    (s.clearPend_groupsKept sel).trans (State.putEntry_groupsKept _ _ _ _ _)
  unfold State.enterEvent
  dsimp only
  split_ifs
  · exact hCount s
  · exact (s.failQueue_groupsKept sel).trans (hCount _)
  · exact (s.bump_groupsKept (by decide)).trans (State.event_groupsKept _ _ _)
  · exact (hPut _).trans (State.event_groupsKept _ _ _)
  · exact hPut _
  · exact s.dropEntry_groupsKept sel

theorem State.sinkEvent_groupsKept (d : Desc) (l : List Unsent) (s : State) : GroupsKept s (State.sinkEvent d l s) := by
  induction l generalizing s with
  | nil => exact .refl s
  | cons late l ih =>
    cases l with
    | nil => exact .refl s
    | cons early r =>
      rw [State.sinkEvent]
      exact .ite ((GroupsKept.of_eq rfl rfl).trans (ih _)) (.refl s)

theorem State.enterGroup_groupsKept (g : GroupIx) (frame : FrameNo) (chan src reason : Nat) (value : Word)
    (pos : BitVec 28) : GroupsKept s (s.enterGroup g frame chan src reason value pos) :=
  .ite ((s.enterEvent_groupsKept _ _ _ _ _ _ _).trans (State.sinkEvent_groupsKept _ _ _))
    (s.enterEvent_groupsKept _ _ _ _ _ _ _)

theorem State.groupEvent_groupsKept (g : GroupIx) (chan src reason : Nat) (value : Word) :
    GroupsKept s (s.groupEvent g chan src reason value) := s.enterGroup_groupsKept _ _ _ _ _ _ _

theorem State.amendEvent_groupsKept (sel : Nat) (was new value : Word) :
    GroupsKept s (s.amendEvent sel was new value) := by
  unfold State.amendEvent
  dsimp only
  split
  · exact s.sramWrite_groupsKept _ _
  · exact .refl s

/-! ## Rings (11 R280 to R284, R294) -/

theorem State.discardRecord_groupsKept (ring : Nat) : GroupsKept s (s.discardRecord ring) :=
  .trans (.ite (.refl s) ((s.failQueue_groupsKept ring).trans (State.groupEvent_groupsKept _ _ _ _ _ _)))
    (State.bump_groupsKept _ (by decide))

theorem State.enterRing_groupsKept (ring : Nat) (e : Entry) (frame : FrameNo) :
    GroupsKept s (s.enterRing ring e frame) := by
  have hGap (ws : List Word) : GroupsKept s (((s.clearPend ring).putEntry ring ws frame false).bump (adr pRING 0x11)) :=
    ((s.clearPend_groupsKept ring).trans (State.putEntry_groupsKept _ _ _ _ _)).trans (State.bump_groupsKept _ (by decide))
  have hMark (t : State) (c : Prop) [Decidable c] (g : GroupIx) (chan src reason : Nat) (v : Word) :
      GroupsKept t (if c then (t.event pRING 1).groupEvent g chan src reason v else t) :=
    .ite ((t.event_groupsKept _ _).trans (State.groupEvent_groupsKept _ _ _ _ _ _)) (.refl t)
  exact .ite (((GroupsKept.ite (.refl s) (hGap _)).trans (State.putEntry_groupsKept _ _ _ _ _)).trans (hMark _ _ _ _ _ _ _))
    (s.dropEntry_groupsKept ring)

theorem State.enterRecord_groupsKept (e : Entry) (frame : FrameNo) : GroupsKept s (s.enterRecord e frame) := by
  unfold State.enterRecord
  dsimp only
  split_ifs
  · exact s.discardRecord_groupsKept _
  · exact s.enterRing_groupsKept _ e frame
  · exact (s.discardRecord_groupsKept _).trans (State.event_groupsKept _ _ _)
  · exact (s.bump_groupsKept (by decide)).trans (State.event_groupsKept _ _ _)
  · exact s.enterRing_groupsKept _ e frame

end Sys2Proof.Machine
end

section
/-! PROOFS. Safe-path actions, holds, quads, patterns, captures and the entries of a routine leave each group's engine, slots
and stop as they are. -/

namespace Sys2Proof.Machine

open Sys2Proof

/-- The engine, the slots and the stop of a group are as they were. -/
def Group.Kept (x y : Group) : Prop := y.eng = x.eng ∧ y.slots = x.slots ∧ y.gstop = x.gstop

theorem Group.Kept.refl (x : Group) : x.Kept x := ⟨rfl, rfl, rfl⟩

theorem Group.Kept.trans {x y z : Group} (h : x.Kept y) (k : y.Kept z) : x.Kept z :=
  ⟨k.1.trans h.1, k.2.1.trans h.2.1, k.2.2.trans h.2.2⟩

theorem Group.Kept.withSends {x y : Group} (h : x.Kept y) (l : List TileSend) : x.Kept { y with sends := l } := h

theorem Group.Kept.foldl {α : Type} {f : Group → α → Group} (h : ∀ (x : Group) a, x.Kept (f x a)) (l : List α) (x : Group) :
    x.Kept (l.foldl f x) :=
  List.foldlRecOn l f (.refl x) fun y hy a _ => hy.trans (h y a)

theorem Group.modC_kept (x : Group) (l : LaneIx) (f : Channel → Channel) : x.Kept (x.modC l f) := ⟨rfl, rfl, rfl⟩

theorem Group.modLanes_kept (x : Group) (m : LaneMask) (f : LaneIx → Channel → Channel) : x.Kept (x.modLanes m f) :=
  .foldl (fun y l => y.modC_kept l (f l)) _ x

theorem Group.modSlice_kept (x : Group) (l : LaneIx) (f : Slice → Slice) : x.Kept (x.modSlice l f) := ⟨rfl, rfl, rfl⟩

theorem Group.finishJob_kept (x : Group) (l : LaneIx) : x.Kept (x.finishJob l) := x.modSlice_kept l _

theorem Group.stopCont_kept (x : Group) (p : Job → Bool) : x.Kept (x.stopCont p) := by
  refine Group.Kept.foldl (fun y l => ?_) _ x
  split
  · split
    · exact y.finishJob_kept l
    · exact .refl y
  · exact .refl y

theorem Group.shutWindows_kept (x : Group) : x.Kept x.shutWindows :=
  (x.modLanes_kept 0xFFFF _).withSends _

theorem Group.cancelLane_kept (p : Nat) (x : Group) (l : LaneIx) : x.Kept (Group.cancelLane p x l) := by
  unfold Group.cancelLane
  extract_lets mine others y z
  have hy : x.Kept y := x.modC_kept l _
  have hz : x.Kept z := hy.trans (y.modSlice_kept l _)
  clear_value z
  split
  · split
    · exact hz.trans (z.finishJob_kept l)
    · exact hz
  · exact hz.trans (z.modSlice_kept l _)

/-- The engine, the slots and the stop of every group are as they were. -/
def ProgramsKept (s t : State) : Prop := ∀ g, (s.grp g).Kept (t.grp g)

theorem ProgramsKept.refl (s : State) : ProgramsKept s s := fun _ => .refl _

theorem ProgramsKept.trans {s t u : State} (h : ProgramsKept s t) (k : ProgramsKept t u) : ProgramsKept s u :=
  fun g => (h g).trans (k g)

theorem ProgramsKept.foldl {α : Type} {f : State → α → State} (h : ∀ s x, ProgramsKept s (f s x)) (l : List α) (s : State) :
    ProgramsKept s (l.foldl f s) :=
  List.foldlRecOn l f (.refl s) fun t ht x _ => ht.trans (h t x)

theorem ProgramsKept.ite {c : Prop} [Decidable c] {s t u : State} (h : ProgramsKept s t) (k : ProgramsKept s u) :
    ProgramsKept s (if c then t else u) := by
  split
  · exact h
  · exact k

/-- A state with the same groups keeps them. -/
theorem ProgramsKept.of_groups {s t : State} (h : t.groups = s.groups) : ProgramsKept s t := fun g => by
  rw [State.grp, State.grp, h]; exact .refl _

theorem GroupsKept.programs {s t : State} (h : GroupsKept s t) : ProgramsKept s t := .of_groups h.1

variable (s : State)

theorem State.modG_kept (g : GroupIx) {f : Group → Group} (hf : (s.grp g).Kept (f (s.grp g))) :
    ProgramsKept s (s.modG g f) := fun h => by
  by_cases hg : h = g
  · subst hg; rw [s.grp_modG_same]; exact hf
  · rw [s.grp_modG_ne f hg]; exact .refl _

/-! Updates of one part of a group that is neither engine, slots nor stop. -/

theorem State.modC_kept (g : GroupIx) (l : LaneIx) (f : Channel → Channel) : ProgramsKept s (s.modC g l f) :=
  s.modG_kept g ⟨rfl, rfl, rfl⟩

theorem State.modQ_kept (g : GroupIx) (j : QuadIx) (f : Quad → Quad) : ProgramsKept s (s.modQ g j f) :=
  s.modG_kept g ⟨rfl, rfl, rfl⟩

theorem State.modSt_kept (i : StreamIx) (f : Stream → Stream) : ProgramsKept s (s.modSt i f) := .of_groups rfl

theorem State.setReg_kept (a : Nat) (v : Word) : ProgramsKept s (s.setReg a v) := .of_groups rfl

theorem State.bump_kept (a : Nat) : ProgramsKept s (s.bump a) := s.setReg_kept a _

theorem State.event_kept (p i : Nat) : ProgramsKept s (s.event p i) := .of_groups rfl

/-! ## Relays (03 R63, R64) -/

theorem State.feEvent_kept (g : GroupIx) (l : LaneIx) (reason : Nat) (high : Bool) :
    ProgramsKept s (s.feEvent g l reason high) := (s.groupEvent_groupsKept _ _ _ _ _).programs

theorem State.raise_kept (src kind a : Nat) : ProgramsKept s (s.raise src kind a) := (s.raise_groupsKept _ _ _).programs

theorem State.refuseRelay_kept (g : GroupIx) (l : LaneIx) (reason : Nat) : ProgramsKept s (s.refuseRelay g l reason) :=
  (s.bump_kept _).trans (.ite (.refl _)
    ((State.feEvent_kept _ g l reason true).trans (.ite (State.raise_kept _ _ _ _) (.refl _))))

theorem State.countClose_kept (g : GroupIx) (l : LaneIx) (beamB : Bool) : ProgramsKept s (s.countClose g l beamB) := by
  have hReport (t : State) (c : Prop) [Decidable c] :
      ProgramsKept t (if c then (t.event pWEAR 2).raise srcWEAR kWEAR_SAT (chanNo g l) else t) :=
    .ite ((t.event_groupsKept _ _).trans (State.raise_groupsKept _ _ _ _)).programs (.refl t)
  exact .ite (.refl s) ((s.modC_kept g l _).trans (hReport _ _))

theorem State.relayClose_kept (g : GroupIx) (l : LaneIx) : ProgramsKept s (s.relayClose g l) := by
  unfold State.relayClose
  split
  · exact s.refuseRelay_kept g l 3
  · exact (s.countClose_kept g l _).trans (State.modC_kept _ g l _)

theorem State.relayTo_kept (g : GroupIx) (l : LaneIx) (close : Bool) : ProgramsKept s (s.relayTo g l close) := by
  -- The relay is there, or on its way there, in every case but the last two.
  unfold State.relayTo
  split
  case h_5 => exact s.relayClose_kept g l
  case h_6 => exact s.modC_kept g l _
  all_goals exact .refl s

/-! ## Safe-path actions, holds, quad faults (03 R77, 06 R183, R184, 12 R302) -/

theorem State.actRaw_kept (g : GroupIx) (l : LaneIx) (a : SafeAction) : ProgramsKept s (s.actRaw g l a) :=
  .ite (.refl s) (.trans (.trans (s.modG_kept g ⟨rfl, rfl, rfl⟩) (State.modC_kept _ g l _))
    (.ite (State.relayTo_kept _ g l false) (.refl _)))

theorem State.actGang_kept (g : GroupIx) (l : LaneIx) (a : SafeAction) : ProgramsKept s (s.actGang g l a) :=
  .foldl (fun t m => t.actRaw_kept g m a) _ s

theorem State.holdResult_kept (g : GroupIx) (l : LaneIx) (result : Nat) : ProgramsKept s (s.holdResult g l result) := by
  have hDue (t : State) :
      ProgramsKept t (t.modG g fun gr => { gr with fpDue := setLane gr.fpDue l (result != 0) }) :=
    t.modG_kept g ⟨rfl, rfl, rfl⟩
  unfold State.holdResult
  dsimp only
  split
  · exact ((s.setReg_kept _ _).trans (hDue _)).trans (State.bump_kept _ _)
  · exact ((s.setReg_kept _ _).trans (hDue _)).trans ((State.bump_kept _ _).trans (State.event_kept _ _ _))

theorem State.dropCommit_kept (g : GroupIx) (l : LaneIx) : ProgramsKept s (s.dropCommit g l) :=
  .ite (s.setReg_kept _ _) (.refl s)

theorem State.abortHold_kept (g : GroupIx) (l : LaneIx) : ProgramsKept s (s.abortHold g l) := by
  unfold State.abortHold
  dsimp only
  split
  · exact ((s.dropCommit_kept g l).trans (State.modG_kept _ g ⟨rfl, rfl, rfl⟩)).trans (State.holdResult_kept _ g l 3)
  · exact .refl s

theorem State.lowerCause_kept (g : GroupIx) (j : QuadIx) (cause : Nat) : ProgramsKept s (s.lowerCause g j cause) := by
  have hQueue (q : Table (List Msg)) (sel : Nat) (a b c : Word) :
      ProgramsKept s (({ s with flt := { s.flt with queues := q } } : State).amendEvent sel a b c) :=
    .trans (.of_groups rfl) (State.amendEvent_groupsKept _ _ _ _ _).programs
  exact (hQueue _ _ _ _ _).trans (State.modQ_kept _ g j _)

theorem State.quadFault_kept (g : GroupIx) (j : QuadIx) (cause : Nat) : ProgramsKept s (s.quadFault g j cause) := by
  have hFault (t : State) : ProgramsKept t ((t.actGang g (quadLane j 0) .cutoff).bump (adr (pGRP g) 0x3D)) :=
    (t.actGang_kept g _ _).trans (State.bump_kept _ _)
  have hReport (t : State) (a : Nat) : ProgramsKept t ((t.raise (srcGRP g) kQUAD a).groupEvent g
      (chanNo g (quadLane j 0)) 4 cause (quadValue g j)) :=
    (t.raise_kept _ _ _).trans (State.groupEvent_groupsKept _ _ _ _ _ _).programs
  exact .ite (((s.modQ_kept g j _).trans (hFault _)).trans (hReport _ _)) (.ite (s.lowerCause_kept g j cause) (.refl s))

theorem State.act_kept (g : GroupIx) (l : LaneIx) (a : SafeAction) : ProgramsKept s (s.act g l a) :=
  ((s.actRaw_kept g l a).trans (.ite (State.abortHold_kept _ g l) (.refl _))).trans
    (.ite (State.quadFault_kept _ g _ 10) (.refl _))

theorem State.actMask_kept (g : GroupIx) (m : LaneMask) (a : SafeAction) : ProgramsKept s (s.actMask g m a) :=
  .foldl (fun t l => t.act_kept g l a) _ s

theorem State.abortHolds_kept (g : GroupIx) : ProgramsKept s (s.abortHolds g) :=
  .trans (.foldl (fun t l => t.abortHold_kept g l) _ s) (State.modG_kept _ g ⟨rfl, rfl, rfl⟩)

/-! ## Patterns, captures, waveform (07 R201, R202, 08 R231, 10 R262) -/

theorem State.endPattern_kept (g : GroupIx) : ProgramsKept s (s.endPattern g) := by
  unfold State.endPattern
  dsimp only
  split
  · exact .refl s
  · exact s.modG_kept g ⟨rfl, rfl, rfl⟩
  · exact .ite (s.modSt_kept _ _) (s.modG_kept g ⟨rfl, rfl, rfl⟩)

theorem State.cancelPattern_kept (g : GroupIx) (p : Nat) : ProgramsKept s (s.cancelPattern g p) := by
  refine .ite ?_ (.refl s)
  dsimp only
  split
  · exact .refl s
  · exact s.modG_kept g ⟨rfl, rfl, rfl⟩
  · exact .ite (s.modSt_kept _ _) (s.modG_kept g ⟨rfl, rfl, rfl⟩)

theorem State.abortCapture_kept (g : GroupIx) : ProgramsKept s (s.abortCapture g) :=
  .ite ((s.modG_kept g ⟨rfl, rfl, rfl⟩).trans (State.event_kept _ _ _)) (.refl s)

theorem State.wavFault_kept (g : GroupIx) : ProgramsKept s (s.wavFault g) := s.modG_kept g ⟨rfl, rfl, rfl⟩

/-! ## Cancellation of a pass (05 R146) -/

theorem State.beginSample_kept (g : GroupIx) (l : LaneIx) : ProgramsKept s (s.beginSample g l) := by
  unfold State.beginSample
  dsimp only
  split
  · exact .refl s
  · exact .ite (.refl s) (s.modG_kept g ⟨rfl, rfl, rfl⟩)

theorem State.cancelPass_kept (g : GroupIx) (p : Nat) : ProgramsKept s (s.cancelPass g p) := by
  have hLanes : (s.grp g).Kept ((below 16).foldl (Group.cancelLane p) (s.grp g)) :=
    Group.Kept.foldl (Group.cancelLane_kept p) (below 16) (s.grp g)
  have hSample (t : State) : ProgramsKept t ((below 16).foldl (fun t l => t.beginSample g l) t) :=
    ProgramsKept.foldl (fun t l => t.beginSample_kept g l) (below 16) t
  unfold State.cancelPass
  extract_lets t u v
  have ht : ProgramsKept s t := s.modG_kept g (hLanes.withSends _)
  have hv : ProgramsKept u v := u.modG_kept g (Group.modLanes_kept _ _ _)
  exact (ht.trans (hSample t)).trans (hv.trans (v.cancelPattern_kept g p))

/-! ## Clears and operations at the tile (03 R71, R73, 01 R6) -/

theorem State.clearAndMark_kept (g : GroupIx) (hi lo : LaneMask) : ProgramsKept s (s.clearAndMark g hi lo) := by
  have hClear : ProgramsKept s (s.clearLatches g hi lo) :=
    (s.modG_kept g (Group.modLanes_kept _ _ _)).trans (State.modG_kept _ g ⟨rfl, rfl, rfl⟩)
  exact hClear.trans (.ite (State.modG_kept _ g (Group.modLanes_kept _ _ _)) (.refl _))

theorem State.clearsArrive_kept (g : GroupIx) : ProgramsKept s (s.clearsArrive g) := by
  have hFold (t : State) (l : List LatchClear) : ProgramsKept t (l.foldl (fun t c => t.clearAndMark g c.hi c.lo) t) :=
    ProgramsKept.foldl (fun t (c : LatchClear) => t.clearAndMark_kept g c.hi c.lo) l t
  have hDrop (l : List LatchClear) : ProgramsKept s (s.modG g fun gr => { gr with clears := l }) :=
    s.modG_kept g ⟨rfl, rfl, rfl⟩
  unfold State.clearsArrive
  extract_lets l here
  split
  · exact (hDrop _).trans (hFold _ _)
  · exact .refl s

/-! ## Staged entries (05 R144) -/

theorem State.releaseRecord_kept (g : GroupIx) (c : ClassIx) (e : Entry) : ProgramsKept s (s.releaseRecord g c e) :=
  .trans ((s.enterRecord_groupsKept e _).programs.trans (.of_groups rfl))
    (.ite (.refl _) (State.modG_kept _ g ⟨rfl, rfl, rfl⟩))

theorem State.releaseStaged_kept (g : GroupIx) (e : Staged) : ProgramsKept s (s.releaseStaged g e) := by
  cases e with
  | record e => exact s.releaseRecord_kept g _ e
  | event code value pos frame => exact (s.enterGroup_groupsKept _ _ _ _ _ _ _).programs

end Sys2Proof.Machine
end

section
/-! PROOFS. A group stop (02 R38, 05 R149); and that whatever acts on a routine keeps its return stack and its count of
restarts, or empties the stack (05 R128, R146). -/

namespace Sys2Proof.Machine

open Sys2Proof

/-! ## The return stack and the count of restarts -/

/-- Of an engine, the return stack and the count of restarts are as they were, or the stack is empty. -/
def Engine.StackKept (e f : Engine) : Prop := f.stack = [] ∨ (f.stack = e.stack ∧ f.restarts = e.restarts)

theorem Engine.StackKept.refl (e : Engine) : e.StackKept e := .inr ⟨rfl, rfl⟩

theorem Engine.StackKept.trans {e f k : Engine} (h : e.StackKept f) (i : f.StackKept k) : e.StackKept k := by
  obtain i | ⟨is, ir⟩ := i
  · exact .inl i
  · obtain h | ⟨hs, hr⟩ := h
    · exact .inl (is.trans h)
    · exact .inr ⟨is.trans hs, ir.trans hr⟩

/-- An empty stack stays empty. -/
theorem Engine.StackKept.stack_nil {e f : Engine} (h : e.StackKept f) (he : e.stack = []) : f.stack = [] := by
  obtain h | ⟨h, -⟩ := h
  · exact h
  · exact h.trans he

/-- So of every group's engine. -/
def StacksKept (s t : State) : Prop := ∀ g, (s.grp g).eng.StackKept (t.grp g).eng

theorem StacksKept.refl (s : State) : StacksKept s s := fun _ => .refl _

theorem StacksKept.trans {s t u : State} (h : StacksKept s t) (k : StacksKept t u) : StacksKept s u :=
  fun g => (h g).trans (k g)

theorem StacksKept.foldl {α : Type} {f : State → α → State} (h : ∀ s x, StacksKept s (f s x)) (l : List α) (s : State) :
    StacksKept s (l.foldl f s) :=
  List.foldlRecOn l f (.refl s) fun t ht x _ => ht.trans (h t x)

theorem StacksKept.eachG {f : State → GroupIx → State} (h : ∀ s g, StacksKept s (f s g)) (s : State) :
    StacksKept s (s.eachG f) := .foldl h (below 64) s

theorem StacksKept.ite {c : Prop} [Decidable c] {s t u : State} (h : StacksKept s t) (k : StacksKept s u) :
    StacksKept s (if c then t else u) := by
  split
  · exact h
  · exact k

theorem ProgramsKept.stacks {s t : State} (h : ProgramsKept s t) : StacksKept s t := fun g => by
  rw [(h g).1]; exact .refl _

/-! ## Group stop -/

/-- A group as it is stopped: no routine runs, its slots are empty. -/
def Group.halt (x : Group) : Group := { x.haltEngine with slots := Vector.replicate 8 {}, gstop := true }

@[simp] theorem Group.haltEngine_running (x : Group) : x.haltEngine.eng.running = false := by
  unfold Group.haltEngine
  split
  · rfl
  · simp_all

@[simp] theorem Group.haltEngine_stack (x : Group) : x.haltEngine.eng.stack = x.eng.stack := by
  unfold Group.haltEngine
  split <;> rfl

@[simp] theorem Group.haltEngine_restarts (x : Group) : x.haltEngine.eng.restarts = x.eng.restarts := by
  unfold Group.haltEngine
  split <;> rfl

/-- What a stop sets beside the engine, of a group whose engine is kept. -/
theorem Group.Kept.withStop {x y : Group} (h : x.Kept y) (d : List (Fin 8 × Slot)) (v : Vector (Option Slot) 8) :
    { x with slots := Vector.replicate 8 {}, gstop := true }.Kept
      { y with slots := Vector.replicate 8 {}, leaving := v, due := d, gstop := true } := ⟨h.1, rfl, rfl⟩

variable (s : State) (g : GroupIx)

/-- The actions of a stop halt its group; of every other group engine, slots and stop are as they were (02 R38). -/
theorem State.groupActions_grp (kind addr : Nat) (h : GroupIx) :
    (if h = g then (s.grp g).halt else s.grp h).Kept ((s.groupActions g kind addr).grp h) := by
  have hOutputs (t : State) : ProgramsKept t
      (((((t.actMask g 0xFFFF .safeState).endPattern g).abortCapture g).wavFault g).abortHolds g) :=
    ((((t.actMask_kept g _ _).trans (State.endPattern_kept _ g)).trans (State.abortCapture_kept _ g)).trans
      (State.wavFault_kept _ g)).trans (State.abortHolds_kept _ g)
  have hReport (t : State) (v : Word) : ProgramsKept t
      ((t.setReg (adr (pGRP g) 0x33) v).groupEvent g 0 2 kind (BitVec.ofNat 32 addr)) :=
    (t.setReg_kept _ _).trans (State.groupEvent_groupsKept _ _ _ _ _ _).programs
  unfold State.groupActions
  extract_lets u v w x y z
  have hv : (if h = g then (s.grp g).halt else s.grp h).Kept (v.grp h) := by
    split
    case isTrue hg =>
      subst hg
      rw [State.grp_modG_same]
      exact ((Group.stopCont_kept _ _).trans (Group.shutWindows_kept _)).withStop _ _
    case isFalse hg =>
      rw [State.grp_modG_ne _ _ hg]
      exact .refl _
  exact hv.trans ((hOutputs v).trans (hReport _ _) h)

/-- The fault kind and the word's address stand in GE_STOP (R149). -/
theorem State.groupActions_reason (kind addr : Nat) :
    (s.groupActions g kind addr).reg (adr (pGRP g) 0x33) = BitVec.ofNat 32 (kind * 65536 + addr) := by
  unfold State.groupActions
  extract_lets u v w x y z
  rw [(State.groupEvent_groupsKept _ _ _ _ _ _).2, State.reg_setReg_same, Nat.shiftLeft_eq]

/-- The message and the events of a stop leave the groups as they are. -/
theorem State.groupStop_eq (kind : Nat) (addr : BitVec 12) :
    ∃ t, GroupsKept s t ∧ s.groupStop g kind addr = t.groupActions g kind addr.toNat := by
  refine ⟨_, ?_, rfl⟩
  exact (s.raiseActed_groupsKept _ _ _).trans
    (.ite ((State.event_groupsKept _ _ _).trans (State.groupEvent_groupsKept _ _ _ _ _ _)) (.refl _))

theorem State.groupStop_grp (kind : Nat) (addr : BitVec 12) (h : GroupIx) :
    (if h = g then (s.grp g).halt else s.grp h).Kept ((s.groupStop g kind addr).grp h) := by
  obtain ⟨t, ⟨ht, -⟩, he⟩ := s.groupStop_eq g kind addr
  have hgrp (k : GroupIx) : t.grp k = s.grp k := by rw [State.grp, ht, State.grp]
  have hk := t.groupActions_grp g kind addr.toNat h
  rwa [hgrp, hgrp, ← he] at hk

theorem State.groupStop_reason (kind : Nat) (addr : BitVec 12) :
    (s.groupStop g kind addr).reg (adr (pGRP g) 0x33) = BitVec.ofNat 32 (kind * 65536 + addr.toNat) := by
  obtain ⟨t, -, he⟩ := s.groupStop_eq g kind addr
  rw [he, t.groupActions_reason]

theorem State.groupStop_stopped (kind : Nat) (addr : BitVec 12) : Stopped (s.groupStop g kind addr) g := by
  obtain ⟨heng, hslots, hstop⟩ := s.groupStop_grp g kind addr g
  rw [if_pos rfl] at heng hslots hstop
  refine ⟨hstop, ?_, fun i => ?_⟩
  · rw [heng]; exact (s.grp g).haltEngine_running
  · rw [hslots]; simp [Group.halt]

theorem State.modG_stacksKept {f : Group → Group} (hf : (s.grp g).eng.StackKept (f (s.grp g)).eng) :
    StacksKept s (s.modG g f) := fun h => by
  by_cases hg : h = g
  · subst hg; rw [s.grp_modG_same]; exact hf
  · rw [s.grp_modG_ne f hg]; exact .refl _

/-! ## Stops and abandonment (05 R144 to R149) -/

/-- A stopped routine's stack stays for inspection (R154). -/
theorem State.groupStop_stacksKept (kind : Nat) (addr : BitVec 12) : StacksKept s (s.groupStop g kind addr) := fun h => by
  rw [(s.groupStop_grp g kind addr h).1]
  split
  case isTrue hg => subst hg; exact .inr ⟨Group.haltEngine_stack _, Group.haltEngine_restarts _⟩
  case isFalse => exact .refl _

theorem State.fetch_stacksKept : StacksKept s (s.fetch g) :=
  .ite ((s.parityError_groupsKept _ _).programs.stacks.trans (State.groupStop_stacksKept _ g _ _)) (.refl s)

/-- A routine that is restarted has an empty stack (R128, R146). -/
theorem State.abandonNow_stacksKept : StacksKept s (s.abandonNow g) := by
  have hRestart (t : State) :
      StacksKept t ((t.modG g fun gr => { gr with staging := [], eng := gr.eng.restore }).bump (adr (pGRP g) 0x36)) :=
    (t.modG_stacksKept g (.inl rfl)).trans (State.bump_kept _ _).stacks
  exact .ite (s.groupStop_stacksKept g _ _)
    (((s.cancelPass_kept g _).stacks.trans (hRestart _)).trans (State.fetch_stacksKept _ g))

theorem State.abandonEvent_stacksKept (loss : Bool) : StacksKept s (s.abandonEvent g loss) := by
  unfold State.abandonEvent
  dsimp only
  split_ifs
  · exact .refl s
  · exact s.modG_stacksKept g (.inr ⟨rfl, rfl⟩)
  · exact .refl s
  · exact s.abandonNow_stacksKept g
  · exact s.modG_stacksKept g (.inr ⟨rfl, rfl⟩)

theorem State.cpmParity_stacksKept (a : Nat) : StacksKept s (s.cpmParity g a) :=
  ((s.parityError_groupsKept _ _).trans (State.raise_groupsKept _ _ _ _)).programs.stacks.trans
    (State.abandonEvent_stacksKept _ g true)

theorem State.readCpm_stacksKept (l : LaneIx) (ws : List Nat) {f : State → State} (hf : StacksKept s (f s)) :
    StacksKept s (s.readCpm g l ws f) :=
  .ite hf (StacksKept.foldl (fun t k => t.cpmParity_stacksKept g k) _ s)

/-! ## Operations at the tile (01 R6) -/

theorem State.tileAct_stacksKept (x : TileSend) : StacksKept s (s.tileAct g x) := by
  obtain ⟨arrives, l, op⟩ := x
  cases op with
  | armPw j => exact s.readCpm_stacksKept g _ _ (s.modC_kept g _ _).stacks
  | tdcOpen pass => exact s.readCpm_stacksKept g _ _ (s.modC_kept g _ _).stacks
  | tdcRead => exact ((s.modC_kept g _ _).trans (State.modC_kept _ g _ _)).stacks
  | disarmPw | adcRead | tdcClose | tdcClear | restore c => exact (s.modC_kept g _ _).stacks

theorem State.sendsArrive_stacksKept : StacksKept s (s.sendsArrive g) := by
  have hDrop (l : List TileSend) : StacksKept s (s.modG g fun gr => { gr with sends := l }) :=
    s.modG_stacksKept g (.refl _)
  unfold State.sendsArrive
  extract_lets l here
  split
  · exact (hDrop _).trans (StacksKept.foldl (fun t x => t.tileAct_stacksKept g x) _ _)
  · exact .refl s

/-! ## Time (05 R130, R142, R148) -/

theorem State.latchView_stacksKept : StacksKept s (s.latchView g) := s.modG_stacksKept g (.inr ⟨rfl, rfl⟩)

theorem Engine.flow_stackKept (e : Engine) (n : Nat) : e.StackKept (e.flow n) := by
  unfold Engine.flow
  split
  · exact .inr ⟨rfl, rfl⟩
  · exact .refl e

theorem vmap_get {α β : Type} {n : Nat} (f : α → β) (v : Vector α n) (i : Fin n) : (vmap f v)[i] = f v[i] := by
  simp [vmap]

theorem State.flow_stacksKept (n : Nat) : StacksKept s (s.flow n) := by
  have hGroup (t : State) (g : GroupIx) : StacksKept t
      (if (((t.clearsArrive g).sendsArrive g).grp g).eng.running then ((t.clearsArrive g).sendsArrive g).latchView g
        else (t.clearsArrive g).sendsArrive g) := by
    have hArrive := (t.clearsArrive_kept g).stacks.trans (State.sendsArrive_stacksKept _ g)
    exact .ite (hArrive.trans (State.latchView_stacksKept _ g)) hArrive
  unfold State.flow
  split
  · exact .refl s
  · extract_lets e t
    have ht : StacksKept s t := fun g => by
      have hg : t.grp g = { s.grp g with eng := (s.grp g).eng.flow n } := vmap_get _ _ _
      rw [hg]; exact Engine.flow_stackKept _ n
    exact ht.trans (StacksKept.eachG hGroup t)

theorem State.endCycles_stacksKept : StacksKept s s.endCycles :=
  StacksKept.eachG (fun t g => .ite (t.abandonNow_stacksKept g) (.refl t)) s

theorem State.fireLimits_stacksKept : StacksKept s s.fireLimits := by
  have hBack (t : State) (g : GroupIx) (k : Nat) (a : BitVec 12) : StacksKept t ((t.modE g Engine.back).groupStop g k a) :=
    (t.modG_stacksKept g (.inr ⟨rfl, rfl⟩)).trans (State.groupStop_stacksKept _ g k a)
  exact StacksKept.eachG (fun t g => .ite (hBack t g _ _) (.ite (t.groupStop_stacksKept g _ _) (.refl t))) s

theorem State.advanceFor_stacksKept (fuel n : Nat) (s : State) : StacksKept s (State.advanceFor fuel n s) := by
  induction fuel generalizing n s with
  | zero => exact s.flow_stacksKept n
  | succ fuel ih =>
    change StacksKept s (if n = 0 then s else _)
    split
    · exact .refl s
    · extract_lets t
      have ht : StacksKept s t := s.endCycles_stacksKept
      have hPass : StacksKept s (t.flow n) := ht.trans (t.flow_stacksKept n)
      split
      case h_1 => exact hPass
      case h_2 k _ =>
        have hFire : StacksKept s (t.flow k).fireLimits :=
          (ht.trans (t.flow_stacksKept k)).trans (State.fireLimits_stacksKept _)
        exact .ite (hFire.trans (ih _ _)) hPass

theorem State.advance_stacksKept (n : Nat) : StacksKept s (s.advance n) :=
  .ite (.refl s) (s.writeBack_groupsKept.programs.stacks.trans (State.advanceFor_stacksKept 65 n _))

end Sys2Proof.Machine
end

section
/-! PROOFS. The return stack (05 R128): where a word goes with the stack it leaves; a release, a restart and an END. -/

namespace Sys2Proof.Machine

open Sys2Proof

section
variable {s t : State} {g : GroupIx}

/-! ## A branch condition takes nothing but a free value (05 R127) -/

theorem State.cond_frame (s : State) (g : GroupIx) (code : BitVec 6) (m : LaneMask) (a : RegIx) :
    (s.cond g code m a).2 = { s with draws := (s.cond g code m a).2.draws } := by
  unfold State.cond
  dsimp only
  split_ifs
  · rfl
  · exact s.clampAct_frame g
  · rfl

/-! ## Where a word goes (05 R123, R129) -/

theorem OnlyEngine.refl (g : GroupIx) (s : State) : OnlyEngine g s s := ⟨⟨rfl, fun _ _ => rfl⟩, rfl⟩

/-- A change of the engine changes the engine only. -/
theorem OnlyEngine.modE (h : OnlyEngine g s t) (f : Engine → Engine) : OnlyEngine g s (t.modE g f) := by
  obtain ⟨⟨hs, hne⟩, hg⟩ := h
  refine ⟨⟨?_, fun k hk => ?_⟩, ?_⟩
  · rw [hs]; rfl
  · rw [t.grp_modE_ne f hk, hne k hk]
  · rw [t.grp_modE_same, hg]

/-- With no event due a word goes to an address of the extent whose parity is right, with the return stack it leaves. -/
theorem State.goTo_goesTo {n : Nat} {st : List (BitVec 12)} (hf : Fetchable s g n) (hr : Runs s g)
    (hd : (s.grp g).eng.abDue = false) (ht : OnlyEngine g { s with draws := t.draws } t)
    (he : (t.grp g).eng = { (s.grp g).eng with stack := st }) :
    GoesTo g n (s.grp g).eng.regs st s (t.goTo g n) := by
  obtain ⟨hlo, hhi, hn, hbad⟩ := hf
  simp only [Runs, Engine.ready, Bool.and_eq_true, Bool.not_eq_true'] at hr
  have hpc : (BitVec.ofNat 12 n).toNat = n := by simp; omega
  have hstores : t.stores = s.stores := by rw [ht.1.1]
  have hext : ¬ (n < (t.grp g).eng.entry.toNat ∨ (t.grp g).eng.entry.toNat + (t.grp g).eng.len.toNat ≤ n) := by
    rw [he]; dsimp only; omega
  have hdue : ¬ (t.grp g).eng.abDue = true := by rw [he]; simp [hd]
  have hstep : t.goTo g n = t.modE g fun e => { e with
      lastPc := e.pc, pc := BitVec.ofNat 12 n, spent := true, lcLoaded := false } := by
    have hparity : (t.modE g fun e => { e with
        lastPc := e.pc, pc := BitVec.ofNat 12 n, spent := true, lcLoaded := false }).ucBad g n = false := by
      simpa only [State.ucBad, State.uc, State.modE_stores, hstores] using hbad
    rw [State.goTo, if_neg hext, if_neg hdue, State.endCycle, State.fetch, State.grp_modE_same]
    dsimp only
    rw [hpc, hparity, Bool.and_false]
    rfl
  rw [hstep]
  simp only [GoesTo, State.grp_modE_same, he, hpc, hr, State.modE_draws, true_and]
  exact ht.modE _

/-! ## CALL and RETURN (05 R128) -/

/-- A SEQ field of a word that the engine stands at acts at once (R123). -/
theorem exec_seq_of_runs {i : Instr} {f : Engine → State → State} (hr : Runs s g) (hi : exec i s = .next (s.seq g f)) :
    exec i s = .next (f (s.grp g).eng s) :=
  hi.trans (congrArg Host.Outcome.next (s.field_ready g (fun s => f (s.grp g).eng s) hr))

/-- A CALL or RETURN whose condition does not hold goes on, with the stack as it was. -/
theorem State.goTo_notTaken {code : BitVec 6} {m : LaneMask} {a : RegIx} (hr : Runs s g) (hd : (s.grp g).eng.abDue = false)
    (hf : Fetchable s g ((s.grp g).eng.pc.toNat + 1)) :
    GoesTo g ((s.grp g).eng.pc.toNat + 1) (s.grp g).eng.regs (s.grp g).eng.stack s
      ((s.cond g code m a).2.goTo g (s.grp g).eng.seqPc) := by
  refine State.goTo_goesTo hf hr hd ?_ ?_
  · exact s.cond_frame g code m a ▸ OnlyEngine.refl g _
  · rw [s.cond_frame g code m a]; rfl

/-- A CALL or RETURN whose condition holds goes to the address, with the stack it leaves. -/
theorem State.goTo_taken {code : BitVec 6} {m : LaneMask} {a : RegIx} {n : Nat} {st : List (BitVec 12)}
    {f : Engine → Engine} (hr : Runs s g) (hd : (s.grp g).eng.abDue = false) (hf : Fetchable s g n)
    (hst : f (s.grp g).eng = { (s.grp g).eng with stack := st }) :
    GoesTo g n (s.grp g).eng.regs st s (((s.cond g code m a).2.modE g f).goTo g n) := by
  have hg : (s.cond g code m a).2.grp g = s.grp g := by rw [s.cond_frame g code m a]; rfl
  refine State.goTo_goesTo hf hr hd (OnlyEngine.modE ?_ f) ?_
  · exact s.cond_frame g code m a ▸ OnlyEngine.refl g _
  · rw [State.grp_modE_same, hg, hst]

section
variable (code : BitVec 6) (target : BitVec 12) (m : LaneMask) (a : RegIx) (hr : Runs s g)
include hr

theorem exec_call_taken (hc : (s.cond g code m a).1 = true) (hl : (s.grp g).eng.stack.length < 8) :
    exec (.call g code target m a) s = .next (((s.cond g code m a).2.modE g fun e =>
      { e with stack := (e.pc + 1) :: e.stack }).goTo g target.toNat) :=
  (exec_seq_of_runs hr rfl).trans (by dsimp only; rw [if_pos hc, if_neg (by omega)])

theorem exec_call_full (hc : (s.cond g code m a).1 = true) (hl : 8 ≤ (s.grp g).eng.stack.length) :
    exec (.call g code target m a) s = .next ((s.cond g code m a).2.groupStop g kSTACK (s.grp g).eng.pc) :=
  (exec_seq_of_runs hr rfl).trans (by dsimp only; rw [if_pos hc, if_pos hl])

theorem exec_call_notTaken (hc : (s.cond g code m a).1 = false) :
    exec (.call g code target m a) s = .next ((s.cond g code m a).2.goTo g (s.grp g).eng.seqPc) :=
  (exec_seq_of_runs hr rfl).trans (by dsimp only; rw [if_neg (by simp [hc])])

theorem exec_return_taken {r : BitVec 12} {rest : List (BitVec 12)} (hc : (s.cond g code m a).1 = true)
    (hs : (s.grp g).eng.stack = r :: rest) :
    exec (.return g code m a) s = .next (((s.cond g code m a).2.modE g fun e => { e with stack := rest }).goTo g r.toNat) :=
  (exec_seq_of_runs hr rfl).trans (by dsimp only; rw [if_pos hc, hs])

theorem exec_return_empty (hc : (s.cond g code m a).1 = true) (hs : (s.grp g).eng.stack = []) :
    exec (.return g code m a) s = .next ((s.cond g code m a).2.groupStop g kSTACK (s.grp g).eng.pc) :=
  (exec_seq_of_runs hr rfl).trans (by dsimp only; rw [if_pos hc, hs])

theorem exec_return_notTaken (hc : (s.cond g code m a).1 = false) :
    exec (.return g code m a) s = .next ((s.cond g code m a).2.goTo g (s.grp g).eng.seqPc) :=
  (exec_seq_of_runs hr rfl).trans (by dsimp only; rw [if_neg (by simp [hc])])

end

/-! ## Restarts (05 R146) -/

theorem State.goTo_stacksKept (s : State) (g : GroupIx) (n : Nat) : StacksKept s (s.goTo g n) :=
  .ite (s.groupStop_stacksKept g _ _) (.ite (s.abandonNow_stacksKept g)
    ((s.modG_stacksKept g (.inr ⟨rfl, rfl⟩)).trans (State.fetch_stacksKept _ g)))

theorem State.nextCycle_stacksKept (s : State) (g : GroupIx) : StacksKept s (s.nextCycle g) :=
  .ite (s.advance_stacksKept _) (.refl s)

theorem State.field_stacksKept (s : State) (g : GroupIx) {f : State → State} (hf : ∀ t, StacksKept t (f t)) :
    StacksKept s (s.field g f) :=
  (s.nextCycle_stacksKept g).trans (.ite (hf _) (.refl _))

theorem State.interrupt_stacksKept (s : State) (g : GroupIx) : StacksKept s (s.interrupt g) := by
  have hSeen : StacksKept s (s.modG g fun gr => { gr with irqSeen := gr.irqSeen ||| s.irqPend g }) :=
    s.modG_stacksKept g (.refl _)
  exact .ite (.refl s) (.ite hSeen (hSeen.trans (State.abandonEvent_stacksKept _ g false)))

theorem State.linkXfer_stacksKept (s : State) (g : GroupIx) :
    StacksKept s ((((s.bump (adr (pTILE (tileOf g)) 0x0A)).event (pTILE (tileOf g)) 1).raise
      (srcGRP g) kLINK_XFER 0).abandonEvent g true) :=
  (((s.bump_kept _).trans (State.event_kept _ _ _)).trans (State.raise_kept _ _ _ _)).stacks.trans
    (State.abandonEvent_stacksKept _ g true)

/-- Whatever restarts a routine empties its stack. -/
theorem StacksKept.stack_nil_of_restart (h : StacksKept s t) (hr : (t.grp g).eng.restarts ≠ (s.grp g).eng.restarts) :
    (t.grp g).eng.stack = [] := by
  obtain h | ⟨-, h⟩ := h g
  · exact h
  · exact absurd h hr

/-! ## Release and END (02 R36, 05 R142 to R144) -/

/-- A routine is released with an empty stack. -/
theorem State.release_stack (s : State) (g : GroupIx) (h : (s.grp g).eng.running = false) :
    ((s.release g).grp g).eng.running = true → ((s.release g).grp g).eng.stack = [] := by
  intro hrun
  unfold State.release at hrun ⊢
  split at hrun
  case h_1 => simp [h] at hrun
  case h_2 i sl rest _ =>
    split at hrun
    case isFalse => simp [h] at hrun
    case isTrue hmay =>
      simp only [hmay, if_true]
      exact (((State.latchView_stacksKept _ g).trans (State.fetch_stacksKept _ g)) g).stack_nil
        (by rw [State.grp_modG_same]; rfl)

/-- A commit sends the staged entries out; a loss noted for the routine, and the group's stop, stay as they are. -/
theorem State.commitNow_kept (s : State) (g : GroupIx) :
    ((s.commitNow g).grp g).eng.postLoss = (s.grp g).eng.postLoss ∧ ((s.commitNow g).grp g).gstop = (s.grp g).gstop := by
  unfold State.commitNow
  extract_lets e st pend t
  split
  · exact ⟨rfl, rfl⟩
  · have ht : t.grp g = _ := s.grp_modG_same g _
    obtain ⟨heng, -, hstop⟩ := ProgramsKept.foldl (fun t x => t.releaseStaged_kept g x) st t g
    rw [heng, hstop, ht]
    exact ⟨rfl, rfl⟩

/-- The engine of a group whose routine ends with its word. -/
theorem State.endRoutine_ends (s : State) (g : GroupIx) :
    ((s.endRoutine g).grp g).eng.running = false ∧ ((s.endRoutine g).grp g).eng.stack = [] ∧
      ((s.grp g).eng.postLoss = false → ((s.endRoutine g).grp g).gstop = (s.grp g).gstop) := by
  obtain ⟨hloss, hstop⟩ := s.commitNow_kept g
  unfold State.endRoutine
  extract_lets t e u v
  have hv : (v.grp g).eng.running = false ∧ (v.grp g).eng.stack = [] ∧ (v.grp g).gstop = (t.grp g).gstop := by
    rw [State.grp_modG_same]
    dsimp only
    split <;> exact ⟨rfl, rfl, rfl⟩
  obtain ⟨hrun, hstack, hkept⟩ := hv
  split
  case isTrue h =>
    refine ⟨(v.groupStop_stopped g _ _).2.1, ?_, fun hn => ?_⟩
    · exact (v.groupStop_stacksKept g _ _ g).stack_nil hstack
    · rw [hloss, hn] at h; contradiction
  case isFalse => exact ⟨hrun, hstack, fun _ => hkept.trans hstop⟩

/-- An END of a word that the engine stands at ends the routine. -/
theorem exec_endSeq_of_runs (hr : Runs s g) : exec (.endSeq g) s = .next (s.endRoutine g) :=
  congrArg Host.Outcome.next (s.field_ready g (fun s => s.endRoutine g) hr)

end

/-! ## The statement -/

/-- Settles O14: the stack's two SEQ operations each by their cases; and every step that restarts a routine empties its stack. -/
theorem returnStack : Obligations.ReturnStack := by
  intro s g code target m a e c on stack stops restarts
  have hRestart {c : Instr} {t : State} (he : exec c s = .next t) (h : StacksKept s t) : Completes c s restarts :=
    ⟨t, he, h.stack_nil_of_restart⟩
  have hStop {c : Instr} (he : exec c s = .next ((s.cond g code m a).2.groupStop g kSTACK e.pc)) : Completes c s stops :=
    ⟨_, he, State.groupStop_stopped _ g _ _, State.groupStop_reason _ g _ _⟩
  refine ⟨fun hr hd => ⟨?call, ?callOn, ?ret, ?retOn, ?full, ?empty⟩, ?release, ?interrupt, ?linkXfer, ?next, ?ends⟩
  case call => exact fun hc hl hf => ⟨_, exec_call_taken code target m a hr hc hl, State.goTo_taken hr hd hf rfl⟩
  case callOn => exact fun hc hf => ⟨_, exec_call_notTaken code target m a hr hc, State.goTo_notTaken hr hd hf⟩
  case ret => exact fun r rest hc hs hf => ⟨_, exec_return_taken code m a hr hc hs, State.goTo_taken hr hd hf rfl⟩
  case retOn => exact fun hc hf => ⟨_, exec_return_notTaken code m a hr hc, State.goTo_notTaken hr hd hf⟩
  case full => exact fun hc hl => hStop (exec_call_full code target m a hr hc hl)
  case empty => exact fun hc hs => hStop (exec_return_empty code m a hr hc hs)
  case release => exact fun h => ⟨_, rfl, s.release_stack g h⟩
  case interrupt => exact hRestart rfl (s.interrupt_stacksKept g)
  case linkXfer => exact hRestart rfl (s.linkXfer_stacksKept g)
  case next => exact hRestart rfl (s.field_stacksKept g fun t => t.goTo_stacksKept g _)
  case ends => exact fun hr => ⟨_, exec_endSeq_of_runs hr, s.endRoutine_ends g⟩

end Sys2Proof.Machine
end

section
/-! PROOFS. The clear of a page's event bits (19 R463). -/

namespace Sys2Proof.Machine

open Sys2Proof

section
variable {s : State} {p : Nat}

/-! ## A header's change -/

/-- A change of a header is known by what it makes of the header that stands there. -/
theorem State.modHdr_congr {f f' : PageHdr → PageHdr} (h : f (s.hdr p) = f' (s.hdr p)) :
    s.modHdr p f = s.modHdr p f' := by
  rw [State.modHdr, State.modHdr, h]

theorem State.modHdr_setsHdr {f f' : PageHdr → PageHdr} (h : f (s.hdr p) = f' (s.hdr p)) :
    SetsHdr p f' s (s.modHdr p f) :=
  ⟨rfl, (s.hdr_modHdr_same p f).trans h, fun _ hq => s.hdr_modHdr_ne f hq⟩

/-! ## EVT_CLR (R463) -/

variable {page : Nat} {v : Word} (hp : pageListed (page % 512) = true)
include hp

theorem exec_evtClr_of_seq_eq (hseq : v.extractLsb' 16 16 = (s.hdr (page % 512)).seq) :
    exec (.evtClr page v) s = .next (s.modHdr (page % 512) fun h =>
      { h with evt := h.evt &&& ~~~(v.extractLsb' 0 16), stale := false }) := by
  refine congrArg Host.Outcome.next ((if_pos hp).trans (State.modHdr_congr ?_))
  rw [if_pos hseq, BitVec.setWidth_eq_extractLsb' (by decide)]

theorem exec_evtClr_of_seq_ne (hseq : v.extractLsb' 16 16 ≠ (s.hdr (page % 512)).seq) :
    exec (.evtClr page v) s = .next (s.modHdr (page % 512) fun h => { h with stale := true }) :=
  congrArg Host.Outcome.next ((if_pos hp).trans (State.modHdr_congr (if_neg hseq)))

end

/-! ## Bits of a cleared field -/

section
variable {w : Nat} {x m : BitVec w} {i : Nat}

theorem getLsbD_and_not_of_unmasked (h : m.getLsbD i = false) : (x &&& ~~~m).getLsbD i = x.getLsbD i := by
  rw [BitVec.getLsbD_and, BitVec.getLsbD_not, h]
  by_cases hi : i < w
  · simp [hi]
  · simp [BitVec.getLsbD_of_ge x i (by omega)]

theorem getLsbD_and_not_of_masked (h : m.getLsbD i = true) : (x &&& ~~~m).getLsbD i = false := by
  simp [h]

end

/-! ## The statement -/

/-- Settles O59: a clear with the page's SEQ and a stale one, each by what it makes of the page's header. -/
theorem eventClear : Obligations.EventClear := by
  intro s page v p h mask hp
  have hClears := exec_evtClr_of_seq_eq (s := s) (v := v) hp
  have hStale := exec_evtClr_of_seq_ne (s := s) (v := v) hp
  refine ⟨hClears, hStale, ?_⟩
  by_cases hseq : v.extractLsb' 16 16 = h.seq
  case pos =>
    refine ⟨_, hClears hseq, ?_⟩
    beta_reduce
    rw [State.hdr_modHdr_same]
    exact ⟨rfl, fun _ => getLsbD_and_not_of_unmasked, fun _ _ => getLsbD_and_not_of_masked, State.modHdr_setsHdr rfl⟩
  case neg =>
    refine ⟨_, hStale hseq, ?_⟩
    beta_reduce
    rw [State.hdr_modHdr_same]
    exact ⟨rfl, fun _ _ => rfl, fun heq => absurd heq hseq, State.modHdr_setsHdr rfl⟩

end Sys2Proof.Machine
end
